-- ==== Sys2Proof/Word.lean ====
section
/-! DEFINITION. The bit-string types of the manual: bytes, 32-bit words and 64-bit doublewords (spec/00_scope.md R9, R24). -/

namespace Sys2Proof

/-- An 8-bit byte. -/
abbrev Byte := BitVec 8
/-- A 32-bit word: an instruction, a word operand, the FCSR. -/
abbrev Word := BitVec 32
/-- A 64-bit doubleword: the container of every general register and address (notes/assumptions/16.md). -/
abbrev Dword := BitVec 64
/-- A 5-bit register number. -/
abbrev Reg := BitVec 5

end Sys2Proof
end

