-- ==== Sys2Proof/Syntax.lean ====
section
/-! DEFINITION. The instructions: one constructor for each row of spec/opcode_table.json, its arguments the row's fields at
their widths (spec/30_encoding.md R160 to R166). -/

namespace Sys2Proof

/-- An instruction. The fields are bit strings, as the encoding has them. -/
inductive Instr where
  /-- LB (MIPS I; R204). -/
  | lb (base rt : Reg) (offset : BitVec 16)
  /-- LBU (MIPS I; R205). -/
  | lbu (base rt : Reg) (offset : BitVec 16)
  /-- LH (MIPS I; R206). -/
  | lh (base rt : Reg) (offset : BitVec 16)
  /-- LHU (MIPS I; R207). -/
  | lhu (base rt : Reg) (offset : BitVec 16)
  /-- LW (MIPS I; R208). -/
  | lw (base rt : Reg) (offset : BitVec 16)
  /-- LWU (MIPS III; R209). -/
  | lwu (base rt : Reg) (offset : BitVec 16)
  /-- LD (MIPS III; R210). -/
  | ld (base rt : Reg) (offset : BitVec 16)
  /-- SB (MIPS I; R211). -/
  | sb (base rt : Reg) (offset : BitVec 16)
  /-- SH (MIPS I; R212). -/
  | sh (base rt : Reg) (offset : BitVec 16)
  /-- SW (MIPS I; R213). -/
  | sw (base rt : Reg) (offset : BitVec 16)
  /-- SD (MIPS III; R214). -/
  | sd (base rt : Reg) (offset : BitVec 16)
  /-- LWL (MIPS I; R215). -/
  | lwl (base rt : Reg) (offset : BitVec 16)
  /-- LWR (MIPS I; R216). -/
  | lwr (base rt : Reg) (offset : BitVec 16)
  /-- LDL (MIPS III; R217). -/
  | ldl (base rt : Reg) (offset : BitVec 16)
  /-- LDR (MIPS III; R218). -/
  | ldr (base rt : Reg) (offset : BitVec 16)
  /-- SWL (MIPS I; R219). -/
  | swl (base rt : Reg) (offset : BitVec 16)
  /-- SWR (MIPS I; R220). -/
  | swr (base rt : Reg) (offset : BitVec 16)
  /-- SDL (MIPS III; R221). -/
  | sdl (base rt : Reg) (offset : BitVec 16)
  /-- SDR (MIPS III; R222). -/
  | sdr (base rt : Reg) (offset : BitVec 16)
  /-- LL (MIPS II; R227). -/
  | ll (base rt : Reg) (offset : BitVec 16)
  /-- LLD (MIPS III; R228). -/
  | lld (base rt : Reg) (offset : BitVec 16)
  /-- SC (MIPS II; R229). -/
  | sc (base rt : Reg) (offset : BitVec 16)
  /-- SCD (MIPS III; R234). -/
  | scd (base rt : Reg) (offset : BitVec 16)
  /-- LWC2 (MIPS I; R240). -/
  | lwc2 (base rt : Reg) (offset : BitVec 16)
  /-- SWC2 (MIPS I; R241). -/
  | swc2 (base rt : Reg) (offset : BitVec 16)
  /-- LDC2 (MIPS II; R242). -/
  | ldc2 (base rt : Reg) (offset : BitVec 16)
  /-- SDC2 (MIPS II; R243). -/
  | sdc2 (base rt : Reg) (offset : BitVec 16)
  /-- PREF (MIPS IV; R432). -/
  | pref (base : Reg) (hint : BitVec 5) (offset : BitVec 16)
  /-- ADDI (MIPS I; R268). -/
  | addi (rs rt : Reg) (imm : BitVec 16)
  /-- ADDIU (MIPS I; R269). -/
  | addiu (rs rt : Reg) (imm : BitVec 16)
  /-- SLTI (MIPS I; R280). -/
  | slti (rs rt : Reg) (imm : BitVec 16)
  /-- SLTIU (MIPS I; R281). -/
  | sltiu (rs rt : Reg) (imm : BitVec 16)
  /-- ANDI (MIPS I; R284). -/
  | andi (rs rt : Reg) (imm : BitVec 16)
  /-- ORI (MIPS I; R286). -/
  | ori (rs rt : Reg) (imm : BitVec 16)
  /-- XORI (MIPS I; R288). -/
  | xori (rs rt : Reg) (imm : BitVec 16)
  /-- DADDI (MIPS III; R274). -/
  | daddi (rs rt : Reg) (imm : BitVec 16)
  /-- DADDIU (MIPS III; R275). -/
  | daddiu (rs rt : Reg) (imm : BitVec 16)
  /-- LUI (MIPS I; R290). -/
  | lui (rt : Reg) (imm : BitVec 16)
  /-- BEQ (MIPS I; R374). -/
  | beq (rs rt : Reg) (offset : BitVec 16)
  /-- BNE (MIPS I; R375). -/
  | bne (rs rt : Reg) (offset : BitVec 16)
  /-- BEQL (MIPS II; R376). -/
  | beql (rs rt : Reg) (offset : BitVec 16)
  /-- BNEL (MIPS II; R377). -/
  | bnel (rs rt : Reg) (offset : BitVec 16)
  /-- BLEZ (MIPS I; R378). -/
  | blez (rs : Reg) (offset : BitVec 16)
  /-- BGTZ (MIPS I; R379). -/
  | bgtz (rs : Reg) (offset : BitVec 16)
  /-- BLEZL (MIPS II; R380). -/
  | blezl (rs : Reg) (offset : BitVec 16)
  /-- BGTZL (MIPS II; R381). -/
  | bgtzl (rs : Reg) (offset : BitVec 16)
  /-- BLTZ (MIPS I; R382). -/
  | bltz (rs : Reg) (offset : BitVec 16)
  /-- BGEZ (MIPS I; R383). -/
  | bgez (rs : Reg) (offset : BitVec 16)
  /-- BLTZL (MIPS II; R384). -/
  | bltzl (rs : Reg) (offset : BitVec 16)
  /-- BGEZL (MIPS II; R385). -/
  | bgezl (rs : Reg) (offset : BitVec 16)
  /-- BLTZAL (MIPS I; R386). -/
  | bltzal (rs : Reg) (offset : BitVec 16)
  /-- BGEZAL (MIPS I; R387). -/
  | bgezal (rs : Reg) (offset : BitVec 16)
  /-- BLTZALL (MIPS II; R388). -/
  | bltzall (rs : Reg) (offset : BitVec 16)
  /-- BGEZALL (MIPS II; R389). -/
  | bgezall (rs : Reg) (offset : BitVec 16)
  /-- TGEI (MIPS II; R411). -/
  | tgei (rs : Reg) (imm : BitVec 16)
  /-- TGEIU (MIPS II; R412). -/
  | tgeiu (rs : Reg) (imm : BitVec 16)
  /-- TLTI (MIPS II; R413). -/
  | tlti (rs : Reg) (imm : BitVec 16)
  /-- TLTIU (MIPS II; R414). -/
  | tltiu (rs : Reg) (imm : BitVec 16)
  /-- TEQI (MIPS II; R415). -/
  | teqi (rs : Reg) (imm : BitVec 16)
  /-- TNEI (MIPS II; R416). -/
  | tnei (rs : Reg) (imm : BitVec 16)
  /-- J (MIPS I; R370). -/
  | j (index : BitVec 26)
  /-- JAL (MIPS I; R371). -/
  | jal (index : BitVec 26)
  /-- ADD (MIPS I; R267). -/
  | add (rs rt rd : Reg)
  /-- ADDU (MIPS I; R270). -/
  | addu (rs rt rd : Reg)
  /-- SUB (MIPS I; R271). -/
  | sub (rs rt rd : Reg)
  /-- SUBU (MIPS I; R272). -/
  | subu (rs rt rd : Reg)
  /-- AND (MIPS I; R283). -/
  | and (rs rt rd : Reg)
  /-- OR (MIPS I; R285). -/
  | or (rs rt rd : Reg)
  /-- XOR (MIPS I; R287). -/
  | xor (rs rt rd : Reg)
  /-- NOR (MIPS I; R289). -/
  | nor (rs rt rd : Reg)
  /-- SLT (MIPS I; R279). -/
  | slt (rs rt rd : Reg)
  /-- SLTU (MIPS I; R282). -/
  | sltu (rs rt rd : Reg)
  /-- DADD (MIPS III; R273). -/
  | dadd (rs rt rd : Reg)
  /-- DADDU (MIPS III; R276). -/
  | daddu (rs rt rd : Reg)
  /-- DSUB (MIPS III; R277). -/
  | dsub (rs rt rd : Reg)
  /-- DSUBU (MIPS III; R278). -/
  | dsubu (rs rt rd : Reg)
  /-- SLLV (MIPS I; R307). -/
  | sllv (rs rt rd : Reg)
  /-- SRLV (MIPS I; R309). -/
  | srlv (rs rt rd : Reg)
  /-- SRAV (MIPS I; R311). -/
  | srav (rs rt rd : Reg)
  /-- DSLLV (MIPS III; R314). -/
  | dsllv (rs rt rd : Reg)
  /-- DSRLV (MIPS III; R317). -/
  | dsrlv (rs rt rd : Reg)
  /-- DSRAV (MIPS III; R320). -/
  | dsrav (rs rt rd : Reg)
  /-- MOVZ (MIPS IV; R427). -/
  | movz (rs rt rd : Reg)
  /-- MOVN (MIPS IV; R426). -/
  | movn (rs rt rd : Reg)
  /-- SLL (MIPS I; R306). -/
  | sll (rt rd : Reg) (sa : BitVec 5)
  /-- SRL (MIPS I; R308). -/
  | srl (rt rd : Reg) (sa : BitVec 5)
  /-- SRA (MIPS I; R310). -/
  | sra (rt rd : Reg) (sa : BitVec 5)
  /-- DSLL (MIPS III; R312). -/
  | dsll (rt rd : Reg) (sa : BitVec 5)
  /-- DSRL (MIPS III; R315). -/
  | dsrl (rt rd : Reg) (sa : BitVec 5)
  /-- DSRA (MIPS III; R318). -/
  | dsra (rt rd : Reg) (sa : BitVec 5)
  /-- DSLL32 (MIPS III; R313). -/
  | dsll32 (rt rd : Reg) (sa : BitVec 5)
  /-- DSRL32 (MIPS III; R316). -/
  | dsrl32 (rt rd : Reg) (sa : BitVec 5)
  /-- DSRA32 (MIPS III; R319). -/
  | dsra32 (rt rd : Reg) (sa : BitVec 5)
  /-- MULT (MIPS I; R340). -/
  | mult (rs rt : Reg)
  /-- MULTU (MIPS I; R341). -/
  | multu (rs rt : Reg)
  /-- DIV (MIPS I; R344). -/
  | div (rs rt : Reg)
  /-- DIVU (MIPS I; R345). -/
  | divu (rs rt : Reg)
  /-- DMULT (MIPS III; R342). -/
  | dmult (rs rt : Reg)
  /-- DMULTU (MIPS III; R343). -/
  | dmultu (rs rt : Reg)
  /-- DDIV (MIPS III; R346). -/
  | ddiv (rs rt : Reg)
  /-- DDIVU (MIPS III; R347). -/
  | ddivu (rs rt : Reg)
  /-- MFHI (MIPS I; R348). -/
  | mfhi (rd : Reg)
  /-- MFLO (MIPS I; R349). -/
  | mflo (rd : Reg)
  /-- MTHI (MIPS I; R350). -/
  | mthi (rs : Reg)
  /-- MTLO (MIPS I; R351). -/
  | mtlo (rs : Reg)
  /-- JR (MIPS I; R372). -/
  | jr (rs : Reg)
  /-- JALR (MIPS I; R373). -/
  | jalr (rs rd : Reg)
  /-- SYSCALL (MIPS I; R402). -/
  | syscall (code : BitVec 20)
  /-- BREAK (MIPS I; R403). -/
  | breakpoint (code : BitVec 20)
  /-- SYNC (MIPS II; R420). -/
  | sync (stype : BitVec 5)
  /-- TGE (MIPS II; R405). -/
  | tge (rs rt : Reg) (code : BitVec 10)
  /-- TGEU (MIPS II; R406). -/
  | tgeu (rs rt : Reg) (code : BitVec 10)
  /-- TLT (MIPS II; R407). -/
  | tlt (rs rt : Reg) (code : BitVec 10)
  /-- TLTU (MIPS II; R408). -/
  | tltu (rs rt : Reg) (code : BitVec 10)
  /-- TEQ (MIPS II; R409). -/
  | teq (rs rt : Reg) (code : BitVec 10)
  /-- TNE (MIPS II; R410). -/
  | tne (rs rt : Reg) (code : BitVec 10)
  /-- MOVF (MIPS IV; R650). -/
  | movf (rs : Reg) (cc : BitVec 3) (rd : Reg)
  /-- MOVT (MIPS IV; R651). -/
  | movt (rs : Reg) (cc : BitVec 3) (rd : Reg)
  /-- COP0 (MIPS I; R441). -/
  | cop0 (copFun : BitVec 26)
  /-- COP2 (MIPS I; R442). -/
  | cop2 (copFun : BitVec 26)
  /-- LWC1 (MIPS I; R557). -/
  | lwc1 (base ft : Reg) (offset : BitVec 16)
  /-- SWC1 (MIPS I; R558). -/
  | swc1 (base ft : Reg) (offset : BitVec 16)
  /-- LDC1 (MIPS II; R559). -/
  | ldc1 (base ft : Reg) (offset : BitVec 16)
  /-- SDC1 (MIPS II; R560). -/
  | sdc1 (base ft : Reg) (offset : BitVec 16)
  /-- MFC1 (MIPS I; R568). -/
  | mfc1 (rt fs : Reg)
  /-- DMFC1 (MIPS III; R570). -/
  | dmfc1 (rt fs : Reg)
  /-- CFC1 (MIPS I; R566). -/
  | cfc1 (rt fs : Reg)
  /-- MTC1 (MIPS I; R569). -/
  | mtc1 (rt fs : Reg)
  /-- DMTC1 (MIPS III; R571). -/
  | dmtc1 (rt fs : Reg)
  /-- CTC1 (MIPS I; R567). -/
  | ctc1 (rt fs : Reg)
  /-- BC1F (MIPS I; R660). -/
  | bc1f (cc : BitVec 3) (offset : BitVec 16)
  /-- BC1T (MIPS I; R661). -/
  | bc1t (cc : BitVec 3) (offset : BitVec 16)
  /-- BC1FL (MIPS II; R662). -/
  | bc1fl (cc : BitVec 3) (offset : BitVec 16)
  /-- BC1TL (MIPS II; R663). -/
  | bc1tl (cc : BitVec 3) (offset : BitVec 16)
  /-- ADD.S (MIPS I; R582). -/
  | addS (ft fs fd : Reg)
  /-- ADD.D (MIPS I; R582). -/
  | addD (ft fs fd : Reg)
  /-- SUB.S (MIPS I; R583). -/
  | subS (ft fs fd : Reg)
  /-- SUB.D (MIPS I; R583). -/
  | subD (ft fs fd : Reg)
  /-- MUL.S (MIPS I; R584). -/
  | mulS (ft fs fd : Reg)
  /-- MUL.D (MIPS I; R584). -/
  | mulD (ft fs fd : Reg)
  /-- DIV.S (MIPS I; R585). -/
  | divS (ft fs fd : Reg)
  /-- DIV.D (MIPS I; R585). -/
  | divD (ft fs fd : Reg)
  /-- SQRT.S (MIPS II; R586). -/
  | sqrtS (fs fd : Reg)
  /-- SQRT.D (MIPS II; R586). -/
  | sqrtD (fs fd : Reg)
  /-- ABS.S (MIPS I; R587). -/
  | absS (fs fd : Reg)
  /-- ABS.D (MIPS I; R587). -/
  | absD (fs fd : Reg)
  /-- MOV.S (MIPS I; R641). -/
  | movS (fs fd : Reg)
  /-- MOV.D (MIPS I; R641). -/
  | movD (fs fd : Reg)
  /-- NEG.S (MIPS I; R588). -/
  | negS (fs fd : Reg)
  /-- NEG.D (MIPS I; R588). -/
  | negD (fs fd : Reg)
  /-- RECIP.S (MIPS IV; R592). -/
  | recipS (fs fd : Reg)
  /-- RECIP.D (MIPS IV; R592). -/
  | recipD (fs fd : Reg)
  /-- RSQRT.S (MIPS IV; R593). -/
  | rsqrtS (fs fd : Reg)
  /-- RSQRT.D (MIPS IV; R593). -/
  | rsqrtD (fs fd : Reg)
  /-- ROUND.L.S (MIPS III; R627). -/
  | roundLS (fs fd : Reg)
  /-- ROUND.L.D (MIPS III; R627). -/
  | roundLD (fs fd : Reg)
  /-- TRUNC.L.S (MIPS III; R629). -/
  | truncLS (fs fd : Reg)
  /-- TRUNC.L.D (MIPS III; R629). -/
  | truncLD (fs fd : Reg)
  /-- CEIL.L.S (MIPS III; R631). -/
  | ceilLS (fs fd : Reg)
  /-- CEIL.L.D (MIPS III; R631). -/
  | ceilLD (fs fd : Reg)
  /-- FLOOR.L.S (MIPS III; R633). -/
  | floorLS (fs fd : Reg)
  /-- FLOOR.L.D (MIPS III; R633). -/
  | floorLD (fs fd : Reg)
  /-- ROUND.W.S (MIPS II; R626). -/
  | roundWS (fs fd : Reg)
  /-- ROUND.W.D (MIPS II; R626). -/
  | roundWD (fs fd : Reg)
  /-- TRUNC.W.S (MIPS II; R628). -/
  | truncWS (fs fd : Reg)
  /-- TRUNC.W.D (MIPS II; R628). -/
  | truncWD (fs fd : Reg)
  /-- CEIL.W.S (MIPS II; R630). -/
  | ceilWS (fs fd : Reg)
  /-- CEIL.W.D (MIPS II; R630). -/
  | ceilWD (fs fd : Reg)
  /-- FLOOR.W.S (MIPS II; R632). -/
  | floorWS (fs fd : Reg)
  /-- FLOOR.W.D (MIPS II; R632). -/
  | floorWD (fs fd : Reg)
  /-- CVT.S.D (MIPS I; R622). -/
  | cvtSD (fs fd : Reg)
  /-- CVT.S.W (MIPS I; R622). -/
  | cvtSW (fs fd : Reg)
  /-- CVT.S.L (MIPS III; R622). -/
  | cvtSL (fs fd : Reg)
  /-- CVT.D.S (MIPS I; R623). -/
  | cvtDS (fs fd : Reg)
  /-- CVT.D.W (MIPS I; R623). -/
  | cvtDW (fs fd : Reg)
  /-- CVT.D.L (MIPS III; R623). -/
  | cvtDL (fs fd : Reg)
  /-- CVT.W.S (MIPS I; R624). -/
  | cvtWS (fs fd : Reg)
  /-- CVT.W.D (MIPS I; R624). -/
  | cvtWD (fs fd : Reg)
  /-- CVT.L.S (MIPS III; R625). -/
  | cvtLS (fs fd : Reg)
  /-- CVT.L.D (MIPS III; R625). -/
  | cvtLD (fs fd : Reg)
  /-- C.F.S (MIPS I; R600). -/
  | cFS (ft fs : Reg) (cc : BitVec 3)
  /-- C.F.D (MIPS I; R600). -/
  | cFD (ft fs : Reg) (cc : BitVec 3)
  /-- C.UN.S (MIPS I; R600). -/
  | cUnS (ft fs : Reg) (cc : BitVec 3)
  /-- C.UN.D (MIPS I; R600). -/
  | cUnD (ft fs : Reg) (cc : BitVec 3)
  /-- C.EQ.S (MIPS I; R600). -/
  | cEqS (ft fs : Reg) (cc : BitVec 3)
  /-- C.EQ.D (MIPS I; R600). -/
  | cEqD (ft fs : Reg) (cc : BitVec 3)
  /-- C.UEQ.S (MIPS I; R600). -/
  | cUeqS (ft fs : Reg) (cc : BitVec 3)
  /-- C.UEQ.D (MIPS I; R600). -/
  | cUeqD (ft fs : Reg) (cc : BitVec 3)
  /-- C.OLT.S (MIPS I; R600). -/
  | cOltS (ft fs : Reg) (cc : BitVec 3)
  /-- C.OLT.D (MIPS I; R600). -/
  | cOltD (ft fs : Reg) (cc : BitVec 3)
  /-- C.ULT.S (MIPS I; R600). -/
  | cUltS (ft fs : Reg) (cc : BitVec 3)
  /-- C.ULT.D (MIPS I; R600). -/
  | cUltD (ft fs : Reg) (cc : BitVec 3)
  /-- C.OLE.S (MIPS I; R600). -/
  | cOleS (ft fs : Reg) (cc : BitVec 3)
  /-- C.OLE.D (MIPS I; R600). -/
  | cOleD (ft fs : Reg) (cc : BitVec 3)
  /-- C.ULE.S (MIPS I; R600). -/
  | cUleS (ft fs : Reg) (cc : BitVec 3)
  /-- C.ULE.D (MIPS I; R600). -/
  | cUleD (ft fs : Reg) (cc : BitVec 3)
  /-- C.SF.S (MIPS I; R600). -/
  | cSfS (ft fs : Reg) (cc : BitVec 3)
  /-- C.SF.D (MIPS I; R600). -/
  | cSfD (ft fs : Reg) (cc : BitVec 3)
  /-- C.NGLE.S (MIPS I; R600). -/
  | cNgleS (ft fs : Reg) (cc : BitVec 3)
  /-- C.NGLE.D (MIPS I; R600). -/
  | cNgleD (ft fs : Reg) (cc : BitVec 3)
  /-- C.SEQ.S (MIPS I; R600). -/
  | cSeqS (ft fs : Reg) (cc : BitVec 3)
  /-- C.SEQ.D (MIPS I; R600). -/
  | cSeqD (ft fs : Reg) (cc : BitVec 3)
  /-- C.NGL.S (MIPS I; R600). -/
  | cNglS (ft fs : Reg) (cc : BitVec 3)
  /-- C.NGL.D (MIPS I; R600). -/
  | cNglD (ft fs : Reg) (cc : BitVec 3)
  /-- C.LT.S (MIPS I; R600). -/
  | cLtS (ft fs : Reg) (cc : BitVec 3)
  /-- C.LT.D (MIPS I; R600). -/
  | cLtD (ft fs : Reg) (cc : BitVec 3)
  /-- C.NGE.S (MIPS I; R600). -/
  | cNgeS (ft fs : Reg) (cc : BitVec 3)
  /-- C.NGE.D (MIPS I; R600). -/
  | cNgeD (ft fs : Reg) (cc : BitVec 3)
  /-- C.LE.S (MIPS I; R600). -/
  | cLeS (ft fs : Reg) (cc : BitVec 3)
  /-- C.LE.D (MIPS I; R600). -/
  | cLeD (ft fs : Reg) (cc : BitVec 3)
  /-- C.NGT.S (MIPS I; R600). -/
  | cNgtS (ft fs : Reg) (cc : BitVec 3)
  /-- C.NGT.D (MIPS I; R600). -/
  | cNgtD (ft fs : Reg) (cc : BitVec 3)
  /-- MOVF.S (MIPS IV; R642). -/
  | movfS (cc : BitVec 3) (fs fd : Reg)
  /-- MOVF.D (MIPS IV; R642). -/
  | movfD (cc : BitVec 3) (fs fd : Reg)
  /-- MOVT.S (MIPS IV; R643). -/
  | movtS (cc : BitVec 3) (fs fd : Reg)
  /-- MOVT.D (MIPS IV; R643). -/
  | movtD (cc : BitVec 3) (fs fd : Reg)
  /-- MOVZ.S (MIPS IV; R645). -/
  | movzS (rt fs fd : Reg)
  /-- MOVZ.D (MIPS IV; R645). -/
  | movzD (rt fs fd : Reg)
  /-- MOVN.S (MIPS IV; R644). -/
  | movnS (rt fs fd : Reg)
  /-- MOVN.D (MIPS IV; R644). -/
  | movnD (rt fs fd : Reg)
  /-- LWXC1 (MIPS IV; R561). -/
  | lwxc1 (base index fd : Reg)
  /-- LDXC1 (MIPS IV; R563). -/
  | ldxc1 (base index fd : Reg)
  /-- SWXC1 (MIPS IV; R562). -/
  | swxc1 (base index fs : Reg)
  /-- SDXC1 (MIPS IV; R564). -/
  | sdxc1 (base index fs : Reg)
  /-- PREFX (MIPS IV; R565). -/
  | prefx (base index : Reg) (hint : BitVec 5)
  /-- MADD.S (MIPS IV; R597). -/
  | maddS (fr ft fs fd : Reg)
  /-- MADD.D (MIPS IV; R597). -/
  | maddD (fr ft fs fd : Reg)
  /-- MSUB.S (MIPS IV; R598). -/
  | msubS (fr ft fs fd : Reg)
  /-- MSUB.D (MIPS IV; R598). -/
  | msubD (fr ft fs fd : Reg)
  /-- NMADD.S (MIPS IV; R599). -/
  | nmaddS (fr ft fs fd : Reg)
  /-- NMADD.D (MIPS IV; R599). -/
  | nmaddD (fr ft fs fd : Reg)
  /-- NMSUB.S (MIPS IV; R595). -/
  | nmsubS (fr ft fs fd : Reg)
  /-- NMSUB.D (MIPS IV; R595). -/
  | nmsubD (fr ft fs fd : Reg)
  deriving DecidableEq, Repr

end Sys2Proof
end

