-- ==== Sys2Proof/Decode.lean ====
section
/-! DEFINITION. The decoder (spec/30_encoding.md R167 to R189), total on any word and any bytes, and the encoder written
from the same tables (R161 to R165). The tables of the highest level are decoded here; what a lower level makes of a
word is in Machine/Operands.lean and in the meanings (R172, R173). -/

namespace Sys2Proof

/-- Why a word is no instruction. Each name becomes an exception of its own (Machine/Ops.lean `rejected`). -/
inductive Reject where
  /-- A `*` entry of the CPU tables (R171). -/
  | reservedCpu
  /-- A `*` entry of the COP1 tables (R186). -/
  | reservedCop1
  /-- A `*` entry of the COP1X table (R186). -/
  | reservedCop1x
  /-- A required-zero field of a CPU instruction is not zero (R169). -/
  | requiredZero
  /-- The same in a MOVCI word, after its coprocessor-usable test (R174, R189). -/
  | requiredZeroMovci
  /-- The same in a COP1 word whose format and function are an instruction from MIPS `n` on; below that level its tables
  show a `*` there (R172, R187). -/
  | requiredZeroCop1 (n : Nat)
  /-- The same in a COP1X word. -/
  | requiredZeroCop1x
  /-- Primary opcode 101111, with bits 25..0 (R170). -/
  | opcode2F (bits : BitVec 26)
  /-- Primary opcode 111011, SWC3 in MIPS I and II (R173). -/
  | opcodeSwc3
  /-- Not four bytes: an instruction is one 32-bit word (R160). -/
  | length
  deriving DecidableEq, Repr

/-- Bits 31..26, the primary opcode (R161). -/
def fOp (w : Word) : BitVec 6 := w.extractLsb' 26 6
/-- Bits 25..21: rs, base, fmt or fr. -/
def fRs (w : Word) : BitVec 5 := w.extractLsb' 21 5
/-- Bits 20..16: rt, ft, index, hint, or cc with nd and tf. -/
def fRt (w : Word) : BitVec 5 := w.extractLsb' 16 5
/-- Bits 15..11: rd or fs. -/
def fRd (w : Word) : BitVec 5 := w.extractLsb' 11 5
/-- Bits 10..6: sa, fd, or the cc of a compare with two zero bits. -/
def fSa (w : Word) : BitVec 5 := w.extractLsb' 6 5
/-- Bits 5..0: the function field. -/
def fFn (w : Word) : BitVec 6 := w.extractLsb' 0 6
/-- Bits 15..0: immediate or offset. -/
def fImm (w : Word) : BitVec 16 := w.extractLsb' 0 16
/-- Bits 25..0: instr_index or cop_fun. -/
def fIndex (w : Word) : BitVec 26 := w.extractLsb' 0 26
/-- Bits 25..6: the code of SYSCALL and BREAK. -/
def fCode20 (w : Word) : BitVec 20 := w.extractLsb' 6 20
/-- Bits 15..6: the code of the register traps. -/
def fCode10 (w : Word) : BitVec 10 := w.extractLsb' 6 10
/-- The condition code in the upper three bits of a five-bit field (R163). -/
def ccOf (f : BitVec 5) : BitVec 3 := f.extractLsb' 2 3
/-- The two bits below it: nd and tf of a branch, 0 and tf of a conditional move, 00 of a compare. -/
def ccLow (f : BitVec 5) : BitVec 2 := f.extractLsb' 0 2

/-- The instruction if its required-zero fields are zero (R169). -/
def zeroed (z : Bool) (r : Reject) (i : Instr) : Except Reject Instr := if z then .ok i else .error r

/-- Opcode SPECIAL, by the function field (R176), MOVCI further by tf (R185). -/
def decodeSpecial (w : Word) : Except Reject Instr :=
  match fFn w with
  | 0b000000#6 => zeroed (fRs w == 0) .requiredZero (.sll (fRt w) (fRd w) (fSa w))
  | 0b000010#6 => zeroed (fRs w == 0) .requiredZero (.srl (fRt w) (fRd w) (fSa w))
  | 0b000011#6 => zeroed (fRs w == 0) .requiredZero (.sra (fRt w) (fRd w) (fSa w))
  | 0b000100#6 => zeroed (fSa w == 0) .requiredZero (.sllv (fRs w) (fRt w) (fRd w))
  | 0b000110#6 => zeroed (fSa w == 0) .requiredZero (.srlv (fRs w) (fRt w) (fRd w))
  | 0b000111#6 => zeroed (fSa w == 0) .requiredZero (.srav (fRs w) (fRt w) (fRd w))
  | 0b001000#6 => zeroed (fRt w == 0 && fRd w == 0 && fSa w == 0) .requiredZero (.jr (fRs w))
  | 0b001001#6 => zeroed (fRt w == 0 && fSa w == 0) .requiredZero (.jalr (fRs w) (fRd w))
  | 0b001010#6 => zeroed (fSa w == 0) .requiredZero (.movz (fRs w) (fRt w) (fRd w))
  | 0b001011#6 => zeroed (fSa w == 0) .requiredZero (.movn (fRs w) (fRt w) (fRd w))
  | 0b001100#6 => .ok (.syscall (fCode20 w))
  | 0b001101#6 => .ok (.breakpoint (fCode20 w))
  | 0b001111#6 => zeroed (fRs w == 0 && fRt w == 0 && fRd w == 0) .requiredZero (.sync (fSa w))
  | 0b010000#6 => zeroed (fRs w == 0 && fRt w == 0 && fSa w == 0) .requiredZero (.mfhi (fRd w))
  | 0b010001#6 => zeroed (fRt w == 0 && fRd w == 0 && fSa w == 0) .requiredZero (.mthi (fRs w))
  | 0b010010#6 => zeroed (fRs w == 0 && fRt w == 0 && fSa w == 0) .requiredZero (.mflo (fRd w))
  | 0b010011#6 => zeroed (fRt w == 0 && fRd w == 0 && fSa w == 0) .requiredZero (.mtlo (fRs w))
  | 0b010100#6 => zeroed (fSa w == 0) .requiredZero (.dsllv (fRs w) (fRt w) (fRd w))
  | 0b010110#6 => zeroed (fSa w == 0) .requiredZero (.dsrlv (fRs w) (fRt w) (fRd w))
  | 0b010111#6 => zeroed (fSa w == 0) .requiredZero (.dsrav (fRs w) (fRt w) (fRd w))
  | 0b011000#6 => zeroed (fRd w == 0 && fSa w == 0) .requiredZero (.mult (fRs w) (fRt w))
  | 0b011001#6 => zeroed (fRd w == 0 && fSa w == 0) .requiredZero (.multu (fRs w) (fRt w))
  | 0b011010#6 => zeroed (fRd w == 0 && fSa w == 0) .requiredZero (.div (fRs w) (fRt w))
  | 0b011011#6 => zeroed (fRd w == 0 && fSa w == 0) .requiredZero (.divu (fRs w) (fRt w))
  | 0b011100#6 => zeroed (fRd w == 0 && fSa w == 0) .requiredZero (.dmult (fRs w) (fRt w))
  | 0b011101#6 => zeroed (fRd w == 0 && fSa w == 0) .requiredZero (.dmultu (fRs w) (fRt w))
  | 0b011110#6 => zeroed (fRd w == 0 && fSa w == 0) .requiredZero (.ddiv (fRs w) (fRt w))
  | 0b011111#6 => zeroed (fRd w == 0 && fSa w == 0) .requiredZero (.ddivu (fRs w) (fRt w))
  | 0b100000#6 => zeroed (fSa w == 0) .requiredZero (.add (fRs w) (fRt w) (fRd w))
  | 0b100001#6 => zeroed (fSa w == 0) .requiredZero (.addu (fRs w) (fRt w) (fRd w))
  | 0b100010#6 => zeroed (fSa w == 0) .requiredZero (.sub (fRs w) (fRt w) (fRd w))
  | 0b100011#6 => zeroed (fSa w == 0) .requiredZero (.subu (fRs w) (fRt w) (fRd w))
  | 0b100100#6 => zeroed (fSa w == 0) .requiredZero (.and (fRs w) (fRt w) (fRd w))
  | 0b100101#6 => zeroed (fSa w == 0) .requiredZero (.or (fRs w) (fRt w) (fRd w))
  | 0b100110#6 => zeroed (fSa w == 0) .requiredZero (.xor (fRs w) (fRt w) (fRd w))
  | 0b100111#6 => zeroed (fSa w == 0) .requiredZero (.nor (fRs w) (fRt w) (fRd w))
  | 0b101010#6 => zeroed (fSa w == 0) .requiredZero (.slt (fRs w) (fRt w) (fRd w))
  | 0b101011#6 => zeroed (fSa w == 0) .requiredZero (.sltu (fRs w) (fRt w) (fRd w))
  | 0b101100#6 => zeroed (fSa w == 0) .requiredZero (.dadd (fRs w) (fRt w) (fRd w))
  | 0b101101#6 => zeroed (fSa w == 0) .requiredZero (.daddu (fRs w) (fRt w) (fRd w))
  | 0b101110#6 => zeroed (fSa w == 0) .requiredZero (.dsub (fRs w) (fRt w) (fRd w))
  | 0b101111#6 => zeroed (fSa w == 0) .requiredZero (.dsubu (fRs w) (fRt w) (fRd w))
  | 0b110000#6 => .ok (.tge (fRs w) (fRt w) (fCode10 w))
  | 0b110001#6 => .ok (.tgeu (fRs w) (fRt w) (fCode10 w))
  | 0b110010#6 => .ok (.tlt (fRs w) (fRt w) (fCode10 w))
  | 0b110011#6 => .ok (.tltu (fRs w) (fRt w) (fCode10 w))
  | 0b110100#6 => .ok (.teq (fRs w) (fRt w) (fCode10 w))
  | 0b110110#6 => .ok (.tne (fRs w) (fRt w) (fCode10 w))
  | 0b111000#6 => zeroed (fRs w == 0) .requiredZero (.dsll (fRt w) (fRd w) (fSa w))
  | 0b111010#6 => zeroed (fRs w == 0) .requiredZero (.dsrl (fRt w) (fRd w) (fSa w))
  | 0b111011#6 => zeroed (fRs w == 0) .requiredZero (.dsra (fRt w) (fRd w) (fSa w))
  | 0b111100#6 => zeroed (fRs w == 0) .requiredZero (.dsll32 (fRt w) (fRd w) (fSa w))
  | 0b111110#6 => zeroed (fRs w == 0) .requiredZero (.dsrl32 (fRt w) (fRd w) (fSa w))
  | 0b111111#6 => zeroed (fRs w == 0) .requiredZero (.dsra32 (fRt w) (fRd w) (fSa w))
  | 0b000001#6 =>
    match ccLow (fRt w) with
    | 0b00#2 => zeroed (fSa w == 0) .requiredZeroMovci (.movf (fRs w) (ccOf (fRt w)) (fRd w))
    | 0b01#2 => zeroed (fSa w == 0) .requiredZeroMovci (.movt (fRs w) (ccOf (fRt w)) (fRd w))
    | _ => .error .requiredZeroMovci
  | _ => .error .reservedCpu

/-- Opcode REGIMM, by the rt field (R177). -/
def decodeRegimm (w : Word) : Except Reject Instr :=
  match fRt w with
  | 0b00000#5 => .ok (.bltz (fRs w) (fImm w))
  | 0b00001#5 => .ok (.bgez (fRs w) (fImm w))
  | 0b00010#5 => .ok (.bltzl (fRs w) (fImm w))
  | 0b00011#5 => .ok (.bgezl (fRs w) (fImm w))
  | 0b01000#5 => .ok (.tgei (fRs w) (fImm w))
  | 0b01001#5 => .ok (.tgeiu (fRs w) (fImm w))
  | 0b01010#5 => .ok (.tlti (fRs w) (fImm w))
  | 0b01011#5 => .ok (.tltiu (fRs w) (fImm w))
  | 0b01100#5 => .ok (.teqi (fRs w) (fImm w))
  | 0b01110#5 => .ok (.tnei (fRs w) (fImm w))
  | 0b10000#5 => .ok (.bltzal (fRs w) (fImm w))
  | 0b10001#5 => .ok (.bgezal (fRs w) (fImm w))
  | 0b10010#5 => .ok (.bltzall (fRs w) (fImm w))
  | 0b10011#5 => .ok (.bgezall (fRs w) (fImm w))
  | _ => .error .reservedCpu

/-- Opcode COP1 with fmt = S (R182), by the function field. -/
def decodeFmtS (w : Word) : Except Reject Instr :=
  match fFn w with
  | 0b000000#6 => .ok (.addS (fRt w) (fRd w) (fSa w))
  | 0b000001#6 => .ok (.subS (fRt w) (fRd w) (fSa w))
  | 0b000010#6 => .ok (.mulS (fRt w) (fRd w) (fSa w))
  | 0b000011#6 => .ok (.divS (fRt w) (fRd w) (fSa w))
  | 0b000100#6 => zeroed (fRt w == 0) (.requiredZeroCop1 2) (.sqrtS (fRd w) (fSa w))
  | 0b000101#6 => zeroed (fRt w == 0) (.requiredZeroCop1 1) (.absS (fRd w) (fSa w))
  | 0b000110#6 => zeroed (fRt w == 0) (.requiredZeroCop1 1) (.movS (fRd w) (fSa w))
  | 0b000111#6 => zeroed (fRt w == 0) (.requiredZeroCop1 1) (.negS (fRd w) (fSa w))
  | 0b001000#6 => zeroed (fRt w == 0) (.requiredZeroCop1 3) (.roundLS (fRd w) (fSa w))
  | 0b001001#6 => zeroed (fRt w == 0) (.requiredZeroCop1 3) (.truncLS (fRd w) (fSa w))
  | 0b001010#6 => zeroed (fRt w == 0) (.requiredZeroCop1 3) (.ceilLS (fRd w) (fSa w))
  | 0b001011#6 => zeroed (fRt w == 0) (.requiredZeroCop1 3) (.floorLS (fRd w) (fSa w))
  | 0b001100#6 => zeroed (fRt w == 0) (.requiredZeroCop1 2) (.roundWS (fRd w) (fSa w))
  | 0b001101#6 => zeroed (fRt w == 0) (.requiredZeroCop1 2) (.truncWS (fRd w) (fSa w))
  | 0b001110#6 => zeroed (fRt w == 0) (.requiredZeroCop1 2) (.ceilWS (fRd w) (fSa w))
  | 0b001111#6 => zeroed (fRt w == 0) (.requiredZeroCop1 2) (.floorWS (fRd w) (fSa w))
  | 0b010010#6 => .ok (.movzS (fRt w) (fRd w) (fSa w))
  | 0b010011#6 => .ok (.movnS (fRt w) (fRd w) (fSa w))
  | 0b010101#6 => zeroed (fRt w == 0) (.requiredZeroCop1 4) (.recipS (fRd w) (fSa w))
  | 0b010110#6 => zeroed (fRt w == 0) (.requiredZeroCop1 4) (.rsqrtS (fRd w) (fSa w))
  | 0b100001#6 => zeroed (fRt w == 0) (.requiredZeroCop1 1) (.cvtDS (fRd w) (fSa w))
  | 0b100100#6 => zeroed (fRt w == 0) (.requiredZeroCop1 1) (.cvtWS (fRd w) (fSa w))
  | 0b100101#6 => zeroed (fRt w == 0) (.requiredZeroCop1 3) (.cvtLS (fRd w) (fSa w))
  | 0b110000#6 => zeroed (ccLow (fSa w) == 0) (.requiredZeroCop1 1) (.cFS (fRt w) (fRd w) (ccOf (fSa w)))
  | 0b110001#6 => zeroed (ccLow (fSa w) == 0) (.requiredZeroCop1 1) (.cUnS (fRt w) (fRd w) (ccOf (fSa w)))
  | 0b110010#6 => zeroed (ccLow (fSa w) == 0) (.requiredZeroCop1 1) (.cEqS (fRt w) (fRd w) (ccOf (fSa w)))
  | 0b110011#6 => zeroed (ccLow (fSa w) == 0) (.requiredZeroCop1 1) (.cUeqS (fRt w) (fRd w) (ccOf (fSa w)))
  | 0b110100#6 => zeroed (ccLow (fSa w) == 0) (.requiredZeroCop1 1) (.cOltS (fRt w) (fRd w) (ccOf (fSa w)))
  | 0b110101#6 => zeroed (ccLow (fSa w) == 0) (.requiredZeroCop1 1) (.cUltS (fRt w) (fRd w) (ccOf (fSa w)))
  | 0b110110#6 => zeroed (ccLow (fSa w) == 0) (.requiredZeroCop1 1) (.cOleS (fRt w) (fRd w) (ccOf (fSa w)))
  | 0b110111#6 => zeroed (ccLow (fSa w) == 0) (.requiredZeroCop1 1) (.cUleS (fRt w) (fRd w) (ccOf (fSa w)))
  | 0b111000#6 => zeroed (ccLow (fSa w) == 0) (.requiredZeroCop1 1) (.cSfS (fRt w) (fRd w) (ccOf (fSa w)))
  | 0b111001#6 => zeroed (ccLow (fSa w) == 0) (.requiredZeroCop1 1) (.cNgleS (fRt w) (fRd w) (ccOf (fSa w)))
  | 0b111010#6 => zeroed (ccLow (fSa w) == 0) (.requiredZeroCop1 1) (.cSeqS (fRt w) (fRd w) (ccOf (fSa w)))
  | 0b111011#6 => zeroed (ccLow (fSa w) == 0) (.requiredZeroCop1 1) (.cNglS (fRt w) (fRd w) (ccOf (fSa w)))
  | 0b111100#6 => zeroed (ccLow (fSa w) == 0) (.requiredZeroCop1 1) (.cLtS (fRt w) (fRd w) (ccOf (fSa w)))
  | 0b111101#6 => zeroed (ccLow (fSa w) == 0) (.requiredZeroCop1 1) (.cNgeS (fRt w) (fRd w) (ccOf (fSa w)))
  | 0b111110#6 => zeroed (ccLow (fSa w) == 0) (.requiredZeroCop1 1) (.cLeS (fRt w) (fRd w) (ccOf (fSa w)))
  | 0b111111#6 => zeroed (ccLow (fSa w) == 0) (.requiredZeroCop1 1) (.cNgtS (fRt w) (fRd w) (ccOf (fSa w)))
  | 0b010001#6 =>
    match ccLow (fRt w) with
    | 0b00#2 => .ok (.movfS (ccOf (fRt w)) (fRd w) (fSa w))
    | 0b01#2 => .ok (.movtS (ccOf (fRt w)) (fRd w) (fSa w))
    | _ => .error (.requiredZeroCop1 4)
  | _ => .error .reservedCop1

/-- Opcode COP1 with fmt = D (R182), by the function field. -/
def decodeFmtD (w : Word) : Except Reject Instr :=
  match fFn w with
  | 0b000000#6 => .ok (.addD (fRt w) (fRd w) (fSa w))
  | 0b000001#6 => .ok (.subD (fRt w) (fRd w) (fSa w))
  | 0b000010#6 => .ok (.mulD (fRt w) (fRd w) (fSa w))
  | 0b000011#6 => .ok (.divD (fRt w) (fRd w) (fSa w))
  | 0b000100#6 => zeroed (fRt w == 0) (.requiredZeroCop1 2) (.sqrtD (fRd w) (fSa w))
  | 0b000101#6 => zeroed (fRt w == 0) (.requiredZeroCop1 1) (.absD (fRd w) (fSa w))
  | 0b000110#6 => zeroed (fRt w == 0) (.requiredZeroCop1 1) (.movD (fRd w) (fSa w))
  | 0b000111#6 => zeroed (fRt w == 0) (.requiredZeroCop1 1) (.negD (fRd w) (fSa w))
  | 0b001000#6 => zeroed (fRt w == 0) (.requiredZeroCop1 3) (.roundLD (fRd w) (fSa w))
  | 0b001001#6 => zeroed (fRt w == 0) (.requiredZeroCop1 3) (.truncLD (fRd w) (fSa w))
  | 0b001010#6 => zeroed (fRt w == 0) (.requiredZeroCop1 3) (.ceilLD (fRd w) (fSa w))
  | 0b001011#6 => zeroed (fRt w == 0) (.requiredZeroCop1 3) (.floorLD (fRd w) (fSa w))
  | 0b001100#6 => zeroed (fRt w == 0) (.requiredZeroCop1 2) (.roundWD (fRd w) (fSa w))
  | 0b001101#6 => zeroed (fRt w == 0) (.requiredZeroCop1 2) (.truncWD (fRd w) (fSa w))
  | 0b001110#6 => zeroed (fRt w == 0) (.requiredZeroCop1 2) (.ceilWD (fRd w) (fSa w))
  | 0b001111#6 => zeroed (fRt w == 0) (.requiredZeroCop1 2) (.floorWD (fRd w) (fSa w))
  | 0b010010#6 => .ok (.movzD (fRt w) (fRd w) (fSa w))
  | 0b010011#6 => .ok (.movnD (fRt w) (fRd w) (fSa w))
  | 0b010101#6 => zeroed (fRt w == 0) (.requiredZeroCop1 4) (.recipD (fRd w) (fSa w))
  | 0b010110#6 => zeroed (fRt w == 0) (.requiredZeroCop1 4) (.rsqrtD (fRd w) (fSa w))
  | 0b100000#6 => zeroed (fRt w == 0) (.requiredZeroCop1 1) (.cvtSD (fRd w) (fSa w))
  | 0b100100#6 => zeroed (fRt w == 0) (.requiredZeroCop1 1) (.cvtWD (fRd w) (fSa w))
  | 0b100101#6 => zeroed (fRt w == 0) (.requiredZeroCop1 3) (.cvtLD (fRd w) (fSa w))
  | 0b110000#6 => zeroed (ccLow (fSa w) == 0) (.requiredZeroCop1 1) (.cFD (fRt w) (fRd w) (ccOf (fSa w)))
  | 0b110001#6 => zeroed (ccLow (fSa w) == 0) (.requiredZeroCop1 1) (.cUnD (fRt w) (fRd w) (ccOf (fSa w)))
  | 0b110010#6 => zeroed (ccLow (fSa w) == 0) (.requiredZeroCop1 1) (.cEqD (fRt w) (fRd w) (ccOf (fSa w)))
  | 0b110011#6 => zeroed (ccLow (fSa w) == 0) (.requiredZeroCop1 1) (.cUeqD (fRt w) (fRd w) (ccOf (fSa w)))
  | 0b110100#6 => zeroed (ccLow (fSa w) == 0) (.requiredZeroCop1 1) (.cOltD (fRt w) (fRd w) (ccOf (fSa w)))
  | 0b110101#6 => zeroed (ccLow (fSa w) == 0) (.requiredZeroCop1 1) (.cUltD (fRt w) (fRd w) (ccOf (fSa w)))
  | 0b110110#6 => zeroed (ccLow (fSa w) == 0) (.requiredZeroCop1 1) (.cOleD (fRt w) (fRd w) (ccOf (fSa w)))
  | 0b110111#6 => zeroed (ccLow (fSa w) == 0) (.requiredZeroCop1 1) (.cUleD (fRt w) (fRd w) (ccOf (fSa w)))
  | 0b111000#6 => zeroed (ccLow (fSa w) == 0) (.requiredZeroCop1 1) (.cSfD (fRt w) (fRd w) (ccOf (fSa w)))
  | 0b111001#6 => zeroed (ccLow (fSa w) == 0) (.requiredZeroCop1 1) (.cNgleD (fRt w) (fRd w) (ccOf (fSa w)))
  | 0b111010#6 => zeroed (ccLow (fSa w) == 0) (.requiredZeroCop1 1) (.cSeqD (fRt w) (fRd w) (ccOf (fSa w)))
  | 0b111011#6 => zeroed (ccLow (fSa w) == 0) (.requiredZeroCop1 1) (.cNglD (fRt w) (fRd w) (ccOf (fSa w)))
  | 0b111100#6 => zeroed (ccLow (fSa w) == 0) (.requiredZeroCop1 1) (.cLtD (fRt w) (fRd w) (ccOf (fSa w)))
  | 0b111101#6 => zeroed (ccLow (fSa w) == 0) (.requiredZeroCop1 1) (.cNgeD (fRt w) (fRd w) (ccOf (fSa w)))
  | 0b111110#6 => zeroed (ccLow (fSa w) == 0) (.requiredZeroCop1 1) (.cLeD (fRt w) (fRd w) (ccOf (fSa w)))
  | 0b111111#6 => zeroed (ccLow (fSa w) == 0) (.requiredZeroCop1 1) (.cNgtD (fRt w) (fRd w) (ccOf (fSa w)))
  | 0b010001#6 =>
    match ccLow (fRt w) with
    | 0b00#2 => .ok (.movfD (ccOf (fRt w)) (fRd w) (fSa w))
    | 0b01#2 => .ok (.movtD (ccOf (fRt w)) (fRd w) (fSa w))
    | _ => .error (.requiredZeroCop1 4)
  | _ => .error .reservedCop1

/-- Opcode COP1 with fmt = W (R183), by the function field. -/
def decodeFmtW (w : Word) : Except Reject Instr :=
  match fFn w with
  | 0b100000#6 => zeroed (fRt w == 0) (.requiredZeroCop1 1) (.cvtSW (fRd w) (fSa w))
  | 0b100001#6 => zeroed (fRt w == 0) (.requiredZeroCop1 1) (.cvtDW (fRd w) (fSa w))
  | _ => .error .reservedCop1

/-- Opcode COP1 with fmt = L (R183), by the function field. -/
def decodeFmtL (w : Word) : Except Reject Instr :=
  match fFn w with
  | 0b100000#6 => zeroed (fRt w == 0) (.requiredZeroCop1 3) (.cvtSL (fRd w) (fSa w))
  | 0b100001#6 => zeroed (fRt w == 0) (.requiredZeroCop1 3) (.cvtDL (fRd w) (fSa w))
  | _ => .error .reservedCop1

/-- Opcode COP1, by the fmt field (R180), BC further by nd and tf (R181). -/
def decodeCop1 (w : Word) : Except Reject Instr :=
  match fRs w with
  | 0b00000#5 => zeroed (fSa w == 0 && fFn w == 0) (.requiredZeroCop1 1) (.mfc1 (fRt w) (fRd w))
  | 0b00001#5 => zeroed (fSa w == 0 && fFn w == 0) (.requiredZeroCop1 3) (.dmfc1 (fRt w) (fRd w))
  | 0b00010#5 => zeroed (fSa w == 0 && fFn w == 0) (.requiredZeroCop1 1) (.cfc1 (fRt w) (fRd w))
  | 0b00100#5 => zeroed (fSa w == 0 && fFn w == 0) (.requiredZeroCop1 1) (.mtc1 (fRt w) (fRd w))
  | 0b00101#5 => zeroed (fSa w == 0 && fFn w == 0) (.requiredZeroCop1 3) (.dmtc1 (fRt w) (fRd w))
  | 0b00110#5 => zeroed (fSa w == 0 && fFn w == 0) (.requiredZeroCop1 1) (.ctc1 (fRt w) (fRd w))
  | 0b01000#5 =>
    match ccLow (fRt w) with
    | 0b00#2 => .ok (.bc1f (ccOf (fRt w)) (fImm w))
    | 0b01#2 => .ok (.bc1t (ccOf (fRt w)) (fImm w))
    | 0b10#2 => .ok (.bc1fl (ccOf (fRt w)) (fImm w))
    | 0b11#2 => .ok (.bc1tl (ccOf (fRt w)) (fImm w))
  | 0b10000#5 => decodeFmtS w
  | 0b10001#5 => decodeFmtD w
  | 0b10100#5 => decodeFmtW w
  | 0b10101#5 => decodeFmtL w
  | _ => .error .reservedCop1

/-- Opcode COP1X, by the function field (R184). -/
def decodeCop1x (w : Word) : Except Reject Instr :=
  match fFn w with
  | 0b000000#6 => zeroed (fRd w == 0) .requiredZeroCop1x (.lwxc1 (fRs w) (fRt w) (fSa w))
  | 0b000001#6 => zeroed (fRd w == 0) .requiredZeroCop1x (.ldxc1 (fRs w) (fRt w) (fSa w))
  | 0b001000#6 => zeroed (fSa w == 0) .requiredZeroCop1x (.swxc1 (fRs w) (fRt w) (fRd w))
  | 0b001001#6 => zeroed (fSa w == 0) .requiredZeroCop1x (.sdxc1 (fRs w) (fRt w) (fRd w))
  | 0b001111#6 => zeroed (fSa w == 0) .requiredZeroCop1x (.prefx (fRs w) (fRt w) (fRd w))
  | 0b100000#6 => .ok (.maddS (fRs w) (fRt w) (fRd w) (fSa w))
  | 0b100001#6 => .ok (.maddD (fRs w) (fRt w) (fRd w) (fSa w))
  | 0b101000#6 => .ok (.msubS (fRs w) (fRt w) (fRd w) (fSa w))
  | 0b101001#6 => .ok (.msubD (fRs w) (fRt w) (fRd w) (fSa w))
  | 0b110000#6 => .ok (.nmaddS (fRs w) (fRt w) (fRd w) (fSa w))
  | 0b110001#6 => .ok (.nmaddD (fRs w) (fRt w) (fRd w) (fSa w))
  | 0b111000#6 => .ok (.nmsubS (fRs w) (fRt w) (fRd w) (fSa w))
  | 0b111001#6 => .ok (.nmsubD (fRs w) (fRt w) (fRd w) (fSa w))
  | _ => .error .reservedCop1x

/-- The complete decode of a word, the primary opcode first (R175, R189). -/
def decode (w : Word) : Except Reject Instr :=
  match fOp w with
  | 0b000000#6 => decodeSpecial w
  | 0b000001#6 => decodeRegimm w
  | 0b010001#6 => decodeCop1 w
  | 0b010011#6 => decodeCop1x w
  | 0b000010#6 => .ok (.j (fIndex w))
  | 0b000011#6 => .ok (.jal (fIndex w))
  | 0b000100#6 => .ok (.beq (fRs w) (fRt w) (fImm w))
  | 0b000101#6 => .ok (.bne (fRs w) (fRt w) (fImm w))
  | 0b000110#6 => zeroed (fRt w == 0) .requiredZero (.blez (fRs w) (fImm w))
  | 0b000111#6 => zeroed (fRt w == 0) .requiredZero (.bgtz (fRs w) (fImm w))
  | 0b001000#6 => .ok (.addi (fRs w) (fRt w) (fImm w))
  | 0b001001#6 => .ok (.addiu (fRs w) (fRt w) (fImm w))
  | 0b001010#6 => .ok (.slti (fRs w) (fRt w) (fImm w))
  | 0b001011#6 => .ok (.sltiu (fRs w) (fRt w) (fImm w))
  | 0b001100#6 => .ok (.andi (fRs w) (fRt w) (fImm w))
  | 0b001101#6 => .ok (.ori (fRs w) (fRt w) (fImm w))
  | 0b001110#6 => .ok (.xori (fRs w) (fRt w) (fImm w))
  | 0b001111#6 => zeroed (fRs w == 0) .requiredZero (.lui (fRt w) (fImm w))
  | 0b010000#6 => .ok (.cop0 (fIndex w))
  | 0b010010#6 => .ok (.cop2 (fIndex w))
  | 0b010100#6 => .ok (.beql (fRs w) (fRt w) (fImm w))
  | 0b010101#6 => .ok (.bnel (fRs w) (fRt w) (fImm w))
  | 0b010110#6 => zeroed (fRt w == 0) .requiredZero (.blezl (fRs w) (fImm w))
  | 0b010111#6 => zeroed (fRt w == 0) .requiredZero (.bgtzl (fRs w) (fImm w))
  | 0b011000#6 => .ok (.daddi (fRs w) (fRt w) (fImm w))
  | 0b011001#6 => .ok (.daddiu (fRs w) (fRt w) (fImm w))
  | 0b011010#6 => .ok (.ldl (fRs w) (fRt w) (fImm w))
  | 0b011011#6 => .ok (.ldr (fRs w) (fRt w) (fImm w))
  | 0b100000#6 => .ok (.lb (fRs w) (fRt w) (fImm w))
  | 0b100001#6 => .ok (.lh (fRs w) (fRt w) (fImm w))
  | 0b100010#6 => .ok (.lwl (fRs w) (fRt w) (fImm w))
  | 0b100011#6 => .ok (.lw (fRs w) (fRt w) (fImm w))
  | 0b100100#6 => .ok (.lbu (fRs w) (fRt w) (fImm w))
  | 0b100101#6 => .ok (.lhu (fRs w) (fRt w) (fImm w))
  | 0b100110#6 => .ok (.lwr (fRs w) (fRt w) (fImm w))
  | 0b100111#6 => .ok (.lwu (fRs w) (fRt w) (fImm w))
  | 0b101000#6 => .ok (.sb (fRs w) (fRt w) (fImm w))
  | 0b101001#6 => .ok (.sh (fRs w) (fRt w) (fImm w))
  | 0b101010#6 => .ok (.swl (fRs w) (fRt w) (fImm w))
  | 0b101011#6 => .ok (.sw (fRs w) (fRt w) (fImm w))
  | 0b101100#6 => .ok (.sdl (fRs w) (fRt w) (fImm w))
  | 0b101101#6 => .ok (.sdr (fRs w) (fRt w) (fImm w))
  | 0b101110#6 => .ok (.swr (fRs w) (fRt w) (fImm w))
  | 0b110000#6 => .ok (.ll (fRs w) (fRt w) (fImm w))
  | 0b110001#6 => .ok (.lwc1 (fRs w) (fRt w) (fImm w))
  | 0b110010#6 => .ok (.lwc2 (fRs w) (fRt w) (fImm w))
  | 0b110011#6 => .ok (.pref (fRs w) (fRt w) (fImm w))
  | 0b110100#6 => .ok (.lld (fRs w) (fRt w) (fImm w))
  | 0b110101#6 => .ok (.ldc1 (fRs w) (fRt w) (fImm w))
  | 0b110110#6 => .ok (.ldc2 (fRs w) (fRt w) (fImm w))
  | 0b110111#6 => .ok (.ld (fRs w) (fRt w) (fImm w))
  | 0b111000#6 => .ok (.sc (fRs w) (fRt w) (fImm w))
  | 0b111001#6 => .ok (.swc1 (fRs w) (fRt w) (fImm w))
  | 0b111010#6 => .ok (.swc2 (fRs w) (fRt w) (fImm w))
  | 0b111100#6 => .ok (.scd (fRs w) (fRt w) (fImm w))
  | 0b111101#6 => .ok (.sdc1 (fRs w) (fRt w) (fImm w))
  | 0b111110#6 => .ok (.sdc2 (fRs w) (fRt w) (fImm w))
  | 0b111111#6 => .ok (.sd (fRs w) (fRt w) (fImm w))
  | 0b101111#6 => .error (.opcode2F (fIndex w))
  | 0b111011#6 => .error .opcodeSwc3
  | _ => .error .reservedCpu

/-- The word of four bytes as the hardware stores them, in `BigEndianMem` order (20_memory.md R118). -/
def wordOfBytes (bigEndian : Bool) (b0 b1 b2 b3 : Byte) : Word :=
  if bigEndian then b0 ++ b1 ++ b2 ++ b3 else b3 ++ b2 ++ b1 ++ b0

/-- The four bytes of a word, lowest address first. -/
def bytesOfWord (bigEndian : Bool) (w : Word) : List Byte :=
  if bigEndian then [w.extractLsb' 24 8, w.extractLsb' 16 8, w.extractLsb' 8 8, w.extractLsb' 0 8]
  else [w.extractLsb' 0 8, w.extractLsb' 8 8, w.extractLsb' 16 8, w.extractLsb' 24 8]

/-- Decoding on bytes: the instruction in the first four, and the rest. -/
def decodeBytes (bigEndian : Bool) : List Byte → Except Reject (Instr × List Byte)
  | b0 :: b1 :: b2 :: b3 :: rest => (decode (wordOfBytes bigEndian b0 b1 b2 b3)).map (fun i => (i, rest))
  | _ => .error .length

/-- The host's view of the decoder: the instruction of the word `w` (every row has 32 bits), laid out in bytes and read
back. -/
def decodeTableWord (nbits w : Nat) : Option Instr :=
  if nbits ≤ 32 then
    match decodeBytes true (bytesOfWord true (BitVec.ofNat 32 (w % 2 ^ nbits))) with
    | .ok (i, _) => some i
    | .error _ => none
  else none

/-- I-type: opcode, two registers, sixteen bits (R161). -/
def packI (op : BitVec 6) (rs rt : BitVec 5) (imm : BitVec 16) : Word := op ++ rs ++ rt ++ imm
/-- R-type: opcode, four five-bit fields, function (R161); the FPU formats are its renamings (R163). -/
def packR (op : BitVec 6) (rs rt rd sa : BitVec 5) (fn : BitVec 6) : Word := op ++ rs ++ rt ++ rd ++ sa ++ fn
/-- J-type: opcode and twenty-six bits (R161). -/
def packJ (op : BitVec 6) (index : BitVec 26) : Word := op ++ index
/-- SYSCALL and BREAK (R162). -/
def packCode20 (op : BitVec 6) (code : BitVec 20) (fn : BitVec 6) : Word := op ++ code ++ fn
/-- The register traps (R162). -/
def packCode10 (op : BitVec 6) (rs rt : BitVec 5) (code : BitVec 10) (fn : BitVec 6) : Word := op ++ rs ++ rt ++ code ++ fn
/-- A condition code with the two bits below it (R163). -/
def packCc (cc : BitVec 3) (low : BitVec 2) : BitVec 5 := cc ++ low

/-- The word of an instruction, from the same encoding tables. -/
def encode : Instr → Word
  | .lb base rt offset => packI 0b100000#6 base rt offset
  | .lbu base rt offset => packI 0b100100#6 base rt offset
  | .lh base rt offset => packI 0b100001#6 base rt offset
  | .lhu base rt offset => packI 0b100101#6 base rt offset
  | .lw base rt offset => packI 0b100011#6 base rt offset
  | .lwu base rt offset => packI 0b100111#6 base rt offset
  | .ld base rt offset => packI 0b110111#6 base rt offset
  | .sb base rt offset => packI 0b101000#6 base rt offset
  | .sh base rt offset => packI 0b101001#6 base rt offset
  | .sw base rt offset => packI 0b101011#6 base rt offset
  | .sd base rt offset => packI 0b111111#6 base rt offset
  | .lwl base rt offset => packI 0b100010#6 base rt offset
  | .lwr base rt offset => packI 0b100110#6 base rt offset
  | .ldl base rt offset => packI 0b011010#6 base rt offset
  | .ldr base rt offset => packI 0b011011#6 base rt offset
  | .swl base rt offset => packI 0b101010#6 base rt offset
  | .swr base rt offset => packI 0b101110#6 base rt offset
  | .sdl base rt offset => packI 0b101100#6 base rt offset
  | .sdr base rt offset => packI 0b101101#6 base rt offset
  | .ll base rt offset => packI 0b110000#6 base rt offset
  | .lld base rt offset => packI 0b110100#6 base rt offset
  | .sc base rt offset => packI 0b111000#6 base rt offset
  | .scd base rt offset => packI 0b111100#6 base rt offset
  | .lwc2 base rt offset => packI 0b110010#6 base rt offset
  | .swc2 base rt offset => packI 0b111010#6 base rt offset
  | .ldc2 base rt offset => packI 0b110110#6 base rt offset
  | .sdc2 base rt offset => packI 0b111110#6 base rt offset
  | .pref base hint offset => packI 0b110011#6 base hint offset
  | .addi rs rt imm => packI 0b001000#6 rs rt imm
  | .addiu rs rt imm => packI 0b001001#6 rs rt imm
  | .slti rs rt imm => packI 0b001010#6 rs rt imm
  | .sltiu rs rt imm => packI 0b001011#6 rs rt imm
  | .andi rs rt imm => packI 0b001100#6 rs rt imm
  | .ori rs rt imm => packI 0b001101#6 rs rt imm
  | .xori rs rt imm => packI 0b001110#6 rs rt imm
  | .daddi rs rt imm => packI 0b011000#6 rs rt imm
  | .daddiu rs rt imm => packI 0b011001#6 rs rt imm
  | .lui rt imm => packI 0b001111#6 0b00000#5 rt imm
  | .beq rs rt offset => packI 0b000100#6 rs rt offset
  | .bne rs rt offset => packI 0b000101#6 rs rt offset
  | .beql rs rt offset => packI 0b010100#6 rs rt offset
  | .bnel rs rt offset => packI 0b010101#6 rs rt offset
  | .blez rs offset => packI 0b000110#6 rs 0b00000#5 offset
  | .bgtz rs offset => packI 0b000111#6 rs 0b00000#5 offset
  | .blezl rs offset => packI 0b010110#6 rs 0b00000#5 offset
  | .bgtzl rs offset => packI 0b010111#6 rs 0b00000#5 offset
  | .bltz rs offset => packI 0b000001#6 rs 0b00000#5 offset
  | .bgez rs offset => packI 0b000001#6 rs 0b00001#5 offset
  | .bltzl rs offset => packI 0b000001#6 rs 0b00010#5 offset
  | .bgezl rs offset => packI 0b000001#6 rs 0b00011#5 offset
  | .bltzal rs offset => packI 0b000001#6 rs 0b10000#5 offset
  | .bgezal rs offset => packI 0b000001#6 rs 0b10001#5 offset
  | .bltzall rs offset => packI 0b000001#6 rs 0b10010#5 offset
  | .bgezall rs offset => packI 0b000001#6 rs 0b10011#5 offset
  | .tgei rs imm => packI 0b000001#6 rs 0b01000#5 imm
  | .tgeiu rs imm => packI 0b000001#6 rs 0b01001#5 imm
  | .tlti rs imm => packI 0b000001#6 rs 0b01010#5 imm
  | .tltiu rs imm => packI 0b000001#6 rs 0b01011#5 imm
  | .teqi rs imm => packI 0b000001#6 rs 0b01100#5 imm
  | .tnei rs imm => packI 0b000001#6 rs 0b01110#5 imm
  | .j index => packJ 0b000010#6 index
  | .jal index => packJ 0b000011#6 index
  | .add rs rt rd => packR 0b000000#6 rs rt rd 0b00000#5 0b100000#6
  | .addu rs rt rd => packR 0b000000#6 rs rt rd 0b00000#5 0b100001#6
  | .sub rs rt rd => packR 0b000000#6 rs rt rd 0b00000#5 0b100010#6
  | .subu rs rt rd => packR 0b000000#6 rs rt rd 0b00000#5 0b100011#6
  | .and rs rt rd => packR 0b000000#6 rs rt rd 0b00000#5 0b100100#6
  | .or rs rt rd => packR 0b000000#6 rs rt rd 0b00000#5 0b100101#6
  | .xor rs rt rd => packR 0b000000#6 rs rt rd 0b00000#5 0b100110#6
  | .nor rs rt rd => packR 0b000000#6 rs rt rd 0b00000#5 0b100111#6
  | .slt rs rt rd => packR 0b000000#6 rs rt rd 0b00000#5 0b101010#6
  | .sltu rs rt rd => packR 0b000000#6 rs rt rd 0b00000#5 0b101011#6
  | .dadd rs rt rd => packR 0b000000#6 rs rt rd 0b00000#5 0b101100#6
  | .daddu rs rt rd => packR 0b000000#6 rs rt rd 0b00000#5 0b101101#6
  | .dsub rs rt rd => packR 0b000000#6 rs rt rd 0b00000#5 0b101110#6
  | .dsubu rs rt rd => packR 0b000000#6 rs rt rd 0b00000#5 0b101111#6
  | .sllv rs rt rd => packR 0b000000#6 rs rt rd 0b00000#5 0b000100#6
  | .srlv rs rt rd => packR 0b000000#6 rs rt rd 0b00000#5 0b000110#6
  | .srav rs rt rd => packR 0b000000#6 rs rt rd 0b00000#5 0b000111#6
  | .dsllv rs rt rd => packR 0b000000#6 rs rt rd 0b00000#5 0b010100#6
  | .dsrlv rs rt rd => packR 0b000000#6 rs rt rd 0b00000#5 0b010110#6
  | .dsrav rs rt rd => packR 0b000000#6 rs rt rd 0b00000#5 0b010111#6
  | .movz rs rt rd => packR 0b000000#6 rs rt rd 0b00000#5 0b001010#6
  | .movn rs rt rd => packR 0b000000#6 rs rt rd 0b00000#5 0b001011#6
  | .sll rt rd sa => packR 0b000000#6 0b00000#5 rt rd sa 0b000000#6
  | .srl rt rd sa => packR 0b000000#6 0b00000#5 rt rd sa 0b000010#6
  | .sra rt rd sa => packR 0b000000#6 0b00000#5 rt rd sa 0b000011#6
  | .dsll rt rd sa => packR 0b000000#6 0b00000#5 rt rd sa 0b111000#6
  | .dsrl rt rd sa => packR 0b000000#6 0b00000#5 rt rd sa 0b111010#6
  | .dsra rt rd sa => packR 0b000000#6 0b00000#5 rt rd sa 0b111011#6
  | .dsll32 rt rd sa => packR 0b000000#6 0b00000#5 rt rd sa 0b111100#6
  | .dsrl32 rt rd sa => packR 0b000000#6 0b00000#5 rt rd sa 0b111110#6
  | .dsra32 rt rd sa => packR 0b000000#6 0b00000#5 rt rd sa 0b111111#6
  | .mult rs rt => packR 0b000000#6 rs rt 0b00000#5 0b00000#5 0b011000#6
  | .multu rs rt => packR 0b000000#6 rs rt 0b00000#5 0b00000#5 0b011001#6
  | .div rs rt => packR 0b000000#6 rs rt 0b00000#5 0b00000#5 0b011010#6
  | .divu rs rt => packR 0b000000#6 rs rt 0b00000#5 0b00000#5 0b011011#6
  | .dmult rs rt => packR 0b000000#6 rs rt 0b00000#5 0b00000#5 0b011100#6
  | .dmultu rs rt => packR 0b000000#6 rs rt 0b00000#5 0b00000#5 0b011101#6
  | .ddiv rs rt => packR 0b000000#6 rs rt 0b00000#5 0b00000#5 0b011110#6
  | .ddivu rs rt => packR 0b000000#6 rs rt 0b00000#5 0b00000#5 0b011111#6
  | .mfhi rd => packR 0b000000#6 0b00000#5 0b00000#5 rd 0b00000#5 0b010000#6
  | .mflo rd => packR 0b000000#6 0b00000#5 0b00000#5 rd 0b00000#5 0b010010#6
  | .mthi rs => packR 0b000000#6 rs 0b00000#5 0b00000#5 0b00000#5 0b010001#6
  | .mtlo rs => packR 0b000000#6 rs 0b00000#5 0b00000#5 0b00000#5 0b010011#6
  | .jr rs => packR 0b000000#6 rs 0b00000#5 0b00000#5 0b00000#5 0b001000#6
  | .jalr rs rd => packR 0b000000#6 rs 0b00000#5 rd 0b00000#5 0b001001#6
  | .syscall code => packCode20 0b000000#6 code 0b001100#6
  | .breakpoint code => packCode20 0b000000#6 code 0b001101#6
  | .sync stype => packR 0b000000#6 0b00000#5 0b00000#5 0b00000#5 stype 0b001111#6
  | .tge rs rt code => packCode10 0b000000#6 rs rt code 0b110000#6
  | .tgeu rs rt code => packCode10 0b000000#6 rs rt code 0b110001#6
  | .tlt rs rt code => packCode10 0b000000#6 rs rt code 0b110010#6
  | .tltu rs rt code => packCode10 0b000000#6 rs rt code 0b110011#6
  | .teq rs rt code => packCode10 0b000000#6 rs rt code 0b110100#6
  | .tne rs rt code => packCode10 0b000000#6 rs rt code 0b110110#6
  | .movf rs cc rd => packR 0b000000#6 rs (packCc cc 0b00#2) rd 0b00000#5 0b000001#6
  | .movt rs cc rd => packR 0b000000#6 rs (packCc cc 0b01#2) rd 0b00000#5 0b000001#6
  | .cop0 copFun => packJ 0b010000#6 copFun
  | .cop2 copFun => packJ 0b010010#6 copFun
  | .lwc1 base ft offset => packI 0b110001#6 base ft offset
  | .swc1 base ft offset => packI 0b111001#6 base ft offset
  | .ldc1 base ft offset => packI 0b110101#6 base ft offset
  | .sdc1 base ft offset => packI 0b111101#6 base ft offset
  | .mfc1 rt fs => packR 0b010001#6 0b00000#5 rt fs 0b00000#5 0b000000#6
  | .dmfc1 rt fs => packR 0b010001#6 0b00001#5 rt fs 0b00000#5 0b000000#6
  | .cfc1 rt fs => packR 0b010001#6 0b00010#5 rt fs 0b00000#5 0b000000#6
  | .mtc1 rt fs => packR 0b010001#6 0b00100#5 rt fs 0b00000#5 0b000000#6
  | .dmtc1 rt fs => packR 0b010001#6 0b00101#5 rt fs 0b00000#5 0b000000#6
  | .ctc1 rt fs => packR 0b010001#6 0b00110#5 rt fs 0b00000#5 0b000000#6
  | .bc1f cc offset => packI 0b010001#6 0b01000#5 (packCc cc 0b00#2) offset
  | .bc1t cc offset => packI 0b010001#6 0b01000#5 (packCc cc 0b01#2) offset
  | .bc1fl cc offset => packI 0b010001#6 0b01000#5 (packCc cc 0b10#2) offset
  | .bc1tl cc offset => packI 0b010001#6 0b01000#5 (packCc cc 0b11#2) offset
  | .addS ft fs fd => packR 0b010001#6 0b10000#5 ft fs fd 0b000000#6
  | .addD ft fs fd => packR 0b010001#6 0b10001#5 ft fs fd 0b000000#6
  | .subS ft fs fd => packR 0b010001#6 0b10000#5 ft fs fd 0b000001#6
  | .subD ft fs fd => packR 0b010001#6 0b10001#5 ft fs fd 0b000001#6
  | .mulS ft fs fd => packR 0b010001#6 0b10000#5 ft fs fd 0b000010#6
  | .mulD ft fs fd => packR 0b010001#6 0b10001#5 ft fs fd 0b000010#6
  | .divS ft fs fd => packR 0b010001#6 0b10000#5 ft fs fd 0b000011#6
  | .divD ft fs fd => packR 0b010001#6 0b10001#5 ft fs fd 0b000011#6
  | .sqrtS fs fd => packR 0b010001#6 0b10000#5 0b00000#5 fs fd 0b000100#6
  | .sqrtD fs fd => packR 0b010001#6 0b10001#5 0b00000#5 fs fd 0b000100#6
  | .absS fs fd => packR 0b010001#6 0b10000#5 0b00000#5 fs fd 0b000101#6
  | .absD fs fd => packR 0b010001#6 0b10001#5 0b00000#5 fs fd 0b000101#6
  | .movS fs fd => packR 0b010001#6 0b10000#5 0b00000#5 fs fd 0b000110#6
  | .movD fs fd => packR 0b010001#6 0b10001#5 0b00000#5 fs fd 0b000110#6
  | .negS fs fd => packR 0b010001#6 0b10000#5 0b00000#5 fs fd 0b000111#6
  | .negD fs fd => packR 0b010001#6 0b10001#5 0b00000#5 fs fd 0b000111#6
  | .recipS fs fd => packR 0b010001#6 0b10000#5 0b00000#5 fs fd 0b010101#6
  | .recipD fs fd => packR 0b010001#6 0b10001#5 0b00000#5 fs fd 0b010101#6
  | .rsqrtS fs fd => packR 0b010001#6 0b10000#5 0b00000#5 fs fd 0b010110#6
  | .rsqrtD fs fd => packR 0b010001#6 0b10001#5 0b00000#5 fs fd 0b010110#6
  | .roundLS fs fd => packR 0b010001#6 0b10000#5 0b00000#5 fs fd 0b001000#6
  | .roundLD fs fd => packR 0b010001#6 0b10001#5 0b00000#5 fs fd 0b001000#6
  | .truncLS fs fd => packR 0b010001#6 0b10000#5 0b00000#5 fs fd 0b001001#6
  | .truncLD fs fd => packR 0b010001#6 0b10001#5 0b00000#5 fs fd 0b001001#6
  | .ceilLS fs fd => packR 0b010001#6 0b10000#5 0b00000#5 fs fd 0b001010#6
  | .ceilLD fs fd => packR 0b010001#6 0b10001#5 0b00000#5 fs fd 0b001010#6
  | .floorLS fs fd => packR 0b010001#6 0b10000#5 0b00000#5 fs fd 0b001011#6
  | .floorLD fs fd => packR 0b010001#6 0b10001#5 0b00000#5 fs fd 0b001011#6
  | .roundWS fs fd => packR 0b010001#6 0b10000#5 0b00000#5 fs fd 0b001100#6
  | .roundWD fs fd => packR 0b010001#6 0b10001#5 0b00000#5 fs fd 0b001100#6
  | .truncWS fs fd => packR 0b010001#6 0b10000#5 0b00000#5 fs fd 0b001101#6
  | .truncWD fs fd => packR 0b010001#6 0b10001#5 0b00000#5 fs fd 0b001101#6
  | .ceilWS fs fd => packR 0b010001#6 0b10000#5 0b00000#5 fs fd 0b001110#6
  | .ceilWD fs fd => packR 0b010001#6 0b10001#5 0b00000#5 fs fd 0b001110#6
  | .floorWS fs fd => packR 0b010001#6 0b10000#5 0b00000#5 fs fd 0b001111#6
  | .floorWD fs fd => packR 0b010001#6 0b10001#5 0b00000#5 fs fd 0b001111#6
  | .cvtSD fs fd => packR 0b010001#6 0b10001#5 0b00000#5 fs fd 0b100000#6
  | .cvtSW fs fd => packR 0b010001#6 0b10100#5 0b00000#5 fs fd 0b100000#6
  | .cvtSL fs fd => packR 0b010001#6 0b10101#5 0b00000#5 fs fd 0b100000#6
  | .cvtDS fs fd => packR 0b010001#6 0b10000#5 0b00000#5 fs fd 0b100001#6
  | .cvtDW fs fd => packR 0b010001#6 0b10100#5 0b00000#5 fs fd 0b100001#6
  | .cvtDL fs fd => packR 0b010001#6 0b10101#5 0b00000#5 fs fd 0b100001#6
  | .cvtWS fs fd => packR 0b010001#6 0b10000#5 0b00000#5 fs fd 0b100100#6
  | .cvtWD fs fd => packR 0b010001#6 0b10001#5 0b00000#5 fs fd 0b100100#6
  | .cvtLS fs fd => packR 0b010001#6 0b10000#5 0b00000#5 fs fd 0b100101#6
  | .cvtLD fs fd => packR 0b010001#6 0b10001#5 0b00000#5 fs fd 0b100101#6
  | .cFS ft fs cc => packR 0b010001#6 0b10000#5 ft fs (packCc cc 0b00#2) 0b110000#6
  | .cFD ft fs cc => packR 0b010001#6 0b10001#5 ft fs (packCc cc 0b00#2) 0b110000#6
  | .cUnS ft fs cc => packR 0b010001#6 0b10000#5 ft fs (packCc cc 0b00#2) 0b110001#6
  | .cUnD ft fs cc => packR 0b010001#6 0b10001#5 ft fs (packCc cc 0b00#2) 0b110001#6
  | .cEqS ft fs cc => packR 0b010001#6 0b10000#5 ft fs (packCc cc 0b00#2) 0b110010#6
  | .cEqD ft fs cc => packR 0b010001#6 0b10001#5 ft fs (packCc cc 0b00#2) 0b110010#6
  | .cUeqS ft fs cc => packR 0b010001#6 0b10000#5 ft fs (packCc cc 0b00#2) 0b110011#6
  | .cUeqD ft fs cc => packR 0b010001#6 0b10001#5 ft fs (packCc cc 0b00#2) 0b110011#6
  | .cOltS ft fs cc => packR 0b010001#6 0b10000#5 ft fs (packCc cc 0b00#2) 0b110100#6
  | .cOltD ft fs cc => packR 0b010001#6 0b10001#5 ft fs (packCc cc 0b00#2) 0b110100#6
  | .cUltS ft fs cc => packR 0b010001#6 0b10000#5 ft fs (packCc cc 0b00#2) 0b110101#6
  | .cUltD ft fs cc => packR 0b010001#6 0b10001#5 ft fs (packCc cc 0b00#2) 0b110101#6
  | .cOleS ft fs cc => packR 0b010001#6 0b10000#5 ft fs (packCc cc 0b00#2) 0b110110#6
  | .cOleD ft fs cc => packR 0b010001#6 0b10001#5 ft fs (packCc cc 0b00#2) 0b110110#6
  | .cUleS ft fs cc => packR 0b010001#6 0b10000#5 ft fs (packCc cc 0b00#2) 0b110111#6
  | .cUleD ft fs cc => packR 0b010001#6 0b10001#5 ft fs (packCc cc 0b00#2) 0b110111#6
  | .cSfS ft fs cc => packR 0b010001#6 0b10000#5 ft fs (packCc cc 0b00#2) 0b111000#6
  | .cSfD ft fs cc => packR 0b010001#6 0b10001#5 ft fs (packCc cc 0b00#2) 0b111000#6
  | .cNgleS ft fs cc => packR 0b010001#6 0b10000#5 ft fs (packCc cc 0b00#2) 0b111001#6
  | .cNgleD ft fs cc => packR 0b010001#6 0b10001#5 ft fs (packCc cc 0b00#2) 0b111001#6
  | .cSeqS ft fs cc => packR 0b010001#6 0b10000#5 ft fs (packCc cc 0b00#2) 0b111010#6
  | .cSeqD ft fs cc => packR 0b010001#6 0b10001#5 ft fs (packCc cc 0b00#2) 0b111010#6
  | .cNglS ft fs cc => packR 0b010001#6 0b10000#5 ft fs (packCc cc 0b00#2) 0b111011#6
  | .cNglD ft fs cc => packR 0b010001#6 0b10001#5 ft fs (packCc cc 0b00#2) 0b111011#6
  | .cLtS ft fs cc => packR 0b010001#6 0b10000#5 ft fs (packCc cc 0b00#2) 0b111100#6
  | .cLtD ft fs cc => packR 0b010001#6 0b10001#5 ft fs (packCc cc 0b00#2) 0b111100#6
  | .cNgeS ft fs cc => packR 0b010001#6 0b10000#5 ft fs (packCc cc 0b00#2) 0b111101#6
  | .cNgeD ft fs cc => packR 0b010001#6 0b10001#5 ft fs (packCc cc 0b00#2) 0b111101#6
  | .cLeS ft fs cc => packR 0b010001#6 0b10000#5 ft fs (packCc cc 0b00#2) 0b111110#6
  | .cLeD ft fs cc => packR 0b010001#6 0b10001#5 ft fs (packCc cc 0b00#2) 0b111110#6
  | .cNgtS ft fs cc => packR 0b010001#6 0b10000#5 ft fs (packCc cc 0b00#2) 0b111111#6
  | .cNgtD ft fs cc => packR 0b010001#6 0b10001#5 ft fs (packCc cc 0b00#2) 0b111111#6
  | .movfS cc fs fd => packR 0b010001#6 0b10000#5 (packCc cc 0b00#2) fs fd 0b010001#6
  | .movfD cc fs fd => packR 0b010001#6 0b10001#5 (packCc cc 0b00#2) fs fd 0b010001#6
  | .movtS cc fs fd => packR 0b010001#6 0b10000#5 (packCc cc 0b01#2) fs fd 0b010001#6
  | .movtD cc fs fd => packR 0b010001#6 0b10001#5 (packCc cc 0b01#2) fs fd 0b010001#6
  | .movzS rt fs fd => packR 0b010001#6 0b10000#5 rt fs fd 0b010010#6
  | .movzD rt fs fd => packR 0b010001#6 0b10001#5 rt fs fd 0b010010#6
  | .movnS rt fs fd => packR 0b010001#6 0b10000#5 rt fs fd 0b010011#6
  | .movnD rt fs fd => packR 0b010001#6 0b10001#5 rt fs fd 0b010011#6
  | .lwxc1 base index fd => packR 0b010011#6 base index 0b00000#5 fd 0b000000#6
  | .ldxc1 base index fd => packR 0b010011#6 base index 0b00000#5 fd 0b000001#6
  | .swxc1 base index fs => packR 0b010011#6 base index fs 0b00000#5 0b001000#6
  | .sdxc1 base index fs => packR 0b010011#6 base index fs 0b00000#5 0b001001#6
  | .prefx base index hint => packR 0b010011#6 base index hint 0b00000#5 0b001111#6
  | .maddS fr ft fs fd => packR 0b010011#6 fr ft fs fd 0b100000#6
  | .maddD fr ft fs fd => packR 0b010011#6 fr ft fs fd 0b100001#6
  | .msubS fr ft fs fd => packR 0b010011#6 fr ft fs fd 0b101000#6
  | .msubD fr ft fs fd => packR 0b010011#6 fr ft fs fd 0b101001#6
  | .nmaddS fr ft fs fd => packR 0b010011#6 fr ft fs fd 0b110000#6
  | .nmaddD fr ft fs fd => packR 0b010011#6 fr ft fs fd 0b110001#6
  | .nmsubS fr ft fs fd => packR 0b010011#6 fr ft fs fd 0b111000#6
  | .nmsubD fr ft fs fd => packR 0b010011#6 fr ft fs fd 0b111001#6

end Sys2Proof
end

