-- ==== Sys2Proof/Config.lean ====
section
/-! DEFINITION. The parameters that the source leaves to the implementation or the environment (spec/00_scope.md R8,
spec/92_eei_decisions.md), and the opaque free values (spec/93_implementation_defined.md, notes/assumptions/15.md). -/

namespace Sys2Proof

/-- The processor modes the source names (60_exceptions.md R740). -/
inductive Mode where
  | user
  | supervisor
  | kernel
  deriving DecidableEq, Repr, Inhabited

/-- The FPU exception mode `FPExcMode` (46_fpu_model.md R530). -/
inductive FpMode where
  | precise
  | imprecise
  deriving DecidableEq, Repr

/-- The arithmetic model of the multiply-accumulate instructions, `MaddModel` (48_fpu_arith.md R596). -/
inductive MaddModel where
  | rounded
  | unrounded
  deriving DecidableEq, Repr

/-- The exception of a reserved FPU encoding, `ReservedFpuExc` (30_encoding.md R186). -/
inductive ReservedFpu where
  | reservedInstruction
  | unimplementedOperation
  deriving DecidableEq, Repr

/-- Bits 63..32 after an LWR that did not load bit 31, `LwrUpperBits` (40_cpu_load_store.md R216). -/
inductive LwrUpper where
  | keep
  | signExtend
  deriving DecidableEq, Repr

/-- Memory access types (20_memory.md R120), and those an implementation adds (R125). -/
inductive AccessType where
  | uncached
  | cachedNoncoherent
  | cachedCoherent
  | implementation (code : Nat)
  deriving DecidableEq, Repr

/-- A cached access type (20_memory.md R122), as LL and SC need (R124). -/
def AccessType.cached : AccessType → Bool
  | .cachedNoncoherent | .cachedCoherent => true
  | .uncached | .implementation _ => false

/-- What CVT.S.D and CVT.D.S deliver for a NaN, `ConvertNaN` (49_fpu_convert_move_branch.md R622): the new QNaN, the sign
and leading fraction of the operand, or a QNaN that the implementation builds in its own way. -/
inductive ConvertNaN where
  | newQNaN
  | fromOperand
  | specific
  deriving DecidableEq, Repr

/-- Which of several operand QNaNs is delivered, `PropagateNaN` (46_fpu_model.md R547): the one in a fixed place, or one
that the implementation chooses in its own way. -/
inductive PropagateNaN where
  | nth (k : Nat)
  | specific
  deriving DecidableEq, Repr

/-- The operand formats S, D, W and L (46_fpu_model.md R502). -/
inductive FpFmt where
  | S
  | D
  | W
  | L
  deriving DecidableEq, Repr

/-- Why `AddressTranslation` fails (20_memory.md R111), or an exception that the implementation adds by a number
(60_exceptions.md R712). -/
inductive XlatFail where
  | refill
  | invalid
  | addressError
  | implementation (code : Nat)
  deriving DecidableEq, Repr

/-- What `AddressTranslation` does with a region of virtual bytes (20_memory.md R110): it maps the region, the doubleword
that holds its first byte to physical doubleword number `phys` and the doublewords after it to the following ones, or it
fails. Mapping by doublewords keeps the low three address bits, all that R110 asks. -/
inductive XlatKind where
  | mapped (phys : Nat) (writable : Bool)
  | fails (why : XlatFail)
  deriving DecidableEq, Repr

/-- One region of `AddressTranslation`: `count` virtual bytes from `first` on, the references it answers for, by kind and
by mode, and the access type of the virtual addresses in it (20_memory.md R110, R120, 60_exceptions.md R740). The two words
of a doubleword, or any two bytes, may be in different regions. An address that a mode may not access is one in a region of
that mode that fails with Address Error (R111). -/
structure XlatRegion where
  first : Nat
  count : Nat
  kind : XlatKind
  access : AccessType
  forFetch : Bool
  forLoad : Bool
  forStore : Bool
  inUser : Bool
  inSupervisor : Bool
  inKernel : Bool
  deriving DecidableEq, Repr

/-- `count` physical bytes from `first` on whose accesses of the marked kinds end in Bus Error (60_exceptions.md R707). -/
structure BusRange where
  first : Nat
  count : Nat
  onLoad : Bool
  onStore : Bool
  onFetch : Bool
  deriving DecidableEq, Repr

/-- Where `TrapEntry` takes an exception (60_exceptions.md R724): it halts the run; it continues in a handler at `pc`, in
`mode`, with the coprocessor-usable bits `cu`; or it is the function of the exception record and the state that
`Config.trapEntry` stands for. -/
inductive TrapEntry where
  | halt
  | handler (pc : Dword) (mode : Mode) (cu : BitVec 4)
  | specific
  deriving DecidableEq, Repr

/-- The parameters of 00_scope.md R8 that nothing changes during a run. Those that are functions in the spec are given
by finite data here (notes/assumptions/17.md). -/
structure Env where
  procLevel : Nat
  archLevel : Nat
  bigEndianMem : Bool
  reBit : Bool
  fpuPresent : Bool
  fpMode : FpMode
  maddModel : MaddModel
  reservedFpu : ReservedFpu
  /-- `FpUnimplemented` names the instructions whose word is `pattern` under `mask`, each a pair (mask, pattern)
  (46_fpu_model.md R541). -/
  fpUnimpWords : List (Word × Word)
  fpUnimpDenormOperand : Bool
  fpUnimpDenormResult : Bool
  /-- `FpUnimplemented` also names what `Config.fpUnimplemented` says, by instruction, operand values and FCSR. -/
  fpUnimpOther : Bool
  fsOperandFlush : Bool
  nanPick : PropagateNaN
  convertNaN : ConvertNaN
  lwrUpper : LwrUpper
  llBlockSize : Nat
  mpSupport : Bool
  /-- The access type of the virtual addresses that no region of `xlat` holds. -/
  accessType : AccessType
  psize : Nat
  xlat : List XlatRegion
  xlatElse : Option XlatFail
  busErrors : List BusRange
  /-- `Cop0Op` is given: coprocessor 0 operations have the effect `Config.cop0Op` (92_eei_decisions.md D30). -/
  cop0Given : Bool
  cop2Present : Bool
  /-- The transfers of coprocessor 2 are the usual moves (40_cpu_load_store.md R240 to R243), not those of `Config`. -/
  cop2Usual : Bool
  opcode2FUsed : Bool
  trapEntry : TrapEntry
  endPC : Option Dword
  deriving DecidableEq, Repr

/-- The default environment: the decisions of 92_eei_decisions.md part 6, and for its OPEN rows the values of
notes/assumptions/9.md to 13.md (DESIGN CHOICE, unsafe). -/
def Env.default : Env where
  procLevel := 4
  archLevel := 4
  bigEndianMem := true
  reBit := false
  fpuPresent := true
  fpMode := .precise
  maddModel := .rounded
  reservedFpu := .reservedInstruction
  fpUnimpWords := []
  fpUnimpDenormOperand := false
  fpUnimpDenormResult := false
  fpUnimpOther := false
  fsOperandFlush := false
  nanPick := .nth 0
  convertNaN := .newQNaN
  lwrUpper := .keep
  llBlockSize := 64
  mpSupport := false
  accessType := .cachedNoncoherent
  psize := 64
  xlat := []
  xlatElse := none
  busErrors := []
  cop0Given := false
  cop2Present := false
  cop2Usual := true
  opcode2FUsed := false
  trapEntry := .halt
  endPC := none

/-- `GPRLEN` is 64 exactly when the processor implements MIPS III (30_encoding.md R172). -/
def Env.is64 (e : Env) : Bool := decide (3 ≤ e.procLevel)

/-- The access type that a mapping asks for, among those the processor has: without MP support the cached ones are one,
equivalent to cached noncoherent (20_memory.md R120, R122). -/
def Env.typeOf (e : Env) (t : AccessType) : AccessType :=
  if !e.mpSupport && t == .cachedCoherent then .cachedNoncoherent else t

/-- All virtual addresses have one access type; then no location is accessed with two (20_memory.md R123). -/
def Env.oneType (e : Env) : Bool := e.xlat.all fun r => e.typeOf r.access == e.typeOf e.accessType

/-- The registers of coprocessor 2: general, control, and its condition signal (10_state.md R73, R74). -/
structure Cop2State where
  gen : Vector Dword 32
  ctl : Vector Dword 32
  coc : Bool
  deriving DecidableEq, Repr, Inhabited

namespace Config

/-- FREE VALUE. What the source calls undefined: the arbitrary 64 bits of the `slot`-th draw of the instruction that
runs when the counter of draws stands at `n`. No body: nothing can be proved of it (notes/assumptions/15.md). -/
opaque freeValue (n slot : Nat) : Dword

/-- FREE VALUE. Which of the results within one ulp RECIP.fmt delivers, `RecipFn` (48_fpu_arith.md R592). -/
opaque recipPick (double : Bool) (a : Dword) (rm : BitVec 2) : Nat

/-- FREE VALUE. Which of the results within two ulp RSQRT.fmt delivers, `RsqrtFn` (48_fpu_arith.md R593). -/
opaque rsqrtPick (double : Bool) (a : Dword) (rm : BitVec 2) : Nat

/-- FREE VALUE. `FpUnimplemented` on the instruction, with all its fields, the operand values and the FCSR
(46_fpu_model.md R541). -/
opaque fpUnimplemented (i : Instr) (operands : List Dword) (fcsr : Word) : Bool

/-- FREE VALUE. Which of the QNaN operands is delivered, `PropagateNaN` (46_fpu_model.md R547). -/
opaque propagateNaN (fmt : FpFmt) (quiet : List Dword) : Nat

/-- FREE VALUE. The sign and fraction of the QNaN built from a NaN operand, `ConvertNaN`
(49_fpu_convert_move_branch.md R622). -/
opaque convertNaN (src dst : FpFmt) (a : Dword) : Dword

/-- FREE VALUE. `COP_LW` and `COP_LD` of coprocessor 2 (R442): its registers after it was given a word or doubleword. -/
opaque cop2Load (n : Nat) (double : Bool) (rt : Reg) (v : Dword) (c : Cop2State) : Cop2State

/-- FREE VALUE. `COP_SW` and `COP_SD` of coprocessor 2 (R442): what it supplies, and its registers after that. -/
opaque cop2Store (n : Nat) (double : Bool) (rt : Reg) (c : Cop2State) : Dword × Cop2State

end Config

end Sys2Proof
end

