-- ==== Sys2Proof/Machine/State.lean ====
section
/-! DEFINITION. The machine's state as plain data, the reasons a step can stop, and the state after reset
(spec/10_state.md, spec/70_reset_and_hazards.md). INVENTORY.md lists every field with its rule and reset value. -/

namespace Sys2Proof.Machine

/-- The delayed branch (10_state.md R54): nothing pending, the target of a taken branch or jump, or the delay slot of a
branch-likely that was not taken. -/
inductive Delay where
  | none
  | target (t : Dword)
  | nullify
  deriving DecidableEq, Repr

/-- The kind of a memory reference (60_exceptions.md R701). -/
inductive AccessKind where
  | load
  | store
  | fetch
  deriving DecidableEq, Repr, Inhabited

/-- The exceptions the source names, with their information (60_exceptions.md R701). The conditions of Floating Point
are the six cause bits E, V, Z, O, U, I. `implementation` is an exception that an implementation adds (R712). -/
inductive Cause where
  | integerOverflow
  | trap
  | systemCall
  | breakpoint
  | reservedInstruction
  | coprocessorUnusable (z : BitVec 2)
  | addressError (k : AccessKind) (a : Dword)
  | tlbRefill (k : AccessKind) (a : Dword)
  | tlbInvalid (k : AccessKind) (a : Dword)
  | tlbModified (a : Dword)
  | busError (k : AccessKind) (a : Dword)
  | floatingPoint (conds : BitVec 6)
  | interrupt
  | implementation (code : Nat)
  deriving DecidableEq, Repr, Inhabited

/-- The exception record `Exc` (60_exceptions.md R721). -/
structure ExcRecord where
  cause : Cause
  pc : Dword
  inDelaySlot : Bool
  restart : Dword
  badVAddr : Option Dword
  deriving DecidableEq, Repr

/-- The mode and coprocessor-usable bits that an exception entry replaced (notes/assumptions/19.md). -/
structure SavedMode where
  mode : Mode
  cu : BitVec 4
  deriving DecidableEq, Repr

/-- The record of the last LL or LLD (10_state.md R57, 40_cpu_load_store.md R227). -/
structure LinkRecord where
  vaddr : Dword
  paddr : Nat
  access : AccessType
  double : Bool
  deriving DecidableEq, Repr

/-- The format state of an FPR (46_fpu_model.md R520). -/
inductive FprTag where
  | uninterpreted
  | value (fmt : FpFmt)
  | unknown
  deriving DecidableEq, Repr

/-- One entry of `RecentMF` (43_cpu_muldiv.md R338). -/
inductive MfEntry where
  | none
  | hi (r : Reg)
  | lo (r : Reg)
  deriving DecidableEq, Repr

/-- `RecentMF`: the last executed instruction and the one before it. -/
structure RecentMF where
  last : MfEntry
  before : MfEntry
  deriving DecidableEq, Repr

/-- The one-instruction trackers of MIPS I to III (70_reset_and_hazards.md R826). `loadCop2` is the register of LWC2 (R821);
`moveFpr` lists the FGRs of the move. -/
structure Hazards where
  loadGpr : Option Reg
  loadFpr : Option Reg
  loadCop2 : Option Reg
  moveGpr : Option Reg
  moveFpr : List Reg
  ctc : Bool
  compare : Bool
  deriving DecidableEq, Repr

/-- No tracker is set. -/
def Hazards.empty : Hazards := ⟨none, none, none, none, [], false, false⟩

/-- What the environment does at one instruction boundary (20_memory.md R138, 40_cpu_load_store.md R231,
60_exceptions.md R711, R722, R724, R725; notes/assumptions/18.md). -/
inductive EnvEvent where
  /-- Nothing: an instruction executes at this boundary. -/
  | idle
  /-- An implementation-specific event clears LLbit. -/
  | clearLink
  /-- Another processor or coherent I/O module stores a byte. -/
  | externalStore (pa : Nat) (b : Byte)
  /-- An asynchronous Interrupt. -/
  | interrupt
  /-- A pending imprecise floating-point trap is delivered. -/
  | fpTrap
  /-- The handler returns to `Exc.restart`. Outside a handler, as the three below, it does nothing (R804). -/
  | excReturn
  /-- The handler returns to an address it works out itself, for example after an emulated instruction. -/
  | excReturnTo (pc : Dword)
  /-- The handler selects the FPU register model. -/
  | selectFR (fr : Bool)
  /-- The handler runs the privileged sequence that lets locations be used with another access type (20_memory.md R123). -/
  | changeTypes
  deriving DecidableEq, Repr

/-- The whole state of the machine. -/
structure State where
  /-- GPR[0..31], 10_state.md R50, R51. -/
  gpr : Vector Dword 32
  /-- HI, R53. -/
  hi : Dword
  /-- LO, R53. -/
  lo : Dword
  /-- The address of the instruction to execute, R54. -/
  pc : Dword
  /-- The delayed branch, R54. -/
  delay : Delay
  /-- The previous executed instruction was a branch that was not taken or is a branch with a slot, 60_exceptions.md R721. -/
  afterBranch : Bool
  /-- LLbit, R57. -/
  llbit : Bool
  /-- The linked address, R57; none before the first LL. -/
  llRecord : Option LinkRecord
  /-- Bits 31..0 of FGR[0..31], R61, R75. -/
  fgrLo : Vector Word 32
  /-- Bits 63..32 of FGR[0..31], without meaning in the 32-bit register model, R62. -/
  fgrHi : Vector Word 32
  /-- Fmt[0..31], R77. -/
  fprTag : Vector FprTag 32
  /-- FCR[0] bits 15..0, R66. -/
  fcr0 : BitVec 16
  /-- FCR[31], the FCSR, R67. -/
  fcsr : Word
  /-- RecentMF, 43_cpu_muldiv.md R338. -/
  recentMF : RecentMF
  /-- HiLoPending, R339. -/
  hiLoPending : Bool
  /-- The trackers of the lower levels, 70_reset_and_hazards.md R826. -/
  hazards : Hazards
  /-- PendingFpTrap, 60_exceptions.md R722. -/
  pendingFpTrap : Bool
  /-- Exc, 60_exceptions.md R721; none before the first exception. -/
  exc : Option ExcRecord
  /-- What the exception entries replaced that have not been returned from, the last one first; empty outside a handler. -/
  saved : List SavedMode
  /-- An exception was raised and `Config.trapEntry` has not yet answered it (60_exceptions.md R724). -/
  trapped : Bool
  /-- The run ended at a raise, 70_reset_and_hazards.md R803 (a). -/
  ended : Bool
  /-- Mode, 60_exceptions.md R740. -/
  mode : Mode
  /-- CU[3..0], bit z for coprocessor z, R72. -/
  cu : BitVec 4
  /-- StatusFR, R62. -/
  statusFR : Bool
  /-- CPR[2,0..31], R74. -/
  cop2Gen : Vector Dword 32
  /-- CCR[2,0..31], R74. -/
  cop2Ctl : Vector Dword 32
  /-- COC[0], R73. -/
  coc0 : Bool
  /-- COC[2], R73. -/
  coc2 : Bool
  /-- COC[3], R73. -/
  coc3 : Bool
  /-- PhysMem, 20_memory.md R116: physical addresses strictly rising, no byte equal to what an unlisted one reads as. -/
  mem : List Host.Cell
  /-- With which access type a load or store used a physical byte, 20_memory.md R123. -/
  typed : List (Nat × AccessType)
  /-- The parameters of the environment. -/
  env : Env
  /-- What the environment does at the coming boundaries. -/
  agenda : List EnvEvent
  /-- The model's own counter of free values (notes/assumptions/15.md). -/
  free : Nat
  deriving DecidableEq, Repr

/-- Why the machine stops. -/
inductive Fault where
  /-- Raised by `step` when the run has ended: at the step after an exception with TrapEntry = halt, or at EndPC
  (70_reset_and_hazards.md R803). Safe: the spec's run goes no further. -/
  | runEnded
  deriving DecidableEq, Repr

/-- Why an execution has left what the spec defines (93_implementation_defined.md, treatment `refuse`). Each is safe:
the model claims nothing of the states after it. -/
inductive Refusal where
  /-- An instruction whose meaning has not been written. -/
  | notModelled (mnemonic : String)
  /-- U35: a branch or jump in the delay slot of a taken branch or jump. Raised by every branch and jump. -/
  | branchInDelaySlot
  /-- U34: JALR with rs = rd, a linking branch with rs = 31. Raised by these five. -/
  | linkRestriction
  /-- U25: non-zero low bits in the offset field of an aligned access at level IV. Raised by aligned loads and stores. -/
  | offsetRestriction
  /-- U71: the region bits of an indexed address are not those of base. Raised by the COP1X accesses and PREFX. -/
  | regionBits
  /-- U23: HI or LO written within two instructions after it was read. Raised by the multiplies, divides, MTHI, MTLO. -/
  | hiLoReadWrite
  /-- U43: a load or store of a byte that was used with another access type. Raised by every load and store. -/
  | mixedAccess
  /-- U29: LL, LLD, SC or SCD to a location that is not cached. Raised by these four. -/
  | uncachedLinked
  /-- U27: at level I, a use of a loaded register in the load delay slot. Raised by `step`. -/
  | loadDelay
  /-- U28: at level I, a use of a loaded FPU register in the load delay slot. Raised by `step`. -/
  | fpLoadDelay
  /-- U28: at level I, SWC2 of a register that LWC2 loaded just before. Raised by `step`. -/
  | cop2LoadDelay
  /-- U62: CTC1 to a control register that does not exist. Raised by CTC1. -/
  | noSuchControlRegister
  /-- U9: a coprocessor 0 operation with CU[0] = 1 and no Cop0Op given. Raised by COP0 and opcode 101111. -/
  | cop0Operation
  /-- U11: a coprocessor 2 instruction with CU[2] = 1 and no coprocessor 2. Raised by COP2, LWC2, SWC2, LDC2, SDC2. -/
  | unimplementedCoprocessor
  /-- U11: a coprocessor 3 instruction of MIPS I or II with CU[3] = 1. Raised by the encodings of 30_encoding.md R173. -/
  | cop3Operation
  deriving DecidableEq, Repr

/-- The reset address of the processors of this family (70_reset_and_hazards.md R801; PRESUMED, notes/assumptions/6.md). -/
def resetPC : Dword := 0xFFFFFFFFBFC00000#64

/-- The machine right after reset (10_state.md R90, 70_reset_and_hazards.md R800). -/
def State.reset : State where
  gpr := Vector.replicate 32 0
  hi := 0
  lo := 0
  pc := resetPC
  delay := .none
  afterBranch := false
  llbit := false
  llRecord := none
  fgrLo := Vector.replicate 32 0
  fgrHi := Vector.replicate 32 0
  fprTag := Vector.replicate 32 .uninterpreted
  fcr0 := 0
  fcsr := 0
  recentMF := ⟨.none, .none⟩
  hiLoPending := false
  hazards := Hazards.empty
  pendingFpTrap := false
  exc := none
  saved := []
  trapped := false
  ended := false
  mode := .user
  cu := 0b0010#4
  statusFR := true
  cop2Gen := Vector.replicate 32 0
  cop2Ctl := Vector.replicate 32 0
  coc0 := false
  coc2 := false
  coc3 := false
  mem := []
  typed := []
  env := Env.default
  agenda := []
  free := 0

/-! ### The environment's functions of the state -/

/-- Where control goes after an operation of coprocessor 0 or 2 (45_cpu_trap_sync_move_cop.md R444): to the next
instruction; to `pc` at once, as a return does; or it is a branch, taken to `t` after its slot, not taken, or likely and
not taken. -/
inductive CopFlow where
  | next
  | goto (pc : Dword)
  | taken (t : Dword)
  | notTaken
  | nullify
  deriving DecidableEq, Repr, Inhabited

/-- What a coprocessor 0 operation does to the state the model holds, besides what it does inside coprocessor 0
(45_cpu_trap_sync_move_cop.md R441, R725; notes/assumptions/36.md): a general register it writes, the mode, the usable
bits, the FPU register model and COC[0] it leaves, whether it clears LLbit, lets locations change their access type or
returns from an exception, where control goes, and an exception when it raises one instead. -/
structure Cop0Effect where
  gpr : Option (Reg × Dword)
  mode : Mode
  cu : BitVec 4
  statusFR : Bool
  coc0 : Bool
  unlink : Bool
  retype : Bool
  returns : Bool
  flow : CopFlow
  raises : Option Cause
  deriving DecidableEq, Repr, Inhabited

/-- What a coprocessor 2 operation does (45_cpu_trap_sync_move_cop.md R440, R442, R444; notes/assumptions/36.md): the
unit's registers it leaves, a general register it writes, where control goes, and an exception when it raises one instead.
Under which cause the unit's interrupt is recorded is the operation's own: the source gives it no name (60_exceptions.md
R712; DESIGN CHOICE, notes/assumptions/36.md). -/
structure Cop2Effect where
  regs : Cop2State
  gpr : Option (Reg × Dword)
  flow : CopFlow
  raises : Option Cause
  deriving DecidableEq, Repr, Inhabited

end Sys2Proof.Machine

namespace Sys2Proof.Config

/-- FREE VALUE. `Cop0Op` of bits 25..0 of a COP0 word, or with `base` of a word of opcode 101111
(92_eei_decisions.md D6, D30). -/
opaque cop0Op (base : Bool) (bits : BitVec 26) (s : Machine.State) : Machine.Cop0Effect

/-- FREE VALUE. `CoprocessorOperation(2, cop_fun)` in a state (45_cpu_trap_sync_move_cop.md R442). -/
opaque cop2Op (copFun : BitVec 26) (s : Machine.State) : Machine.Cop2Effect

/-- FREE VALUE. `TrapEntry` of the record and the state of an exception: the state from which execution continues, or none
when the run stops (60_exceptions.md R724). -/
opaque trapEntry (e : Machine.ExcRecord) (s : Machine.State) : Option Machine.State

end Sys2Proof.Config
end

