-- ==== Sys2Proof/Machine/Ops.lean ====
section
/-! DEFINITION. The named operations every meaning is built from: general registers, free values, memory, address
translation, taking an exception and returning from one, and the ways an instruction ends. -/

namespace Sys2Proof.Machine

/-- The answer of a meaning. -/
abbrev Out := Host.Outcome State Fault Refusal

/-! ### Registers and free values -/

/-- Entry `r` of a register file. -/
def regGet {α : Type} (v : Vector α 32) (r : Reg) : α := v[r.toNat]'r.isLt

/-- The register file with entry `r` replaced. -/
def regSet {α : Type} (v : Vector α 32) (r : Reg) (x : α) : Vector α 32 := v.set r.toNat x r.isLt

/-- A value of `GPRLEN` bits in its 64-bit container: with `GPRLEN` = 32, bits 31..0 sign-extended
(notes/assumptions/16.md). -/
def State.norm (s : State) (v : Dword) : Dword :=
  if s.env.is64 then v else (v.setWidth 32).signExtend 64

/-- The low word of a register. -/
def lowWord (v : Dword) : Word := v.extractLsb' 0 32

/-- The arbitrary value in place `slot` of this instruction (93_implementation_defined.md, treatment `any value`). -/
def State.draw (s : State) (slot : Nat) : Dword := Config.freeValue s.free slot

/-- Places of the free values of one instruction: a delayed GPR that its first source reads, a delayed FGR half that is
read, an FGR half that is written. -/
def slotGpr (r : Reg) : Nat := r.toNat
def slotFgrLo (r : Reg) : Nat := 32 + r.toNat
def slotFgrHi (r : Reg) : Nat := 64 + r.toNat
def slotNewLo (r : Reg) : Nat := 96 + r.toNat
def slotNewHi (r : Reg) : Nat := 128 + r.toNat
/-- The destination register, HI, LO, whether a trap is taken, the cause field, the flags field, a condition, the FCSR as
an instruction sees it, FCR0, the bytes of a store, whether a trap becomes pending, a result computed from a register
right after a move to it. -/
def slotResult : Nat := 160
def slotHi : Nat := 161
def slotLo : Nat := 162
def slotTrap : Nat := 163
def slotCause : Nat := 164
def slotFlags : Nat := 165
def slotCond : Nat := 166
def slotFcsr : Nat := 167
def slotFcr0 : Nat := 168
def slotStore : Nat := 169
def slotPend : Nat := 170
def slotMoved : Nat := 171
/-- An FPU operand right after a move to it, `k` operands before the last, and a delayed GPR that a second source reads. -/
def slotOperand (k : Nat) : Nat := 172 + k
def slotGpr2 (r : Reg) : Nat := 180 + r.toNat

/-- `GPR[r]` as a source; register 0 reads as zero (10_state.md R51). In the slot after a move from the FPU below level IV
the moved-to register reads as an arbitrary value, the one in place `slot` (70_reset_and_hazards.md R824). -/
def State.readGpr (s : State) (r : Reg) (slot : Nat) : Dword :=
  if r = 0 then 0 else if s.hazards.moveGpr = some r then s.norm (s.draw slot) else regGet s.gpr r

/-- `GPR[r]` as the first source, or the only one, of an instruction. -/
def State.getGpr (s : State) (r : Reg) : Dword := s.readGpr r (slotGpr r)
/-- `GPR[r]` as the second source. Of an arbitrary value it draws its own: two reads by one instruction need not agree
(93_implementation_defined.md U72, notes/assumptions/37.md). -/
def State.getGpr2 (s : State) (r : Reg) : Dword := s.readGpr r (slotGpr2 r)

/-- Is one of these sources the register that a move from the FPU below level IV has just written? -/
def State.movedGpr (s : State) (srcs : List Reg) : Bool := srcs.any fun r => r != 0 && s.hazards.moveGpr == some r

/-- A result, drawn from place `slot` when the instruction reads the register just moved to: it is then undefined
(70_reset_and_hazards.md R824). Addresses, branch targets, the bytes stored, conditions and traps follow the arbitrary value
read, and what is not computed from it, a link or the success of a store-conditional, is as ever; that these are no results
in the sense of R824 is the model's reading of 93_implementation_defined.md U72 (DEDUCED, notes/assumptions/37.md). -/
def State.resultAt (s : State) (slot : Nat) (srcs : List Reg) (v : Dword) : Dword :=
  if s.movedGpr srcs then s.draw slot else v
/-- The one result of an instruction with these sources. -/
def State.result (s : State) (srcs : List Reg) (v : Dword) : Dword := s.resultAt slotMoved srcs v

/-- `GPR[r] <- v`; a write to register 0 is discarded (10_state.md R51). -/
def State.setGpr (s : State) (r : Reg) (v : Dword) : State :=
  if r = 0 then s else { s with gpr := regSet s.gpr r (s.norm v) }

/-- `HI <- hi`, `LO <- lo` (10_state.md R53). -/
def State.setHiLo (s : State) (hi lo : Dword) : State := { s with hi := s.norm hi, lo := s.norm lo }

/-! ### Memory -/

/-- What a byte that memory does not list reads as (DESIGN CHOICE, notes/assumptions/7.md). -/
def blankByte : Byte := 0

/-- One byte of physical memory. -/
def memRead : List Host.Cell → Nat → Byte
  | [], _ => blankByte
  | (b, v) :: m, a => if a = b then v else memRead m a

/-- Put a listed byte in its place. -/
def memInsert : List Host.Cell → Nat → Byte → List Host.Cell
  | [], a, v => [(a, v)]
  | (b, u) :: m, a, v =>
    if a < b then (a, v) :: (b, u) :: m else if a = b then (a, v) :: m else (b, u) :: memInsert m a v

/-- Store one byte, keeping the canonical form. -/
def memWrite (m : List Host.Cell) (a : Nat) (v : Byte) : List Host.Cell :=
  if v = blankByte then m.filter (fun c => c.1 != a) else memInsert m a v

/-- Store bytes at addresses, one by one. -/
def memWriteAll (m : List Host.Cell) : List (Nat × Byte) → List Host.Cell
  | [] => m
  | (a, v) :: rest => memWriteAll (memWrite m a v) rest

/-- The canonical form: addresses strictly rising, no listed byte equal to the blank one. -/
abbrev Memory.wf (m : List Host.Cell) : Prop :=
  m.Pairwise (fun c d => c.1 < d.1) ∧ ∀ c ∈ m, c.2 ≠ blankByte

/-- `ReverseEndian` = RE bit and User mode (20_memory.md R102). -/
def State.reverseEndian (s : State) : Bool := s.env.reBit && s.mode == .user

/-- `BigEndianCPU` = `BigEndianMem` xor `ReverseEndian` (20_memory.md R102). -/
def State.bigEndianCPU (s : State) : Bool := s.env.bigEndianMem ^^ s.reverseEndian

/-- The address as a number of `GPRLEN` bits (20_memory.md R100). -/
def State.addrNat (s : State) (a : Dword) : Nat := if s.env.is64 then a.toNat else a.toNat % 2 ^ 32

/-- The exception of a failed translation (20_memory.md R111). -/
def failCause (f : XlatFail) (k : AccessKind) (a : Dword) : Cause :=
  match f with
  | .refill => .tlbRefill k a
  | .invalid => .tlbInvalid k a
  | .addressError => .addressError k a
  | .implementation code => .implementation code

/-- Does the region answer for this kind of access? -/
def regionServes (r : XlatRegion) : AccessKind → Bool
  | .fetch => r.forFetch
  | .load => r.forLoad
  | .store => r.forStore

/-- Does the region answer in this mode? -/
def regionInMode (r : XlatRegion) : Mode → Bool
  | .user => r.inUser
  | .supervisor => r.inSupervisor
  | .kernel => r.inKernel

/-- Does the region answer for the virtual byte `n`, this kind of access and this mode? -/
def regionCovers (r : XlatRegion) (k : AccessKind) (m : Mode) (n : Nat) : Bool :=
  regionServes r k && regionInMode r m && decide (r.first ≤ n) && decide (n < r.first + r.count)

/-- The physical address of `PSIZE` bits in doubleword `d` with the low three bits of the virtual byte `n`
(20_memory.md R110). -/
def State.physical (s : State) (d n : Nat) : Nat := d % 2 ^ (s.env.psize - 3) * 8 + n % 8

/-- `AddressTranslation` of the virtual address `v` (20_memory.md R110, R111, R120) in the mode of the state: a physical
address with the access type of the virtual one, or an exception, which reports `a`, the effective address of the access
(60_exceptions.md R721). -/
def State.translateFor (s : State) (k : AccessKind) (a v : Dword) : Except Cause (Nat × AccessType) :=
  let n := s.addrNat v
  match s.env.xlat.find? (fun r => regionCovers r k s.mode n) with
  | some r =>
    match r.kind with
    | .mapped phys writable =>
      if k == .store && !writable then .error (.tlbModified a)
      else .ok (s.physical (phys + (n / 8 - r.first / 8)) n, s.env.typeOf r.access)
    | .fails f => .error (failCause f k a)
  | none =>
    match s.env.xlatElse with
    | some f => .error (failCause f k a)
    | none => .ok (s.physical (n / 8) n, s.env.typeOf s.env.accessType)

/-- The translation of the effective address itself. -/
def State.translate (s : State) (k : AccessKind) (a : Dword) : Except Cause (Nat × AccessType) := s.translateFor k a a

/-- Does an access of this kind to one of these physical bytes end in Bus Error (60_exceptions.md R707)? -/
def State.busHits (s : State) (k : AccessKind) (ps : List Nat) : Bool :=
  s.env.busErrors.any fun r =>
    (match k with
      | .load => r.onLoad
      | .store => r.onStore
      | .fetch => r.onFetch) && ps.any fun p => decide (r.first ≤ p) && decide (p < r.first + r.count)

/-- The physical byte that a virtual data byte names: `ReverseEndian` flips the low bits (20_memory.md R116). -/
def State.flip (s : State) (p : Nat) : Nat :=
  if s.reverseEndian then p ^^^ (if s.env.is64 then 7 else 3) else p

/-- Was one of these bytes used with another access type than it now has (20_memory.md R123)? -/
def State.mixes (s : State) (l : List (Nat × AccessType)) : Bool :=
  s.typed.any fun e => l.any fun x => x.1 == e.1 && x.2 != e.2

/-- Why a data access does not go through. -/
inductive Stop where
  | raised (c : Cause)
  | refused (r : Refusal)
  deriving DecidableEq, Repr

/-- The `n` physical bytes from `back` bytes before the translation of the virtual address `v` on, each with its access
type: the bytes of one memory element, which one translation decides (20_memory.md R116). The access is one at `a`. -/
def State.elementBytes (s : State) (k : AccessKind) (a v : Dword) (back n : Nat) :
    Except Cause (List (Nat × AccessType)) :=
  match s.translateFor k a v with
  | .error c => .error c
  | .ok (pa, t) => .ok ((List.range n).map fun i => (s.flip (pa - back + i), t))

/-- The physical bytes of the data access of `n` bytes that starts `back` bytes before the effective address `a`, in the
order of their virtual addresses. All of them are in one memory element, but for the doubleword of LDC1, SDC1, LDC2 and SDC2
on a 32-bit processor, which is translated once per word (20_memory.md R116, 92_eei_decisions.md D13); that the word at `a`
comes first and that both are translated before either is accessed is the model's choice (DEDUCED,
notes/assumptions/50.md). -/
def State.physBytes (s : State) (k : AccessKind) (a : Dword) (back n : Nat) : Except Cause (List (Nat × AccessType)) :=
  if !s.env.is64 && back == 0 && n == 8 then
    match s.elementBytes k a a 0 4, s.elementBytes k a (s.norm (a + 4)) 0 4 with
    | .error c, _ => .error c
    | .ok _, .error c => .error c
    | .ok l, .ok m => .ok (l ++ m)
  else s.elementBytes k a a back n

/-- What a data access reaches: its physical bytes with their access types, after the translation, then the mixing of
access types (refused, 93_implementation_defined.md U43), then Bus Error (20_memory.md R111, R123). That the refusal comes
before Bus Error is the model's choice (DEDUCED, notes/assumptions/32.md). -/
def State.dataBytes (s : State) (k : AccessKind) (a : Dword) (back n : Nat) : Except Stop (List (Nat × AccessType)) :=
  match s.physBytes k a back n with
  | .error c => .error (.raised c)
  | .ok l =>
    if s.mixes l then .error (.refused .mixedAccess)
    else if s.busHits k (l.map Prod.fst) then .error (.raised (.busError k a))
    else .ok l

/-- The record of access types with these bytes added; an environment of one access type needs none. -/
def noteBytes (e : Env) (noted l : List (Nat × AccessType)) : List (Nat × AccessType) :=
  if e.oneType then noted else (l.filter fun x => noted.all fun y => y.1 != x.1) ++ noted

/-- The bytes were used with these access types. -/
def State.noteTypes (s : State) (l : List (Nat × AccessType)) : State :=
  { s with typed := noteBytes s.env s.typed l }

/-- The value of bytes given in address order (20_memory.md R116). -/
def joinBytes (bigEndian : Bool) (bs : List Byte) : Dword :=
  (if bigEndian then bs else bs.reverse).foldl (fun acc b => (acc <<< 8) ||| b.setWidth 64) 0

/-- The low `n` bytes of a value in address order (20_memory.md R116). -/
def splitBytes (bigEndian : Bool) (n : Nat) (v : Dword) : List Byte :=
  let bs := (List.range n).map fun i => v.extractLsb' (8 * i) 8
  if bigEndian then bs.reverse else bs

/-- `MemRead`: the value of `n` bytes, zero-extended to 64 bits (20_memory.md R116). -/
def State.memValue (s : State) (ps : List Nat) : Dword :=
  joinBytes s.bigEndianCPU (ps.map (memRead s.mem))

/-- `MemWrite`: the low bytes of `v` to the physical bytes `ps` (20_memory.md R116). -/
def State.storeBytes (s : State) (ps : List Nat) (v : Dword) : State :=
  { s with mem := memWriteAll s.mem (ps.zip (splitBytes s.bigEndianCPU ps.length v)) }

/-! ### Taking an exception and returning from one -/

/-- Is the instruction at `pc` in a branch delay slot (60_exceptions.md R721)? -/
def State.inDelaySlot (s : State) : Bool :=
  match s.delay with
  | .target _ => true
  | _ => s.afterBranch

/-- The effective address an exception reports (60_exceptions.md R721). -/
def badVAddrOf : Cause → Option Dword
  | .addressError _ a | .tlbRefill _ a | .tlbInvalid _ a | .tlbModified a | .busError _ a => some a
  | _ => none

/-- The exception record of an exception at this instruction (60_exceptions.md R721). -/
def State.record (s : State) (c : Cause) : ExcRecord where
  cause := c
  pc := s.pc
  inDelaySlot := s.inDelaySlot
  restart := if s.inDelaySlot then s.norm (s.pc - 4) else s.pc
  badVAddr := badVAddrOf c

/-- `TrapEntry`: the run halts, continues in the handler in its mode, or waits for the next step to apply the
environment's own function (60_exceptions.md R724, notes/assumptions/19.md). -/
def State.enterTrap (s : State) : State :=
  match s.env.trapEntry with
  | .halt => { s with ended := true }
  | .handler pc mode cu => { s with pc := s.norm pc, mode := mode, cu := cu }
  | .specific => { s with trapped := true }

/-- `raise X(info)` (60_exceptions.md R720): the instruction is aborted, LLbit is cleared, the record is written and the
environment takes over. -/
def State.raise (s : State) (c : Cause) : State :=
  { s with
    llbit := false
    exc := some (s.record c)
    saved := ⟨s.mode, s.cu⟩ :: s.saved
    delay := .none
    afterBranch := false
    hazards := Hazards.empty
    free := s.free + 1 }.enterTrap

/-- Return from an exception to `pc` (60_exceptions.md R725): LLbit is cleared, the mode and usable bits that the entry
replaced come back. Outside a handler there is nothing to return from (70_reset_and_hazards.md R804). -/
def State.returnTo (s : State) (pc : Dword) : State :=
  match s.saved with
  | [] => s
  | m :: rest =>
    { s with
      llbit := false
      pc := s.norm pc
      delay := .none
      afterBranch := false
      hazards := Hazards.empty
      mode := m.mode
      cu := m.cu
      saved := rest }

/-- The return to `Exc.restart`. -/
def State.excReturn (s : State) : State :=
  match s.exc with
  | some e => s.returnTo e.restart
  | none => s

/-- Continue with a result, or raise. -/
def State.orRaise {α : Type} (s : State) (r : Except Cause α) (k : α → Out) : Out :=
  match r with
  | .error c => .next (s.raise c)
  | .ok a => k a

/-- A data access (20_memory.md R111): the exception or refusal that stops it, or the state that `f` makes of its physical
bytes, with their access types noted. -/
def State.access (s : State) (k : AccessKind) (a : Dword) (back n : Nat) (f : List Nat → State) : Out :=
  match s.dataBytes k a back n with
  | .error (.raised c) => .next (s.raise c)
  | .error (.refused r) => .refused r
  | .ok l => .next ((f (l.map Prod.fst)).noteTypes l)

/-! ### How an instruction ends -/

/-- `pc + 4` modulo 2^GPRLEN (10_state.md R54). -/
def State.pcPlus4 (s : State) : Dword := s.norm (s.pc + 4)

/-- The next `pc` of an instruction that sets no delay: the pending target, or `pc + 4` (10_state.md R54). -/
def State.nextPc (s : State) : Dword :=
  match s.delay with
  | .target t => t
  | _ => s.pcPlus4

/-- The end of an executed instruction: `pc` and the delayed branch move on, the trackers are `hz`, RecentMF shifts. -/
def State.retireWith (s : State) (hz : Hazards) (mf : MfEntry) : State :=
  { s with
    pc := s.nextPc
    delay := .none
    afterBranch := false
    hazards := hz
    recentMF := ⟨mf, s.recentMF.last⟩
    free := s.free + 1 }

/-- The end of an instruction that sets no tracker. -/
def State.retire (s : State) : State := s.retireWith Hazards.empty .none

/-- A taken branch or a jump: the slot executes next, then `t` (10_state.md R54, 44_cpu_jump_branch.md R361). -/
def State.takeBranch (s : State) (t : Dword) : State :=
  { s.retire with pc := s.pcPlus4, delay := .target t, afterBranch := true }

/-- An ordinary branch that is not taken: its slot executes next. -/
def State.fallThrough (s : State) : State :=
  { s.retire with pc := s.pcPlus4, afterBranch := true }

/-- A branch-likely that is not taken: `nullify_next`. -/
def State.nullifyNext (s : State) : State :=
  { s.retire with pc := s.pcPlus4, delay := .nullify }

/-! ### Tests that come before an instruction's own effect -/

/-- The level test of an instruction of MIPS `n` (30_encoding.md R172). -/
def State.needLevel (s : State) (n : Nat) (k : Out) : Out :=
  if s.env.archLevel < n then .next (s.raise .reservedInstruction) else k

/-- Is coprocessor `z` usable? An absent FPU is not (10_state.md R60, R72). -/
def State.usable (s : State) (z : BitVec 2) : Bool := s.cu.getLsbD z.toNat && (z != 1 || s.env.fpuPresent)

/-- The coprocessor-usable test (30_encoding.md R174). -/
def State.needCop (s : State) (z : BitVec 2) (k : Out) : Out :=
  if s.usable z then k else .next (s.raise (.coprocessorUnusable z))

/-- The FCSR with its six cause bits replaced (10_state.md R67). -/
def withCause (f : Word) (c : BitVec 6) : Word := (f &&& 0xFFFC0FFF#32) ||| (c.setWidth 32 <<< 12)

/-- The exception of Unimplemented Operation for a reserved FPU encoding: the cause field holds E alone (46_fpu_model.md
R541), right after a CTC1 too, since it depends on no FCSR (70_reset_and_hazards.md R827; DEDUCED,
notes/assumptions/37.md). -/
def State.raiseUnimplemented (s : State) : State :=
  { s with fcsr := withCause s.fcsr 0b100000#6 }.raise (.floatingPoint 0b100000#6)

/-- The exception of a reserved FPU encoding, `ReservedFpuExc` (30_encoding.md R186). -/
def State.raiseReservedFpu (s : State) : State :=
  match s.env.reservedFpu with
  | .reservedInstruction => s.raise .reservedInstruction
  | .unimplementedOperation => s.raiseUnimplemented

/-- The level test of a COP1 encoding, after the usable test (30_encoding.md R172, R186; 47_fpu_transfer.md R552). -/
def State.needFpLevel (s : State) (n : Nat) (k : Out) : Out :=
  if s.env.archLevel < n then .next s.raiseReservedFpu else k

/-- A coprocessor 3 encoding of MIPS `first` on a processor of MIPS I or II: first the usable test, then, as for every
instruction of a level above the one enabled, Reserved Instruction below `first` (30_encoding.md R173, R174;
93_implementation_defined.md U4). Processors from MIPS III on have none (R173). That the LDC3 and SDC3 words of a usable
coprocessor 3 raise it at MIPS I, where the last sentence of R173 says implementation specific, is read from the table of
R173 and U4 (DEDUCED, notes/assumptions/36.md). -/
def State.cop3 (s : State) (first : Nat) : Out :=
  if s.env.procLevel ≤ 2 then s.needCop 3 (s.needLevel first (.refused .cop3Operation))
  else .next (s.raise .reservedInstruction)

/-- An encoding that was a coprocessor 3 one, from MIPS `first` to MIPS II, and is an instruction from MIPS `now` on
(30_encoding.md R173). -/
def State.wasCop3 (s : State) (first now : Nat) (k : Out) : Out :=
  if now ≤ s.env.archLevel then k
  else if s.env.archLevel ≤ 2 then s.cop3 first
  else .next (s.raise .reservedInstruction)

/-- The tests of a COP1X word: MIPS IV, then coprocessor 1 (30_encoding.md R173, R174). -/
def State.needCop1x (s : State) (k : Out) : Out := s.wasCop3 1 4 (s.needCop 1 k)

/-- A branch in the delay slot of a taken branch or of a jump (44_cpu_jump_branch.md R362). -/
def State.notInSlot (s : State) (k : Out) : Out :=
  match s.delay with
  | .target _ => .refused .branchInDelaySlot
  | _ => k

/-- Thirty-two arbitrary words. -/
def State.drawAll (s : State) (slot : Nat) : Vector Word 32 := Vector.ofFn fun i => lowWord (s.draw (slot + i.val))

/-- Every FGR arbitrary and every tag unknown (92_eei_decisions.md D8). -/
def State.forgetFgrs (s : State) : State :=
  { s with
    fgrLo := s.drawAll (slotNewLo 0)
    fgrHi := s.drawAll (slotNewHi 0)
    fprTag := Vector.replicate 32 .unknown
    free := s.free + 1 }

/-- The FPU register model becomes `fr`; a change makes the registers undefined (10_state.md R62, 92_eei_decisions.md D8).
Without MIPS III there is one model. -/
def State.selectModel (s : State) (fr : Bool) : State :=
  if s.env.is64 && fr != s.statusFR then { s.forgetFgrs with statusFR := fr } else s

/-- The general register that a coprocessor operation writes, if it writes one. -/
def State.copGpr (s : State) (w : Option (Reg × Dword)) : State :=
  match w with
  | some (r, v) => s.setGpr r v
  | none => s

/-- The coprocessor operation is a branch. -/
def CopFlow.isBranch : CopFlow → Bool
  | .taken _ | .notTaken | .nullify => true
  | .next | .goto _ => false

/-- The end of a coprocessor operation: control goes where its flow says. -/
def State.follow (s : State) (f : CopFlow) : State :=
  match f with
  | .next => s.retire
  | .goto pc => { s.retire with pc := s.norm pc }
  | .taken t => s.takeBranch (s.norm t)
  | .notTaken => s.fallThrough
  | .nullify => s.nullifyNext

/-- A coprocessor operation that is a branch is refused in a taken slot, as every branch is (44_cpu_jump_branch.md R362). -/
def State.needFlow (s : State) (f : CopFlow) (k : Out) : Out := if f.isBranch then s.notInSlot k else k

/-- The end of a coprocessor 0 operation: the mode and the rest that it leaves. A return from an exception clears LLbit
(10_state.md R57, 60_exceptions.md R725). -/
def State.cop0End (s : State) (e : Cop0Effect) : State :=
  { s.follow e.flow with
    mode := e.mode
    cu := e.cu
    coc0 := e.coc0
    llbit := s.llbit && !e.unlink && !e.returns
    typed := if e.retype then [] else s.typed
    saved := if e.returns then s.saved.tail else s.saved }

/-- The effect of a coprocessor 0 operation (45_cpu_trap_sync_move_cop.md R441): an exception, or what it writes. -/
def State.applyCop0 (s : State) (e : Cop0Effect) : Out :=
  match e.raises with
  | some c => .next (s.raise c)
  | none => s.needFlow e.flow (.next (((s.copGpr e.gpr).selectModel e.statusFR).cop0End e))

/-- A coprocessor 0 operation that may execute: `Cop0Op`, refused where the environment gives none
(92_eei_decisions.md D30). -/
def State.cop0Operation (s : State) (base : Bool) (bits : BitVec 26) : Out :=
  if s.env.cop0Given then s.applyCop0 (Config.cop0Op base bits s) else .refused .cop0Operation

/-- What executing a word that is no instruction does (30_encoding.md R169 to R173, R186, R187, R189; for opcode 101111
92_eei_decisions.md D6, notes/assumptions/35.md). -/
def State.rejected (s : State) : Reject → Out
  | .reservedCpu | .requiredZero | .length => .next (s.raise .reservedInstruction)
  | .reservedCop1 => s.needCop 1 (.next s.raiseReservedFpu)
  | .requiredZeroCop1 n => s.needCop 1 (s.needFpLevel n (.next (s.raise .reservedInstruction)))
  | .reservedCop1x => s.needCop1x (.next s.raiseReservedFpu)
  | .requiredZeroCop1x => s.needCop1x (.next (s.raise .reservedInstruction))
  | .requiredZeroMovci => s.needLevel 4 (s.needCop 1 (.next (s.raise .reservedInstruction)))
  | .opcode2F bits =>
    s.needLevel 2 <|
      if !s.env.opcode2FUsed then .next (s.raise .reservedInstruction)
      else if !s.usable 0 && s.mode == .user then .next (s.raise (.coprocessorUnusable 0))
      else s.cop0Operation true bits
  | .opcodeSwc3 => s.wasCop3 1 5 (.next (s.raise .reservedInstruction))

end Sys2Proof.Machine
end

