-- ==== Sys2Proof/Machine/Operands.lean ====
section
/-! DEFINITION. The operand forms: immediates, effective addresses with their tests, branch targets, word operands
(spec/30_encoding.md R166, 40_cpu_load_store.md R201, 44_cpu_jump_branch.md R363 to R365). -/

namespace Sys2Proof.Machine

/-- A 16-bit field sign-extended (30_encoding.md R166). -/
def immS (i : BitVec 16) : Dword := i.signExtend 64

/-- A logical immediate, zero-extended (30_encoding.md R166). -/
def immZ (i : BitVec 16) : Dword := i.setWidth 64

/-- `GPR[base] + sext(offset)` (40_cpu_load_store.md R201). -/
def State.effAddr (s : State) (base : Reg) (offset : BitVec 16) : Dword := s.norm (s.getGpr base + immS offset)

/-- `GPR[base] + GPR[index]` (47_fpu_transfer.md R561). -/
def State.indexedAddr (s : State) (base index : Reg) : Dword := s.norm (s.getGpr base + s.getGpr2 index)

/-- The alignment test on an address of a 2^n-byte object (20_memory.md R105). -/
def State.needAligned (s : State) (k : AccessKind) (n : Nat) (a : Dword) (c : Out) : Out :=
  if a.toNat % 2 ^ n = 0 then c else .next (s.raise (.addressError k a))

/-- The MIPS IV restriction on the low bits of an offset (20_memory.md R106, 40_cpu_load_store.md R202). -/
def State.needOffset (s : State) (n : Nat) (offset : BitVec 16) (c : Out) : Out :=
  if 4 ≤ s.env.archLevel ∧ offset.toNat % 2 ^ n ≠ 0 then .refused .offsetRestriction else c

/-- The region bits of an indexed address must be those of base (47_fpu_transfer.md R556). -/
def State.needRegion (s : State) (a : Dword) (base : Reg) (c : Out) : Out :=
  if s.env.is64 && a.extractLsb' 62 2 != (s.getGpr base).extractLsb' 62 2 then .refused .regionBits else c

/-- `BranchTarget(pc, offset)` (44_cpu_jump_branch.md R363). -/
def State.branchTarget (s : State) (offset : BitVec 16) : Dword :=
  s.norm (s.pcPlus4 + (offset ++ 0#2).signExtend 64)

/-- `JumpTarget(pc, instr_index)` (44_cpu_jump_branch.md R364). -/
def State.jumpTarget (s : State) (index : BitVec 26) : Dword :=
  (s.pcPlus4.extractLsb' 28 36 ++ index ++ 0#2 : BitVec (36 + 26 + 2))

/-- The return link `pc + 8` (44_cpu_jump_branch.md R365). -/
def State.link (s : State) : Dword := s.norm (s.pc + 8)

/-- A word result sign-extended (10_state.md R59). -/
def sextWord (w : Word) : Dword := w.signExtend 64

/-- A word zero-extended. -/
def zextWord (w : Word) : Dword := w.setWidth 64

/-- `NotWordValue(v)` (00_scope.md R19). -/
def State.notWord (s : State) (v : Dword) : Bool := s.env.is64 && v != sextWord (lowWord v)

/-- The result of a word operation: arbitrary when an operand is not a word value (41_cpu_alu.md R262). -/
def State.wordResult (s : State) (operands : List Dword) (v : Dword) : Dword :=
  if operands.any s.notWord then s.draw slotResult else v

/-- An arbitrary choice of this instruction. -/
def State.flipCoin (s : State) (slot : Nat) : Bool := (s.draw slot).getLsbD 0

/-- Write a general register and end the instruction. -/
def State.writeGpr (s : State) (r : Reg) (v : Dword) : Out := .next (s.setGpr r v).retire

/-- Write the result computed from the general registers `srcs` and end the instruction. -/
def State.writeResult (s : State) (srcs : List Reg) (r : Reg) (v : Dword) : Out := s.writeGpr r (s.result srcs v)

end Sys2Proof.Machine
end

