-- ==== Sys2Proof/Machine/Flags.lean ====
section
/-! DEFINITION. The flag computations: integer overflow (spec/41_cpu_alu.md R263), and the fields of the FCSR with their
updates (spec/10_state.md R67 to R71, 46_fpu_model.md R531 to R534). -/

namespace Sys2Proof.Machine

/-- Does the integer lie outside the two's-complement numbers of `n + 1` bits (41_cpu_alu.md R263)? -/
def overflows (n : Nat) (i : Int) : Bool := decide (i < -(2 ^ n : Int)) || decide ((2 ^ n : Int) ≤ i)

/-- `Overflow_32(a + b)`. -/
def addOverflows32 (a b : Word) : Bool := overflows 31 (a.toInt + b.toInt)
/-- `Overflow_32(a - b)`. -/
def subOverflows32 (a b : Word) : Bool := overflows 31 (a.toInt - b.toInt)
/-- `Overflow_64(a + b)`. -/
def addOverflows64 (a b : Dword) : Bool := overflows 63 (a.toInt + b.toInt)
/-- `Overflow_64(a - b)`. -/
def subOverflows64 (a b : Dword) : Bool := overflows 63 (a.toInt - b.toInt)

/-- A trapping word addition or subtraction: Integer Overflow or the result; with an operand that is no word value both
the trap and the result are arbitrary (41_cpu_alu.md R262 to R264). -/
def State.trappingWord (s : State) (srcs : List Reg) (operands : List Dword) (overflow : Bool) (rd : Reg) (v : Dword) :
    Out :=
  if (if operands.any s.notWord then s.flipCoin slotTrap else overflow) then .next (s.raise .integerOverflow)
  else s.writeResult srcs rd (s.wordResult operands v)

/-- A trapping doubleword addition or subtraction (41_cpu_alu.md R264). -/
def State.trappingDword (s : State) (srcs : List Reg) (overflow : Bool) (rd : Reg) (v : Dword) : Out :=
  if overflow then .next (s.raise .integerOverflow) else s.writeResult srcs rd v

/-! ### The FCSR -/

/-- RM, bits 1..0. -/
def rmOf (f : Word) : BitVec 2 := f.extractLsb' 0 2
/-- The flags V, Z, O, U, I, bits 6..2. -/
def flagsOf (f : Word) : BitVec 5 := f.extractLsb' 2 5
/-- The enables V, Z, O, U, I, bits 11..7. -/
def enablesOf (f : Word) : BitVec 5 := f.extractLsb' 7 5
/-- The cause bits E, V, Z, O, U, I, bits 17..12. -/
def causeOf (f : Word) : BitVec 6 := f.extractLsb' 12 6
/-- FS, bit 24. -/
def fsOf (f : Word) : Bool := f.getLsbD 24
/-- Where FCC[cc] stands: bit 23 for 0, bits 25 to 31 for 1 to 7 (10_state.md R69). -/
def fccBit (cc : BitVec 3) : Nat := if cc = 0 then 23 else 24 + cc.toNat
/-- FCC[cc]. -/
def fccOf (f : Word) (cc : BitVec 3) : Bool := f.getLsbD (fccBit cc)
/-- The FCSR with FCC[cc] replaced. -/
def withFcc (f : Word) (cc : BitVec 3) (b : Bool) : Word :=
  (f &&& ~~~(1#32 <<< fccBit cc)) ||| ((BitVec.ofBool b).setWidth 32 <<< fccBit cc)
/-- The FCSR with its five flag bits replaced. -/
def withFlags (f : Word) (g : BitVec 5) : Word := (f &&& 0xFFFFFF83#32) ||| (g.setWidth 32 <<< 2)

/-- The conditions, in the order of the flag field. -/
def condV : BitVec 5 := 0b10000#5
def condZ : BitVec 5 := 0b01000#5
def condO : BitVec 5 := 0b00100#5
def condU : BitVec 5 := 0b00010#5
def condI : BitVec 5 := 0b00001#5

/-- The bits the FCSR has at the enabled level; the others read 0 and ignore writes (10_state.md R67). -/
def State.fcsrMask (s : State) : Word :=
  if 4 ≤ s.env.archLevel then 0xFF83FFFF#32 else if s.env.archLevel = 3 then 0x0183FFFF#32 else 0x0083FFFF#32

/-- The FCSR as an instruction sees it: arbitrary right after a CTC1 below level IV (70_reset_and_hazards.md R827). -/
def State.fcsrView (s : State) : Word :=
  if s.hazards.ctc then (s.draw slotFcsr).setWidth 32 &&& s.fcsrMask else s.fcsr

/-- The FCSR word that CFC1 reads; in imprecise mode its cause field has no meaning (46_fpu_model.md R533). -/
def State.fcsrRead (s : State) : Word :=
  match s.env.fpMode with
  | .precise => s.fcsrView
  | .imprecise => withCause s.fcsrView ((s.draw slotCause).extractLsb' 0 6)

/-- The FCSR with arbitrary cause bits, and arbitrary flags. -/
def State.freeCause (s : State) (f : Word) : Word := withCause f ((s.draw slotCause).extractLsb' 0 6)
def State.freeFlags (s : State) (f : Word) : Word := withFlags f ((s.draw slotFlags).extractLsb' 0 5)

/-- The FCSR of an arithmetic instruction that traps with this cause field (46_fpu_model.md R532): right after a CTC1 below
level IV the field it writes is arbitrary (70_reset_and_hazards.md R827). -/
def State.trapFcsr (s : State) (cause : BitVec 6) : Word :=
  if s.hazards.ctc then s.freeCause s.fcsr else withCause s.fcsr cause

/-- Unimplemented Operation of an instruction that `FpUnimplemented` names: the cause field holds E alone (46_fpu_model.md
R541), but right after a CTC1 below level IV any value (70_reset_and_hazards.md R827). R827 speaks of an arithmetic
instruction; that the field is arbitrary after a formatted move and a branch too, since the predicate depends on the FCSR
(DEDUCED), and that the record of the exception names E all the same (DESIGN CHOICE), is the model's
(notes/assumptions/37.md). -/
def State.trapUnimplemented (s : State) : State :=
  { s with fcsr := s.trapFcsr 0b100000#6 }.raise (.floatingPoint 0b100000#6)

/-- The FCSR of an arithmetic instruction that completes with `conds` in its cause field and adds `flagged` to the flags
(46_fpu_model.md R531 to R534). -/
def State.doneFcsr (s : State) (conds flagged : BitVec 5) : Word :=
  if s.hazards.ctc then s.freeCause (s.freeFlags s.fcsr)
  else
    let f := withFlags s.fcsr (flagsOf s.fcsr ||| flagged)
    match s.env.fpMode with
    | .precise => withCause f (conds.setWidth 6)
    | .imprecise => s.freeCause f

/-- The condition a BC1 branch tests: arbitrary right after a compare or a CTC1 below level IV
(70_reset_and_hazards.md R827, R828). -/
def State.branchCond (s : State) (cc : BitVec 3) : Bool :=
  if s.hazards.compare || s.hazards.ctc then s.flipCoin slotCond else fccOf s.fcsr cc

end Sys2Proof.Machine
end

