-- ==== Sys2Proof/Machine/Alu.lean ====
section
/-! DEFINITION. CPU arithmetic, compare and logical instructions (spec/41_cpu_alu.md R267 to R291) and the conditional moves on
a general register (45_cpu_trap_sync_move_cop.md R425 to R427). -/

namespace Sys2Proof.Machine

/-- Signed less-than of two registers, all bits (R262). -/
def lessS (a b : Dword) : Bool := decide (a.toInt < b.toInt)
/-- Unsigned less-than. -/
def lessU (a b : Dword) : Bool := decide (a.toNat < b.toNat)
/-- A comparison result, 0 or 1. -/
def boolWord (b : Bool) : Dword := (BitVec.ofBool b).setWidth 64

/-- ADDI (R268). -/
def execAddi (rs rt : Reg) (imm : BitVec 16) (s : State) : Out :=
  let a := s.getGpr rs
  s.trappingWord [rs] [a] (addOverflows32 (lowWord a) (imm.signExtend 32)) rt (sextWord (lowWord a + imm.signExtend 32))

/-- ADDIU (R269). -/
def execAddiu (rs rt : Reg) (imm : BitVec 16) (s : State) : Out :=
  let a := s.getGpr rs
  s.writeResult [rs] rt (s.wordResult [a] (sextWord (lowWord a + imm.signExtend 32)))

/-- SLTI (R280). -/
def execSlti (rs rt : Reg) (imm : BitVec 16) (s : State) : Out :=
  s.writeResult [rs] rt (boolWord (lessS (s.getGpr rs) (immS imm)))

/-- SLTIU (R281). -/
def execSltiu (rs rt : Reg) (imm : BitVec 16) (s : State) : Out :=
  s.writeResult [rs] rt (boolWord (lessU (s.getGpr rs) (immS imm)))

/-- ANDI (R284). -/
def execAndi (rs rt : Reg) (imm : BitVec 16) (s : State) : Out :=
  s.writeResult [rs] rt (s.getGpr rs &&& immZ imm)

/-- ORI (R286). -/
def execOri (rs rt : Reg) (imm : BitVec 16) (s : State) : Out :=
  s.writeResult [rs] rt (s.getGpr rs ||| immZ imm)

/-- XORI (R288). -/
def execXori (rs rt : Reg) (imm : BitVec 16) (s : State) : Out :=
  s.writeResult [rs] rt (s.getGpr rs ^^^ immZ imm)

/-- LUI (R290). -/
def execLui (rt : Reg) (imm : BitVec 16) (s : State) : Out :=
  s.writeGpr rt (sextWord (imm ++ 0#16))

/-- DADDI (R274). -/
def execDaddi (rs rt : Reg) (imm : BitVec 16) (s : State) : Out :=
  let a := s.getGpr rs
  s.needLevel 3 (s.trappingDword [rs] (addOverflows64 a (immS imm)) rt (a + immS imm))

/-- DADDIU (R275). -/
def execDaddiu (rs rt : Reg) (imm : BitVec 16) (s : State) : Out :=
  s.needLevel 3 (s.writeResult [rs] rt (s.getGpr rs + immS imm))

/-- ADD (R267). -/
def execAdd (rs rt rd : Reg) (s : State) : Out :=
  let a := s.getGpr rs
  let b := s.getGpr2 rt
  s.trappingWord [rs, rt] [a, b] (addOverflows32 (lowWord a) (lowWord b)) rd (sextWord (lowWord a + lowWord b))

/-- ADDU (R270). -/
def execAddu (rs rt rd : Reg) (s : State) : Out :=
  let a := s.getGpr rs
  let b := s.getGpr2 rt
  s.writeResult [rs, rt] rd (s.wordResult [a, b] (sextWord (lowWord a + lowWord b)))

/-- SUB (R271). -/
def execSub (rs rt rd : Reg) (s : State) : Out :=
  let a := s.getGpr rs
  let b := s.getGpr2 rt
  s.trappingWord [rs, rt] [a, b] (subOverflows32 (lowWord a) (lowWord b)) rd (sextWord (lowWord a - lowWord b))

/-- SUBU (R272). -/
def execSubu (rs rt rd : Reg) (s : State) : Out :=
  let a := s.getGpr rs
  let b := s.getGpr2 rt
  s.writeResult [rs, rt] rd (s.wordResult [a, b] (sextWord (lowWord a - lowWord b)))

/-- AND (R283). -/
def execAnd (rs rt rd : Reg) (s : State) : Out :=
  s.writeResult [rs, rt] rd (s.getGpr rs &&& s.getGpr2 rt)

/-- OR (R285). -/
def execOr (rs rt rd : Reg) (s : State) : Out :=
  s.writeResult [rs, rt] rd (s.getGpr rs ||| s.getGpr2 rt)

/-- XOR (R287). -/
def execXor (rs rt rd : Reg) (s : State) : Out :=
  s.writeResult [rs, rt] rd (s.getGpr rs ^^^ s.getGpr2 rt)

/-- NOR (R289). -/
def execNor (rs rt rd : Reg) (s : State) : Out :=
  s.writeResult [rs, rt] rd (~~~(s.getGpr rs ||| s.getGpr2 rt))

/-- SLT (R279). -/
def execSlt (rs rt rd : Reg) (s : State) : Out :=
  s.writeResult [rs, rt] rd (boolWord (lessS (s.getGpr rs) (s.getGpr2 rt)))

/-- SLTU (R282). -/
def execSltu (rs rt rd : Reg) (s : State) : Out :=
  s.writeResult [rs, rt] rd (boolWord (lessU (s.getGpr rs) (s.getGpr2 rt)))

/-- DADD (R273). -/
def execDadd (rs rt rd : Reg) (s : State) : Out :=
  let a := s.getGpr rs
  let b := s.getGpr2 rt
  s.needLevel 3 (s.trappingDword [rs, rt] (addOverflows64 a b) rd (a + b))

/-- DADDU (R276). -/
def execDaddu (rs rt rd : Reg) (s : State) : Out :=
  s.needLevel 3 (s.writeResult [rs, rt] rd (s.getGpr rs + s.getGpr2 rt))

/-- DSUB (R277). -/
def execDsub (rs rt rd : Reg) (s : State) : Out :=
  let a := s.getGpr rs
  let b := s.getGpr2 rt
  s.needLevel 3 (s.trappingDword [rs, rt] (subOverflows64 a b) rd (a - b))

/-- DSUBU (R278). -/
def execDsubu (rs rt rd : Reg) (s : State) : Out :=
  s.needLevel 3 (s.writeResult [rs, rt] rd (s.getGpr rs - s.getGpr2 rt))

/-- MOVZ (R427). -/
def execMovz (rs rt rd : Reg) (s : State) : Out :=
  s.needLevel 4 (.next (if s.getGpr2 rt = 0 then (s.setGpr rd (s.getGpr rs)).retire else s.retire))

/-- MOVN (R426). -/
def execMovn (rs rt rd : Reg) (s : State) : Out :=
  s.needLevel 4 (.next (if s.getGpr2 rt ≠ 0 then (s.setGpr rd (s.getGpr rs)).retire else s.retire))

end Sys2Proof.Machine
end

