-- ==== Sys2Proof/Machine/Branch.lean ====
section
/-! DEFINITION. CPU jumps and branches (spec/44_cpu_jump_branch.md R370 to R389). -/

namespace Sys2Proof.Machine

/-- A conditional branch (R361): to the target after the slot, or on, with the slot executed or nullified. -/
def State.branchIf (s : State) (cond likely : Bool) (offset : BitVec 16) : State :=
  if cond then s.takeBranch (s.branchTarget offset) else if likely then s.nullifyNext else s.fallThrough

/-- The branches that write the link register 31, taken or not (R365, R366). -/
def State.branchLink (s : State) (rs : Reg) (cond likely : Bool) (offset : BitVec 16) : Out :=
  s.notInSlot <| if rs = 31 then .refused .linkRestriction
    else .next ((s.setGpr 31 s.link).branchIf cond likely offset)

/-- The comparisons with zero, on all bits (R367). -/
def isNegative (v : Dword) : Bool := v.getLsbD 63
def isPositive (v : Dword) : Bool := !v.getLsbD 63 && v != 0

/-- J (R370). -/
def execJ (index : BitVec 26) (s : State) : Out :=
  s.notInSlot (.next (s.takeBranch (s.jumpTarget index)))

/-- JAL (R371). -/
def execJal (index : BitVec 26) (s : State) : Out :=
  s.notInSlot (.next ((s.setGpr 31 s.link).takeBranch (s.jumpTarget index)))

/-- JR (R372). -/
def execJr (rs : Reg) (s : State) : Out :=
  s.notInSlot (.next (s.takeBranch (s.getGpr rs)))

/-- JALR (R373). -/
def execJalr (rs rd : Reg) (s : State) : Out :=
  s.notInSlot <| if rs = rd then .refused .linkRestriction
    else .next ((s.setGpr rd s.link).takeBranch (s.getGpr rs))

/-- BEQ (R374). -/
def execBeq (rs rt : Reg) (offset : BitVec 16) (s : State) : Out :=
  s.notInSlot (.next (s.branchIf (s.getGpr rs == s.getGpr2 rt) false offset))

/-- BEQL (R376). -/
def execBeql (rs rt : Reg) (offset : BitVec 16) (s : State) : Out :=
  s.needLevel 2 (s.notInSlot (.next (s.branchIf (s.getGpr rs == s.getGpr2 rt) true offset)))

/-- BNE (R375). -/
def execBne (rs rt : Reg) (offset : BitVec 16) (s : State) : Out :=
  s.notInSlot (.next (s.branchIf (s.getGpr rs != s.getGpr2 rt) false offset))

/-- BNEL (R377). -/
def execBnel (rs rt : Reg) (offset : BitVec 16) (s : State) : Out :=
  s.needLevel 2 (s.notInSlot (.next (s.branchIf (s.getGpr rs != s.getGpr2 rt) true offset)))

/-- BLEZ (R378). -/
def execBlez (rs : Reg) (offset : BitVec 16) (s : State) : Out :=
  s.notInSlot (.next (s.branchIf (!isPositive (s.getGpr rs)) false offset))

/-- BLEZL (R380). -/
def execBlezl (rs : Reg) (offset : BitVec 16) (s : State) : Out :=
  s.needLevel 2 (s.notInSlot (.next (s.branchIf (!isPositive (s.getGpr rs)) true offset)))

/-- BGTZ (R379). -/
def execBgtz (rs : Reg) (offset : BitVec 16) (s : State) : Out :=
  s.notInSlot (.next (s.branchIf (isPositive (s.getGpr rs)) false offset))

/-- BGTZL (R381). -/
def execBgtzl (rs : Reg) (offset : BitVec 16) (s : State) : Out :=
  s.needLevel 2 (s.notInSlot (.next (s.branchIf (isPositive (s.getGpr rs)) true offset)))

/-- BLTZ (R382). -/
def execBltz (rs : Reg) (offset : BitVec 16) (s : State) : Out :=
  s.notInSlot (.next (s.branchIf (isNegative (s.getGpr rs)) false offset))

/-- BLTZL (R384). -/
def execBltzl (rs : Reg) (offset : BitVec 16) (s : State) : Out :=
  s.needLevel 2 (s.notInSlot (.next (s.branchIf (isNegative (s.getGpr rs)) true offset)))

/-- BGEZ (R383). -/
def execBgez (rs : Reg) (offset : BitVec 16) (s : State) : Out :=
  s.notInSlot (.next (s.branchIf (!isNegative (s.getGpr rs)) false offset))

/-- BGEZL (R385). -/
def execBgezl (rs : Reg) (offset : BitVec 16) (s : State) : Out :=
  s.needLevel 2 (s.notInSlot (.next (s.branchIf (!isNegative (s.getGpr rs)) true offset)))

/-- BLTZAL (R386). -/
def execBltzal (rs : Reg) (offset : BitVec 16) (s : State) : Out :=
  s.branchLink rs (isNegative (s.getGpr rs)) false offset

/-- BLTZALL (R388). -/
def execBltzall (rs : Reg) (offset : BitVec 16) (s : State) : Out :=
  s.needLevel 2 (s.branchLink rs (isNegative (s.getGpr rs)) true offset)

/-- BGEZAL (R387). -/
def execBgezal (rs : Reg) (offset : BitVec 16) (s : State) : Out :=
  s.branchLink rs (!isNegative (s.getGpr rs)) false offset

/-- BGEZALL (R389). -/
def execBgezall (rs : Reg) (offset : BitVec 16) (s : State) : Out :=
  s.needLevel 2 (s.branchLink rs (!isNegative (s.getGpr rs)) true offset)

end Sys2Proof.Machine
end

