-- ==== Sys2Proof/Machine/FpValue.lean ====
section
/-! DEFINITION. The FPU's value model (spec/46_fpu_model.md R503 to R515, R537 to R547) and the arithmetic of
48_fpu_arith.md and 49_fpu_convert_move_branch.md: exact on natural numbers and integers, rounded once. -/

namespace Sys2Proof.Machine

/-- p, the bits of mantissa precision (R503). -/
def precOf : FpFmt → Nat
  | .S => 24
  | _ => 53
/-- The width of the exponent field (R503). -/
def expBits : FpFmt → Nat
  | .S => 8
  | _ => 11
/-- E_max, which is also the bias (R503). -/
def emaxOf : FpFmt → Nat
  | .S => 127
  | _ => 1023
/-- E_min (R503). -/
def eminOf : FpFmt → Int
  | .S => -126
  | _ => -1022
/-- The position of the sign bit (R503). -/
def signPos : FpFmt → Nat
  | .S => 31
  | _ => 63

/-- The value of a bit pattern (R504): a NaN, an infinity, a zero, or the number `m * 2^e` with its sign. -/
inductive FpVal where
  | nan (signaling : Bool)
  | inf (neg : Bool)
  | zero (neg : Bool)
  | num (neg : Bool) (m : Nat) (e : Int)
  deriving DecidableEq, Repr

/-- The fraction field. -/
def fracField (fmt : FpFmt) (b : Dword) : Nat := b.toNat % 2 ^ (precOf fmt - 1)
/-- The biased exponent field. -/
def expField (fmt : FpFmt) (b : Dword) : Nat := b.toNat / 2 ^ (precOf fmt - 1) % 2 ^ expBits fmt
/-- The sign bit. -/
def signField (fmt : FpFmt) (b : Dword) : Bool := b.getLsbD (signPos fmt)

/-- Decoding a bit pattern of format S or D (Table B-2, R504); a NaN with b1 = 1 is the signaling one. -/
def fpVal (fmt : FpFmt) (b : Dword) : FpVal :=
  let f := fracField fmt b
  let e := expField fmt b
  let s := signField fmt b
  if e = 2 ^ expBits fmt - 1 then
    if f = 0 then .inf s else .nan (decide (f / 2 ^ (precOf fmt - 2) = 1))
  else if e = 0 then
    if f = 0 then .zero s else .num s f (eminOf fmt - (precOf fmt - 1 : Nat))
  else .num s (f + 2 ^ (precOf fmt - 1)) ((e : Int) - (emaxOf fmt : Int) - (precOf fmt - 1 : Nat))

/-- The bit pattern of a sign and a magnitude pattern. -/
def fpPack (fmt : FpFmt) (neg : Bool) (mag : Nat) : Dword :=
  BitVec.ofNat 64 (mag + if neg then 2 ^ signPos fmt else 0)
/-- The magnitude pattern of infinity. -/
def infMag (fmt : FpFmt) : Nat := (2 ^ expBits fmt - 1) * 2 ^ (precOf fmt - 1)
def fpInf (fmt : FpFmt) (neg : Bool) : Dword := fpPack fmt neg (infMag fmt)
def fpZero (fmt : FpFmt) (neg : Bool) : Dword := fpPack fmt neg 0
/-- The largest finite number is one below infinity (R537). -/
def fpMax (fmt : FpFmt) (neg : Bool) : Dword := fpPack fmt neg (infMag fmt - 1)

/-- `NewQNaN(fmt)` (Table B-3, R508). -/
def newQNaN : FpFmt → Dword
  | .S => 0x7FBFFFFF#64
  | .D => 0x7FF7FFFFFFFFFFFF#64
  | .W => 0x7FFFFFFF#64
  | .L => 0x7FFFFFFFFFFFFFFF#64

/-- Is it a denormalized number (R505)? -/
def isDenorm (fmt : FpFmt) (b : Dword) : Bool :=
  match fmt with
  | .S | .D => expField fmt b == 0 && fracField fmt b != 0
  | _ => false

/-- The sign bit inverted. -/
def fpNegate (fmt : FpFmt) (b : Dword) : Dword := b ^^^ (1#64 <<< signPos fmt)

/-- The conditions that arose (V, Z, O, U, I) and the bits to deliver. -/
structure Rounded where
  conds : BitVec 5
  bits : Dword
  deriving DecidableEq, Repr

/-- A result without a condition. -/
def exactly (b : Dword) : Rounded := ⟨0, b⟩
/-- Invalid Operation with the new QNaN (R538). -/
def invalid (fmt : FpFmt) : Rounded := ⟨condV, newQNaN fmt⟩

/-! ### Rounding -/

/-- Drop the low `k` bits of the magnitude `m` (plus less than one unit when `sticky`), rounding in `mode` (10_state.md
R71): the rounded quotient and whether it is inexact. With `sticky`, `k` is at least 2. -/
def roundShift (mode : BitVec 2) (neg : Bool) (m : Nat) (sticky : Bool) (k : Nat) : Nat × Bool :=
  let q := m >>> k
  let r := m % 2 ^ k
  let inexact := sticky || r != 0
  let up : Bool :=
    if mode = 0 then decide (2 ^ k < 2 * r) || (2 ^ k == 2 * r && (sticky || q % 2 == 1))
    else if mode = 1 then false
    else if mode = 2 then inexact && !neg
    else inexact && neg
  (if up then q + 1 else q, inexact)

/-- The overflow default by mode and sign (Table B-4, R537). -/
def overflowDefault (fmt : FpFmt) (mode : BitVec 2) (neg : Bool) : Dword :=
  if mode = 0 then fpInf fmt neg
  else if mode = 1 then fpMax fmt neg
  else if mode = 2 then if neg then fpMax fmt neg else fpInf fmt neg
  else if neg then fpInf fmt neg else fpMax fmt neg

/-- `RoundResult` (R514, R546) of the nonzero number of magnitude `m * 2^e`, plus less than one unit of `m` when `sticky`
(then `m` has at least p + 3 bits). `f` is the FCSR the instruction sees. -/
def roundResult (fmt : FpFmt) (f : Word) (neg : Bool) (m : Nat) (e : Int) (sticky : Bool) : Rounded :=
  let p := precOf fmt
  let mode := rmOf f
  let shift := if sticky then 0 else p + 3
  let m' := m <<< shift
  let e' := e - (shift : Int)
  let k := m'.log2 + 1 - p
  let unb := roundShift mode neg m' sticky k
  let e1 := e' + (k : Int)
  let top := (unb.1.log2 : Int) + e1
  if (emaxOf fmt : Int) < top then
    ⟨condO ||| (if enablesOf f &&& condO = 0 then condI else if unb.2 then condI else 0),
      overflowDefault fmt mode neg⟩
  else if top < eminOf fmt then
    let low := eminOf fmt - (p - 1 : Nat)
    let fit := roundShift mode neg m' sticky (low - e').toNat
    let flush := fsOf f && fit.1 != 0 && decide (fit.1 < 2 ^ (p - 1))
    let inexact := fit.2 || flush
    ⟨(if enablesOf f &&& condU != 0 || inexact then condU else 0) ||| (if inexact then condI else 0),
      fpPack fmt neg (if flush then 0 else fit.1)⟩
  else
    ⟨if unb.2 then condI else 0,
      fpPack fmt neg
        ((e1 + (p - 1 : Nat) + (emaxOf fmt : Int)).toNat * 2 ^ (p - 1) + unb.1 - 2 ^ (p - 1))⟩

/-- The sign of an exact zero sum of values of opposite sign: minus only in mode RM (48_fpu_arith.md R582). -/
def zeroSumNeg (f : Word) : Bool := rmOf f == 3

/-- `m * 2^e` with its sign as an integer in units of `2^low`, `low` at most `e`. -/
def scaled (neg : Bool) (m : Nat) (e low : Int) : Int :=
  if neg then -((m <<< (e - low).toNat : Nat) : Int) else ((m <<< (e - low).toNat : Nat) : Int)

/-- The rounded sum of two nonzero numbers (48_fpu_arith.md R582). -/
def roundSum (fmt : FpFmt) (f : Word) (sa : Bool) (ma : Nat) (ea : Int) (sb : Bool) (mb : Nat) (eb : Int) : Rounded :=
  let low := min ea eb
  let x := scaled sa ma ea low + scaled sb mb eb low
  if x = 0 then exactly (fpZero fmt (zeroSumNeg f))
  else roundResult fmt f (decide (x < 0)) x.natAbs low false

/-! ### The operations on operands that are no NaN -/

/-- `Add` (48_fpu_arith.md R582). -/
def fpAdd (fmt : FpFmt) (f : Word) (a b : Dword) : Rounded :=
  match fpVal fmt a, fpVal fmt b with
  | .inf s, .inf t => if s = t then exactly a else invalid fmt
  | .inf _, _ => exactly a
  | _, .inf _ => exactly b
  | .zero s, .zero t => exactly (fpZero fmt (if s = t then s else zeroSumNeg f))
  | .zero _, .num s m e => roundResult fmt f s m e false
  | .num s m e, .zero _ => roundResult fmt f s m e false
  | .num sa ma ea, .num sb mb eb => roundSum fmt f sa ma ea sb mb eb
  | _, _ => invalid fmt

/-- `Sub` (R583). -/
def fpSub (fmt : FpFmt) (f : Word) (a b : Dword) : Rounded := fpAdd fmt f a (fpNegate fmt b)

/-- `Mul` (R584). -/
def fpMul (fmt : FpFmt) (f : Word) (a b : Dword) : Rounded :=
  let s := signField fmt a ^^ signField fmt b
  match fpVal fmt a, fpVal fmt b with
  | .zero _, .inf _ => invalid fmt
  | .inf _, .zero _ => invalid fmt
  | .inf _, _ => exactly (fpInf fmt s)
  | _, .inf _ => exactly (fpInf fmt s)
  | .zero _, _ => exactly (fpZero fmt s)
  | _, .zero _ => exactly (fpZero fmt s)
  | .num _ ma ea, .num _ mb eb => roundResult fmt f s (ma * mb) (ea + eb) false
  | _, _ => invalid fmt

/-- The rounded quotient of two nonzero numbers: enough quotient bits, and whether a remainder is left. -/
def roundQuotient (fmt : FpFmt) (f : Word) (neg : Bool) (ma : Nat) (ea : Int) (mb : Nat) (eb : Int) : Rounded :=
  let n := 2 * precOf fmt + 6
  roundResult fmt f neg ((ma <<< n) / mb) (ea - eb - (n : Int)) ((ma <<< n) % mb != 0)

/-- DIV by the table of R585. -/
def fpDiv (fmt : FpFmt) (f : Word) (a b : Dword) : Rounded :=
  let s := signField fmt a ^^ signField fmt b
  match fpVal fmt a, fpVal fmt b with
  | .zero _, .zero _ => invalid fmt
  | .inf _, .inf _ => invalid fmt
  | .inf _, _ => exactly (fpInf fmt s)
  | .num .., .zero _ => ⟨condZ, fpInf fmt s⟩
  | _, .inf _ => exactly (fpZero fmt s)
  | .zero _, _ => exactly (fpZero fmt s)
  | .num _ ma ea, .num _ mb eb => roundQuotient fmt f s ma ea mb eb
  | _, _ => invalid fmt

/-- The integer square root, bit by bit from bit `k - 1` down. -/
def isqrtFrom (n : Nat) : Nat → Nat → Nat
  | 0, r => r
  | k + 1, r => isqrtFrom n k (if (r + 2 ^ k) * (r + 2 ^ k) ≤ n then r + 2 ^ k else r)

/-- The integer square root. -/
def isqrt (n : Nat) : Nat := isqrtFrom n (n.log2 / 2 + 1) 0

/-- The magnitude scaled for a root: shifted so that the exponent is even and the root has enough bits. -/
def rootScale (fmt : FpFmt) (e : Int) : Nat := 2 * precOf fmt + 8 + (e % 2).toNat

/-- `Sqrt` (R586). -/
def fpSqrt (fmt : FpFmt) (f : Word) (a : Dword) : Rounded :=
  match fpVal fmt a with
  | .zero _ => exactly a
  | .inf false => exactly a
  | .num false m e =>
    let n := rootScale fmt e
    let x := m <<< n
    roundResult fmt f false (isqrt x) ((e - (n : Int)) / 2) (isqrt x * isqrt x != x)
  | _ => invalid fmt

/-- `Abs` (R587). -/
def fpAbs (fmt : FpFmt) (a : Dword) : Rounded := exactly (a &&& ~~~(1#64 <<< signPos fmt))

/-- `Neg` (R588). -/
def fpNeg (fmt : FpFmt) (a : Dword) : Rounded := exactly (fpNegate fmt a)

/-! ### The approximate operations -/

/-- The finite magnitude patterns at most `n` steps from `mag`. -/
def nearMags (fmt : FpFmt) (mag n : Nat) : List Nat :=
  ((List.range (2 * n + 1)).map fun i => mag + i - n).filter fun v => decide (v < infMag fmt)

/-- Choose one of a list, the default when it is empty. -/
def choose (l : List Nat) (pick dflt : Nat) : Nat := l.getD (pick % l.length) dflt

/-- The significand and exponent of a finite magnitude pattern; of zero, (0, the exponent of a denormal). -/
def magParts (fmt : FpFmt) (mag : Nat) : Nat × Int :=
  match fpVal fmt (BitVec.ofNat 64 mag) with
  | .num _ m e => (m, e)
  | _ => (0, eminOf fmt - (precOf fmt - 1 : Nat))

/-- Is `ma * 2^ea` at most `mb * 2^eb`? -/
def scaledLe (ma : Nat) (ea : Int) (mb : Nat) (eb : Int) : Bool :=
  decide (ma <<< (ea - min ea eb).toNat ≤ mb <<< (eb - min ea eb).toNat)

/-- Do the numbers of the patterns `v` and `r` differ by at most `n` units in the last place of `v`? -/
def withinUlps (fmt : FpFmt) (n v r : Nat) : Bool :=
  let (mv, ev) := magParts fmt v
  let (mr, er) := magParts fmt r
  scaledLe (mv - n) ev mr er && scaledLe mr er (mv + n) ev

/-- Is the pattern `v` within one unit in its last place of 1/(m * 2^e) (R592)? -/
def recipClose (fmt : FpFmt) (m : Nat) (e : Int) (v : Nat) : Bool :=
  let (mv, ev) := magParts fmt v
  scaledLe ((mv - 1) * m) (ev + e) 1 0 && scaledLe 1 0 ((mv + 1) * m) (ev + e)

/-- Is the pattern `v` within two units in its last place of 1/sqrt(m * 2^e) (R593)? -/
def rsqrtClose (fmt : FpFmt) (m : Nat) (e : Int) (v : Nat) : Bool :=
  let (mv, ev) := magParts fmt v
  scaledLe ((mv - 2) * (mv - 2) * m) (2 * ev + e) 1 0 && scaledLe 1 0 ((mv + 2) * (mv + 2) * m) (2 * ev + e)

/-- The finite patterns within `n` units in their last place of the rounded result `mag` and, by `close`, of the exact one.
A unit of `v` is at most two of those below a power of two, so they are at most `2 * n` steps away. -/
def candidates (fmt : FpFmt) (mag n : Nat) (close : Nat → Bool) : List Nat :=
  (nearMags fmt mag (2 * n)).filter fun v => withinUlps fmt n v mag && close v

/-- An approximate result: the pattern chosen among those that are close enough, with Inexact when it differs from the
exact value, and Underflow for a tiny one. A result that overflows or that FS flushes is the rounded one. -/
def approximate (fmt : FpFmt) (f : Word) (neg : Bool) (r : Rounded) (isExact : Nat → Bool) (mags : List Nat)
    (pick : Nat) : Rounded :=
  let mag := r.bits.toNat % 2 ^ signPos fmt
  if r.conds &&& condO != 0 || (fsOf f && r.conds &&& condU != 0) then r
  else
    let v := choose mags pick mag
    let tiny := decide (v < 2 ^ (precOf fmt - 1))
    let inexact := !isExact v
    if tiny && fsOf f then r
    else
      ⟨(if tiny && (enablesOf f &&& condU != 0 || inexact) then condU else 0) ||| (if inexact then condI else 0),
        fpPack fmt neg v⟩

/-- `Recip` (R592). Which result within one ulp is delivered is free (notes/assumptions/43.md). -/
def fpRecip (fmt : FpFmt) (f : Word) (a : Dword) : Rounded :=
  match fpVal fmt a with
  | .zero s => ⟨condZ, fpInf fmt s⟩
  | .inf s => exactly (fpZero fmt s)
  | .num s m e =>
    let r := roundQuotient fmt f s 1 0 m e
    let mags := candidates fmt (r.bits.toNat % 2 ^ signPos fmt) 1 (recipClose fmt m e)
    approximate fmt f s r
      (fun v => scaledLe ((magParts fmt v).1 * m) ((magParts fmt v).2 + e) 1 0
        && scaledLe 1 0 ((magParts fmt v).1 * m) ((magParts fmt v).2 + e))
      mags (Config.recipPick (fmt == .D) a (rmOf f))
  | .nan _ => invalid fmt

/-- 1/sqrt(m * 2^e) rounded once: the root of the quotient 1/m at enough bits. -/
def roundRsqrt (fmt : FpFmt) (f : Word) (m : Nat) (e : Int) : Rounded :=
  let n := 4 * precOf fmt + 16 + (e % 2).toNat
  let x := (1 <<< n) / m
  roundResult fmt f false (isqrt x) ((-e - (n : Int)) / 2) ((1 <<< n) % m != 0 || isqrt x * isqrt x != x)

/-- `Rsqrt` (R593). Which result within two ulp is delivered is free (notes/assumptions/43.md). -/
def fpRsqrt (fmt : FpFmt) (f : Word) (a : Dword) : Rounded :=
  match fpVal fmt a with
  | .zero s => ⟨condZ, fpInf fmt s⟩
  | .inf false => exactly (fpZero fmt false)
  | .num false m e =>
    let r := roundRsqrt fmt f m e
    let mags := candidates fmt (r.bits.toNat % 2 ^ signPos fmt) 2 (rsqrtClose fmt m e)
    approximate fmt f false r
      (fun v =>
        let w := magParts fmt v
        scaledLe (w.1 * w.1 * m) (2 * w.2 + e) 1 0 && scaledLe 1 0 (w.1 * w.1 * m) (2 * w.2 + e))
      mags (Config.rsqrtPick (fmt == .D) a (rmOf f))
  | _ => invalid fmt

/-! ### Multiply-accumulate -/

/-- The unrounded product plus `c` (R596). -/
def fusedMulAdd (fmt : FpFmt) (f : Word) (a b c : Dword) : Rounded :=
  let s := signField fmt a ^^ signField fmt b
  match fpVal fmt a, fpVal fmt b, fpVal fmt c with
  | .zero _, .inf _, _ => invalid fmt
  | .inf _, .zero _, _ => invalid fmt
  | .inf _, _, .inf t => if s = t then exactly c else invalid fmt
  | _, .inf _, .inf t => if s = t then exactly c else invalid fmt
  | .inf _, _, _ => exactly (fpInf fmt s)
  | _, .inf _, _ => exactly (fpInf fmt s)
  | _, _, .inf _ => exactly c
  | .num _ ma ea, .num _ mb eb, .num t mc ec => roundSum fmt f s (ma * mb) (ea + eb) t mc ec
  | .num _ ma ea, .num _ mb eb, _ => roundResult fmt f s (ma * mb) (ea + eb) false
  | _, _, .num t mc ec => roundResult fmt f t mc ec false
  | _, _, .zero t => exactly (fpZero fmt (if s = t then s else zeroSumNeg f))
  | _, _, _ => invalid fmt

/-- The rounded model: the product, then the sum, with the conditions of both; an enabled condition of the product ends
it in precise mode (R596). -/
def roundedMulAdd (fmt : FpFmt) (f : Word) (precise : Bool) (a b c : Dword) : Rounded :=
  let p := fpMul fmt f a b
  if p.conds &&& condV != 0 then p
  else if precise && p.conds &&& enablesOf f != 0 then p
  else
    let r := fpAdd fmt f p.bits c
    ⟨p.conds ||| r.conds, r.bits⟩

/-- Is it a NaN of the format? -/
def isNaN (fmt : FpFmt) (b : Dword) : Bool :=
  match fpVal fmt b with
  | .nan _ => true
  | _ => false

/-- Is it a signaling NaN? -/
def isSNaN (fmt : FpFmt) (b : Dword) : Bool :=
  match fpVal fmt b with
  | .nan s => s
  | _ => false

/-- `MulAcc` of fs, ft and fr (R596): `sub` for MSUB and NMSUB, `neg` for NMADD and NMSUB. -/
def fpMulAcc (env : Env) (fmt : FpFmt) (f : Word) (sub neg : Bool) (fs ft fr : Dword) : Rounded :=
  let c := if sub then fpNegate fmt fr else fr
  let r := match env.maddModel with
    | .rounded => roundedMulAdd fmt f (env.fpMode == .precise) fs ft c
    | .unrounded => fusedMulAdd fmt f fs ft c
  if neg && !isNaN fmt r.bits then ⟨r.conds, fpNegate fmt r.bits⟩ else r

/-! ### NaN operands, comparison, conversion -/

/-- The result when an operand is a NaN (46_fpu_model.md R547): Invalid for a signaling one; one of the operand QNaNs,
`PropagateNaN`, or the new one. -/
def nanResult (env : Env) (fmt : FpFmt) (operands : List Dword) : Rounded :=
  let quiet := operands.filter fun b => isNaN fmt b && !isSNaN fmt b
  let k := match env.nanPick with
    | .nth k => k
    | .specific => Config.propagateNaN fmt quiet
  ⟨if operands.any (isSNaN fmt) then condV else 0, quiet.getD (k % quiet.length) (newQNaN fmt)⟩

/-- An operation that delivers a floating-point result: NaN operands first (46_fpu_model.md R547). -/
def nanFirst (env : Env) (fmt : FpFmt) (operands : List Dword) (r : Rounded) : Rounded :=
  if operands.any (isNaN fmt) then nanResult env fmt operands else r

/-- The order of the numbers and infinities of a format: a sign-magnitude pattern as an integer, both zeros 0. -/
def orderKey (fmt : FpFmt) (b : Dword) : Int :=
  let mag := b.toNat % 2 ^ signPos fmt
  if signField fmt b then -(mag : Int) else (mag : Int)

/-- C.cond.fmt (48_fpu_arith.md R600): the condition as bit 0 of the bits delivered. -/
def fpCompare (fmt : FpFmt) (cond : BitVec 4) (a b : Dword) : Rounded :=
  let unordered := isNaN fmt a || isNaN fmt b
  let less := !unordered && decide (orderKey fmt a < orderKey fmt b)
  let equal := !unordered && decide (orderKey fmt a = orderKey fmt b)
  let v := unordered && (cond.getLsbD 3 || isSNaN fmt a || isSNaN fmt b)
  let c := (cond.getLsbD 2 && less) || (cond.getLsbD 1 && equal) || (cond.getLsbD 0 && unordered)
  ⟨if v then condV else 0, (BitVec.ofBool c).setWidth 64⟩

/-- `ToFixed` (49_fpu_convert_move_branch.md R621): `n` is 31 for W and 63 for L. -/
def toFixed (fmt : FpFmt) (mode : BitVec 2) (n : Nat) (a : Dword) : Rounded :=
  match fpVal fmt a with
  | .zero _ => exactly 0
  | .num neg m e =>
    let q := roundShift mode neg (m <<< e.toNat) false (-e).toNat
    let i : Int := if neg then -(q.1 : Int) else (q.1 : Int)
    if overflows n i then ⟨condV, BitVec.ofNat 64 (2 ^ n - 1)⟩
    else ⟨if q.2 then condI else 0, (BitVec.ofInt (n + 1) i).setWidth 64⟩
  | _ => ⟨condV, BitVec.ofNat 64 (2 ^ n - 1)⟩

/-- A fixed-point number to a floating-point format (R622, R623). -/
def fromInt (fmt : FpFmt) (f : Word) (i : Int) : Rounded :=
  if i = 0 then exactly (fpZero fmt false) else roundResult fmt f (decide (i < 0)) i.natAbs 0 false

/-- A QNaN of format `dst` with a sign and the low bits of a fraction, b1 = 0 and not all zero (R504). -/
def quietNaN (dst : FpFmt) (neg : Bool) (frac : Nat) : Dword :=
  let low := frac % 2 ^ (precOf dst - 2)
  fpPack dst neg (infMag dst + if low = 0 then 1 else low)

/-- The QNaN an implementation may build from a NaN operand (R622): its sign and leading fraction bits, made quiet. -/
def quietFrom (src dst : FpFmt) (a : Dword) : Dword :=
  quietNaN dst (signField src a) (fracField src a <<< (precOf dst - 1) >>> (precOf src - 1))

/-- The QNaN a conversion delivers for a NaN operand, `ConvertNaN` (R622). -/
def convertedNaN (env : Env) (src dst : FpFmt) (a : Dword) : Dword :=
  match env.convertNaN with
  | .newQNaN => newQNaN dst
  | .fromOperand => quietFrom src dst a
  | .specific => quietNaN dst (signField dst (Config.convertNaN src dst a)) (Config.convertNaN src dst a).toNat

/-- CVT.S.D and CVT.D.S (R622, R623). -/
def fpConvert (env : Env) (src dst : FpFmt) (f : Word) (a : Dword) : Rounded :=
  match fpVal src a with
  | .nan s => ⟨if s then condV else 0, convertedNaN env src dst a⟩
  | .inf s => exactly (fpInf dst s)
  | .zero s => exactly (fpZero dst s)
  | .num s m e => roundResult dst f s m e false

/-- A denormalized operand replaced by a zero of its sign when FS and `FsOperandFlush` are set (46_fpu_model.md R542). -/
def flushOperand (env : Env) (fmt : FpFmt) (f : Word) (a : Dword) : Dword :=
  if fsOf f && env.fsOperandFlush && isDenorm fmt a then fpZero fmt (signField fmt a) else a

end Sys2Proof.Machine
end

