-- ==== Sys2Proof/Machine/FpRegs.lean ====
section
/-! DEFINITION. The FPU registers: the FGRs, their use as FPRs with a format state, and the common course of an FPU
arithmetic instruction and of a formatted move (spec/10_state.md R62 to R77, 46_fpu_model.md R520 to R526,
48_fpu_arith.md R581, 49_fpu_convert_move_branch.md R640). -/

namespace Sys2Proof.Machine

/-- `SizeFGR()` = 64 (10_state.md R62). -/
def State.fgr64 (s : State) : Bool := s.env.is64 && s.statusFR

/-- The odd register of the pair of `n`. -/
def oddOf (n : Reg) : Reg := n ||| 1
/-- The even register of the pair of `n`. -/
def evenOf (n : Reg) : Reg := n &&& 0b11110#5

/-- The register whose tag `n` uses: its own, or its pair's in the 32-bit model (46_fpu_model.md R520). -/
def State.tagReg (s : State) (n : Reg) : Reg := if s.fgr64 then n else evenOf n
/-- `Fmt[n]`. -/
def State.tagOf (s : State) (n : Reg) : FprTag := regGet s.fprTag (s.tagReg n)
/-- `Fmt[n] <- t`. -/
def State.setTag (s : State) (n : Reg) (t : FprTag) : State := { s with fprTag := regSet s.fprTag (s.tagReg n) t }

/-- Bits 31..0 of FGR[n]; arbitrary right after a move to it below level IV (70_reset_and_hazards.md R825). -/
def State.fgrLow (s : State) (n : Reg) : Word :=
  if n ∈ s.hazards.moveFpr then lowWord (s.draw (slotFgrLo n)) else regGet s.fgrLo n
/-- Bits 63..32 of FGR[n]. -/
def State.fgrHigh (s : State) (n : Reg) : Word :=
  if n ∈ s.hazards.moveFpr then lowWord (s.draw (slotFgrHi n)) else regGet s.fgrHi n
def State.setLow (s : State) (n : Reg) (w : Word) : State := { s with fgrLo := regSet s.fgrLo n w }
def State.setHigh (s : State) (n : Reg) (w : Word) : State := { s with fgrHi := regSet s.fgrHi n w }

/-- The 64 bits of FPR n: one FGR, or an even/odd pair (10_state.md R63, R65); arbitrary right after a move to one of the
FGRs below level IV (70_reset_and_hazards.md R825). -/
def State.pairBits (s : State) (n : Reg) : Dword :=
  if s.fgr64 then s.fgrHigh n ++ s.fgrLow n
  else if evenOf n ∈ s.hazards.moveFpr ∨ oddOf n ∈ s.hazards.moveFpr then s.draw (slotFgrLo n)
  else s.fgrLow (oddOf n) ++ s.fgrLow (evenOf n)

/-- Write the 64 bits of FPR n (10_state.md R64, R65). -/
def State.setPair (s : State) (n : Reg) (v : Dword) : State :=
  if s.fgr64 then (s.setLow n (lowWord v)).setHigh n (v.extractLsb' 32 32)
  else (s.setLow (evenOf n) (lowWord v)).setLow (oddOf n) (v.extractLsb' 32 32)

/-- Arbitrary bits in the whole of FPR n. -/
def State.scramble (s : State) (n : Reg) : State :=
  s.setPair n (lowWord (s.draw (slotNewHi n)) ++ lowWord (s.draw (slotNewLo n)))

/-- FPR n becomes unknown (46_fpu_model.md R523). -/
def State.spoil (s : State) (n : Reg) : State := (s.scramble n).setTag n .unknown

/-- A word in the low half, `undefined32` in the other half of a 64-bit FGR (10_state.md R75, 47_fpu_transfer.md R557). -/
def State.loadWordFgr (s : State) (n : Reg) (w : Word) : State :=
  let t := s.setLow n w
  (if s.fgr64 then t.setHigh n (lowWord (s.draw (slotNewHi n))) else t).setTag n .uninterpreted

/-- A doubleword into FPR n; with an odd n in the 32-bit model the pair becomes arbitrary (47_fpu_transfer.md R554). -/
def State.loadDwordFgr (s : State) (n : Reg) (v : Dword) : State :=
  (if !s.fgr64 && n.getLsbD 0 then s.scramble n else s.setPair n v).setTag n .uninterpreted

/-- The word a store or move takes from FGR[n]: `BitsOf` (47_fpu_transfer.md R555). -/
def State.wordOfFgr (s : State) (n : Reg) : Word :=
  if s.tagOf n = .unknown then lowWord (s.draw (slotFgrLo n)) else s.fgrLow n

/-- The doubleword a store or move takes from FPR n (47_fpu_transfer.md R554, R555). -/
def State.dwordOfFgr (s : State) (n : Reg) : Dword :=
  if s.tagOf n = .unknown || (!s.fgr64 && n.getLsbD 0) then s.draw (slotFgrLo n) else s.pairBits n

/-- Is the format 32 bits wide? -/
def isWordFmt : FpFmt → Bool
  | .S | .W => true
  | _ => false

/-- The bits `ValueFPR` decodes (10_state.md R63). -/
def State.fprBits (s : State) (n : Reg) (fmt : FpFmt) : Dword :=
  if isWordFmt fmt then zextWord (s.fgrLow n) else s.pairBits n

/-- `ValueFPR(n, fmt)` with its format-state transition (46_fpu_model.md R523): no value when it is unknown. -/
def State.readFpr (s : State) (n : Reg) (fmt : FpFmt) : Option Dword × State :=
  match s.tagOf n with
  | .uninterpreted => (some (s.fprBits n fmt), s.setTag n (.value fmt))
  | .value g => if g = fmt then (some (s.fprBits n fmt), s) else (none, s.spoil n)
  | .unknown => (none, s)

/-- Does FPR n hold a register that a move to the FPU below level IV has just written (70_reset_and_hazards.md R825)? -/
def State.movedFpr (s : State) (fmt : FpFmt) (n : Reg) : Bool :=
  if isWordFmt fmt || s.fgr64 then decide (n ∈ s.hazards.moveFpr)
  else decide (evenOf n ∈ s.hazards.moveFpr ∨ oddOf n ∈ s.hazards.moveFpr)

/-- The value of FPR n as the operand that stands `k` before the last. Right after a move to it below level IV each operand
draws its own: two reads by one instruction need not agree (70_reset_and_hazards.md R825, 93_implementation_defined.md U72,
notes/assumptions/37.md). -/
def State.operand (s : State) (fmt : FpFmt) (n : Reg) (k : Nat) (v : Dword) : Dword :=
  if !s.movedFpr fmt n then v
  else if isWordFmt fmt then zextWord (lowWord (s.draw (slotOperand k)))
  else s.draw (slotOperand k)

/-- The sources of an instruction, one after the other; no values when one is unknown. -/
def State.readFprs (s : State) (fmt : FpFmt) : List Reg → Option (List Dword) × State
  | [] => (some [], s)
  | n :: ns =>
    let one := s.readFpr n fmt
    let rest := one.2.readFprs fmt ns
    (match one.1, rest.1 with
      | some v, some vs => some (s.operand fmt n ns.length v :: vs)
      | _, _ => none, rest.2)

/-- `StoreFPR(fd, fmt, v)` (10_state.md R64, 46_fpu_model.md R522). -/
def State.storeFpr (s : State) (n : Reg) (fmt : FpFmt) (v : Dword) : State :=
  (if isWordFmt fmt then
    let t := s.setLow n (lowWord v)
    if s.fgr64 then t.setHigh n (lowWord (s.draw (slotNewHi n)))
    else t.setLow (oddOf n) (lowWord (s.draw (slotNewLo (oddOf n))))
  else s.setPair n v).setTag n (.value fmt)

/-- Does one of the registers not name an FPR? With 32-bit FGRs only an even number names one, for all four formats, L
included (10_state.md R63, 46_fpu_model.md R511, 49_fpu_convert_move_branch.md R620). 93_implementation_defined.md U65 also
lists "L in the 32-bit model" as not valid; following the three rules is the model's choice (DEDUCED,
notes/assumptions/38.md). -/
def State.badFpr (s : State) (regs : List Reg) : Bool := !s.fgr64 && regs.any (·.getLsbD 0)

/-- Does the environment's list name the instruction, by its word? -/
def State.fpUnimpNames (s : State) (i : Instr) : Bool := s.env.fpUnimpWords.any fun p => encode i &&& p.1 == p.2

/-- `FpUnimplemented` (46_fpu_model.md R541) by the instruction, with all its fields, or by whatever the implementation says
of it, the operand values and the FCSR. -/
def State.fpTrapped (s : State) (i : Instr) (operands : List Dword) : Bool :=
  s.fpUnimpNames i || (s.env.fpUnimpOther && Config.fpUnimplemented i operands s.fcsrView)

/-- `FpUnimplemented` of an arithmetic instruction, a denormalized operand included (R541, R542). -/
def State.fpUnimplemented (s : State) (i : Instr) (fmt : FpFmt) (operands : List Dword) : Bool :=
  s.fpTrapped i operands || (s.env.fpUnimpDenormOperand && operands.any (isDenorm fmt))

/-- Where an arithmetic instruction puts its result. -/
inductive FpDest where
  | fpr (n : Reg) (fmt : FpFmt)
  | cond (cc : BitVec 3)
  deriving DecidableEq, Repr

/-- Write the result (46_fpu_model.md R546). -/
def State.writeDest (s : State) (d : FpDest) (v : Dword) : State :=
  match d with
  | .fpr n fmt => s.storeFpr n fmt v
  | .cond cc => { s with fcsr := withFcc s.fcsr cc (v.getLsbD 0) }

/-- Make the result unknown (46_fpu_model.md R523). -/
def State.spoilDest (s : State) (d : FpDest) : State :=
  match d with
  | .fpr n _ => s.spoil n
  | .cond cc => { s with fcsr := withFcc s.fcsr cc (s.flipCoin slotCond) }

/-- The registers a destination names. -/
def FpDest.regs : FpDest → List Reg
  | .fpr n _ => [n]
  | .cond _ => []

/-- The tracker a compare sets below level IV (70_reset_and_hazards.md R828). -/
def State.destHazard (s : State) (d : FpDest) : Hazards :=
  match d with
  | .fpr _ _ => Hazards.empty
  | .cond _ => { Hazards.empty with compare := decide (s.env.archLevel < 4) }

/-- Is the delivered result denormalized? -/
def destDenorm (d : FpDest) (v : Dword) : Bool :=
  match d with
  | .fpr _ fmt => isDenorm fmt v
  | .cond _ => false

/-- The FCSR when the result of an arithmetic instruction is undefined: cause and flags arbitrary. -/
def State.undefinedFcsr (s : State) : Word := s.freeFlags (s.freeCause s.fcsr)

/-- `FpFinish` (46_fpu_model.md R546, R533): `s` before the instruction, `t` after its operands were read. `pageV` marks the
compares and conversions to fixed point, whose Invalid Operation sets no flag in imprecise mode (R533). Right after a CTC1
below level IV the cause field and the flags written are arbitrary (70_reset_and_hazards.md R827); that the record of a
Floating Point exception then still names the conditions computed, by the FCSR the instruction sees, is the model's choice
(DESIGN CHOICE, notes/assumptions/37.md). -/
def State.fpFinish (s t : State) (f : Word) (d : FpDest) (r : Rounded) (pageV : Bool) : Out :=
  match s.env.fpMode with
  | .precise =>
    if r.conds &&& enablesOf f != 0 then
      .next ({ s with fcsr := s.trapFcsr (r.conds.setWidth 6) }.raise (.floatingPoint (r.conds.setWidth 6)))
    else
      .next (({ t with fcsr := s.doneFcsr r.conds r.conds }.writeDest d r.bits).retireWith (s.destHazard d) .none)
  | .imprecise =>
    .next (({ t with
        fcsr := s.doneFcsr r.conds (if pageV then r.conds &&& ~~~condV else r.conds)
        pendingFpTrap := t.pendingFpTrap || r.conds &&& enablesOf f != 0 }.writeDest d r.bits).retireWith
      (s.destHazard d) .none)

/-- An instruction with an unknown operand: the result, the cause field, the flags and whether a trap is taken are
arbitrary (46_fpu_model.md R523, D31). In precise mode the trap has an arbitrary cause field. In imprecise mode only
Unimplemented Operation is taken at once; for the other conditions the instruction completes, and an arbitrary choice
makes a trap pending (R533). Which traps an arbitrary choice may be is the model's (DEDUCED, notes/assumptions/39.md). -/
def State.fpUnknown (s t : State) (d : FpDest) : Out :=
  match s.env.fpMode with
  | .precise =>
    if s.flipCoin slotTrap then
      .next ({ s with fcsr := s.freeCause s.fcsr }.raise (.floatingPoint ((s.draw slotCause).extractLsb' 0 6)))
    else .next (({ t with fcsr := s.undefinedFcsr }.spoilDest d).retireWith (s.destHazard d) .none)
  | .imprecise =>
    if s.flipCoin slotTrap then .next s.trapUnimplemented
    else
      .next (({ t with
          fcsr := s.undefinedFcsr
          pendingFpTrap := t.pendingFpTrap || s.flipCoin slotPend }.spoilDest d).retireWith (s.destHazard d) .none)

/-- The result of an instruction with these sources: right after a move to one of them below level IV it is undefined
(70_reset_and_hazards.md R825). That its conditions are still those of the operands read is the model's choice (DEDUCED,
notes/assumptions/37.md). -/
def State.fpResult (s : State) (fmt : FpFmt) (srcs : List Reg) (r : Rounded) : Rounded :=
  if srcs.any (s.movedFpr fmt) then { r with bits := s.draw slotMoved } else r

/-- `FpArith` from step 3 on (48_fpu_arith.md R581): `compute` gives the conditions and the result from the FCSR the
instruction `i` sees and its operands. With a register that names no FPR (step 3) no operand is read, so the format states
of the valid, uninterpreted sources stay as they were: the spec does not say whether step 4 is still taken for them, and
that it is not is the model's choice (DESIGN CHOICE, notes/assumptions/38.md). -/
def State.fpArith (s : State) (i : Instr) (fmt : FpFmt) (srcs : List Reg) (d : FpDest) (pageV : Bool)
    (compute : Word → List Dword → Rounded) : Out :=
  if s.badFpr (srcs ++ d.regs) then
    .next (({ s with fcsr := s.undefinedFcsr }.spoilDest d).retireWith (s.destHazard d) .none)
  else
    let read := s.readFprs fmt srcs
    match read.1 with
    | none => s.fpUnknown read.2 d
    | some vs =>
      if s.fpUnimplemented i fmt vs then .next s.trapUnimplemented
      else
        let f := s.fcsrView
        let r := s.fpResult fmt srcs (compute f (vs.map (flushOperand s.env fmt f)))
        if s.env.fpUnimpDenormResult && !fsOf f && destDenorm d r.bits then .next s.trapUnimplemented
        else s.fpFinish read.2 f d r pageV

/-- `FpMove` from step 3 on (49_fpu_convert_move_branch.md R640). A source that is unknown or of another format leaves fd,
the cause field, the flags and whether a trap is taken arbitrary, as for arithmetic (46_fpu_model.md R523;
93_implementation_defined.md U66; 92_eei_decisions.md D31). `tested` is the general
register that MOVZ and MOVN test: an operand for `FpUnimplemented`, after the bits that move. With a register that names no
FPR the source's format state stays as it was, as in `State.fpArith` (DESIGN CHOICE, notes/assumptions/38.md). -/
def State.fpMove (s : State) (i : Instr) (fmt : FpFmt) (fs fd : Reg) (tested : List Dword) (cond : Bool) : Out :=
  let src := if cond then fs else fd
  if s.badFpr [fs, fd] then .next (s.spoil fd).retire
  else if s.fpTrapped i (s.fprBits src fmt :: tested) then .next s.trapUnimplemented
  else
    let read := s.readFpr src fmt
    match read.1 with
    | none => s.fpUnknown read.2 (.fpr fd fmt)
    | some v => .next (read.2.storeFpr fd fmt v).retire

/-- The tracker of a move to an FPU register below level IV (70_reset_and_hazards.md R825). -/
def State.moveToHazard (s : State) (regs : List Reg) : Hazards :=
  { Hazards.empty with moveFpr := if s.env.archLevel < 4 then regs else [] }

/-- The tracker of a move from the FPU below level IV (70_reset_and_hazards.md R824). -/
def State.moveFromHazard (s : State) (rt : Reg) : Hazards :=
  { Hazards.empty with moveGpr := if s.env.archLevel < 4 ∧ rt ≠ 0 then some rt else none }

end Sys2Proof.Machine
end

