-- ==== Sys2Proof/Machine/FpArith.lean ====
section
/-! DEFINITION. FPU arithmetic and compares (spec/48_fpu_arith.md R582 to R604). -/

namespace Sys2Proof.Machine

/-- An operation on fs. -/
def State.fpUnary (s : State) (i : Instr) (fmt : FpFmt) (fs fd : Reg) (f : FpFmt → Word → Dword → Rounded) : Out :=
  s.fpArith i fmt [fs] (.fpr fd fmt) false fun c vs => nanFirst s.env fmt vs (f fmt c (vs.getD 0 0))

/-- An operation on fs and ft. -/
def State.fpBinary (s : State) (i : Instr) (fmt : FpFmt) (fs ft fd : Reg) (f : FpFmt → Word → Dword → Dword → Rounded) :
    Out :=
  s.fpArith i fmt [fs, ft] (.fpr fd fmt) false fun c vs =>
    nanFirst s.env fmt vs (f fmt c (vs.getD 0 0) (vs.getD 1 0))

/-- A multiply-accumulate of fs, ft and fr (R594 to R596). -/
def State.fpTernary (s : State) (i : Instr) (fmt : FpFmt) (fr ft fs fd : Reg) (sub neg : Bool) : Out :=
  s.needCop1x <| s.fpArith i fmt [fs, ft, fr] (.fpr fd fmt) false fun c vs =>
    nanFirst s.env fmt vs (fpMulAcc s.env fmt c sub neg (vs.getD 0 0) (vs.getD 1 0) (vs.getD 2 0))

/-- A condition code other than 0 below level IV is a required-zero field that is not zero (30_encoding.md R188). -/
def State.needCc (s : State) (cc : BitVec 3) (k : Out) : Out :=
  if s.env.archLevel < 4 ∧ cc ≠ 0 then .next (s.raise .reservedInstruction) else k

/-- C.cond.fmt (R600). -/
def State.fpCompareOp (s : State) (i : Instr) (fmt : FpFmt) (cond : BitVec 4) (ft fs : Reg) (cc : BitVec 3) : Out :=
  s.needCop 1 <| s.needCc cc <|
    s.fpArith i fmt [fs, ft] (.cond cc) true fun _ vs => fpCompare fmt cond (vs.getD 0 0) (vs.getD 1 0)

/-- ADD.S (R582). -/
def execAddS (ft fs fd : Reg) (s : State) : Out :=
  s.needCop 1 (s.fpBinary (.addS ft fs fd) .S fs ft fd fpAdd)

/-- ADD.D (R582). -/
def execAddD (ft fs fd : Reg) (s : State) : Out :=
  s.needCop 1 (s.fpBinary (.addD ft fs fd) .D fs ft fd fpAdd)

/-- SUB.S (R583). -/
def execSubS (ft fs fd : Reg) (s : State) : Out :=
  s.needCop 1 (s.fpBinary (.subS ft fs fd) .S fs ft fd fpSub)

/-- SUB.D (R583). -/
def execSubD (ft fs fd : Reg) (s : State) : Out :=
  s.needCop 1 (s.fpBinary (.subD ft fs fd) .D fs ft fd fpSub)

/-- MUL.S (R584). -/
def execMulS (ft fs fd : Reg) (s : State) : Out :=
  s.needCop 1 (s.fpBinary (.mulS ft fs fd) .S fs ft fd fpMul)

/-- MUL.D (R584). -/
def execMulD (ft fs fd : Reg) (s : State) : Out :=
  s.needCop 1 (s.fpBinary (.mulD ft fs fd) .D fs ft fd fpMul)

/-- DIV.S (R585). -/
def execDivS (ft fs fd : Reg) (s : State) : Out :=
  s.needCop 1 (s.fpBinary (.divS ft fs fd) .S fs ft fd fpDiv)

/-- DIV.D (R585). -/
def execDivD (ft fs fd : Reg) (s : State) : Out :=
  s.needCop 1 (s.fpBinary (.divD ft fs fd) .D fs ft fd fpDiv)

/-- SQRT.S (R586). -/
def execSqrtS (fs fd : Reg) (s : State) : Out :=
  s.needCop 1 (s.needFpLevel 2 (s.fpUnary (.sqrtS fs fd) .S fs fd fpSqrt))

/-- SQRT.D (R586). -/
def execSqrtD (fs fd : Reg) (s : State) : Out :=
  s.needCop 1 (s.needFpLevel 2 (s.fpUnary (.sqrtD fs fd) .D fs fd fpSqrt))

/-- ABS.S (R587). -/
def execAbsS (fs fd : Reg) (s : State) : Out :=
  s.needCop 1 (s.fpUnary (.absS fs fd) .S fs fd (fun fmt _ a => fpAbs fmt a))

/-- ABS.D (R587). -/
def execAbsD (fs fd : Reg) (s : State) : Out :=
  s.needCop 1 (s.fpUnary (.absD fs fd) .D fs fd (fun fmt _ a => fpAbs fmt a))

/-- NEG.S (R588). -/
def execNegS (fs fd : Reg) (s : State) : Out :=
  s.needCop 1 (s.fpUnary (.negS fs fd) .S fs fd (fun fmt _ a => fpNeg fmt a))

/-- NEG.D (R588). -/
def execNegD (fs fd : Reg) (s : State) : Out :=
  s.needCop 1 (s.fpUnary (.negD fs fd) .D fs fd (fun fmt _ a => fpNeg fmt a))

/-- RECIP.S (R592). -/
def execRecipS (fs fd : Reg) (s : State) : Out :=
  s.needCop 1 (s.needFpLevel 4 (s.fpUnary (.recipS fs fd) .S fs fd fpRecip))

/-- RECIP.D (R592). -/
def execRecipD (fs fd : Reg) (s : State) : Out :=
  s.needCop 1 (s.needFpLevel 4 (s.fpUnary (.recipD fs fd) .D fs fd fpRecip))

/-- RSQRT.S (R593). -/
def execRsqrtS (fs fd : Reg) (s : State) : Out :=
  s.needCop 1 (s.needFpLevel 4 (s.fpUnary (.rsqrtS fs fd) .S fs fd fpRsqrt))

/-- RSQRT.D (R593). -/
def execRsqrtD (fs fd : Reg) (s : State) : Out :=
  s.needCop 1 (s.needFpLevel 4 (s.fpUnary (.rsqrtD fs fd) .D fs fd fpRsqrt))

/-- MADD.S (R597). -/
def execMaddS (fr ft fs fd : Reg) (s : State) : Out :=
  s.fpTernary (.maddS fr ft fs fd) .S fr ft fs fd false false

/-- MADD.D (R597). -/
def execMaddD (fr ft fs fd : Reg) (s : State) : Out :=
  s.fpTernary (.maddD fr ft fs fd) .D fr ft fs fd false false

/-- MSUB.S (R598). -/
def execMsubS (fr ft fs fd : Reg) (s : State) : Out :=
  s.fpTernary (.msubS fr ft fs fd) .S fr ft fs fd true false

/-- MSUB.D (R598). -/
def execMsubD (fr ft fs fd : Reg) (s : State) : Out :=
  s.fpTernary (.msubD fr ft fs fd) .D fr ft fs fd true false

/-- NMADD.S (R599). -/
def execNmaddS (fr ft fs fd : Reg) (s : State) : Out :=
  s.fpTernary (.nmaddS fr ft fs fd) .S fr ft fs fd false true

/-- NMADD.D (R599). -/
def execNmaddD (fr ft fs fd : Reg) (s : State) : Out :=
  s.fpTernary (.nmaddD fr ft fs fd) .D fr ft fs fd false true

/-- NMSUB.S (R595). -/
def execNmsubS (fr ft fs fd : Reg) (s : State) : Out :=
  s.fpTernary (.nmsubS fr ft fs fd) .S fr ft fs fd true true

/-- NMSUB.D (R595). -/
def execNmsubD (fr ft fs fd : Reg) (s : State) : Out :=
  s.fpTernary (.nmsubD fr ft fs fd) .D fr ft fs fd true true

/-- C.F.S (R600). -/
def execCFS (ft fs : Reg) (cc : BitVec 3) (s : State) : Out :=
  s.fpCompareOp (.cFS ft fs cc) .S 0b0000#4 ft fs cc

/-- C.F.D (R600). -/
def execCFD (ft fs : Reg) (cc : BitVec 3) (s : State) : Out :=
  s.fpCompareOp (.cFD ft fs cc) .D 0b0000#4 ft fs cc

/-- C.UN.S (R600). -/
def execCUnS (ft fs : Reg) (cc : BitVec 3) (s : State) : Out :=
  s.fpCompareOp (.cUnS ft fs cc) .S 0b0001#4 ft fs cc

/-- C.UN.D (R600). -/
def execCUnD (ft fs : Reg) (cc : BitVec 3) (s : State) : Out :=
  s.fpCompareOp (.cUnD ft fs cc) .D 0b0001#4 ft fs cc

/-- C.EQ.S (R600). -/
def execCEqS (ft fs : Reg) (cc : BitVec 3) (s : State) : Out :=
  s.fpCompareOp (.cEqS ft fs cc) .S 0b0010#4 ft fs cc

/-- C.EQ.D (R600). -/
def execCEqD (ft fs : Reg) (cc : BitVec 3) (s : State) : Out :=
  s.fpCompareOp (.cEqD ft fs cc) .D 0b0010#4 ft fs cc

/-- C.UEQ.S (R600). -/
def execCUeqS (ft fs : Reg) (cc : BitVec 3) (s : State) : Out :=
  s.fpCompareOp (.cUeqS ft fs cc) .S 0b0011#4 ft fs cc

/-- C.UEQ.D (R600). -/
def execCUeqD (ft fs : Reg) (cc : BitVec 3) (s : State) : Out :=
  s.fpCompareOp (.cUeqD ft fs cc) .D 0b0011#4 ft fs cc

/-- C.OLT.S (R600). -/
def execCOltS (ft fs : Reg) (cc : BitVec 3) (s : State) : Out :=
  s.fpCompareOp (.cOltS ft fs cc) .S 0b0100#4 ft fs cc

/-- C.OLT.D (R600). -/
def execCOltD (ft fs : Reg) (cc : BitVec 3) (s : State) : Out :=
  s.fpCompareOp (.cOltD ft fs cc) .D 0b0100#4 ft fs cc

/-- C.ULT.S (R600). -/
def execCUltS (ft fs : Reg) (cc : BitVec 3) (s : State) : Out :=
  s.fpCompareOp (.cUltS ft fs cc) .S 0b0101#4 ft fs cc

/-- C.ULT.D (R600). -/
def execCUltD (ft fs : Reg) (cc : BitVec 3) (s : State) : Out :=
  s.fpCompareOp (.cUltD ft fs cc) .D 0b0101#4 ft fs cc

/-- C.OLE.S (R600). -/
def execCOleS (ft fs : Reg) (cc : BitVec 3) (s : State) : Out :=
  s.fpCompareOp (.cOleS ft fs cc) .S 0b0110#4 ft fs cc

/-- C.OLE.D (R600). -/
def execCOleD (ft fs : Reg) (cc : BitVec 3) (s : State) : Out :=
  s.fpCompareOp (.cOleD ft fs cc) .D 0b0110#4 ft fs cc

/-- C.ULE.S (R600). -/
def execCUleS (ft fs : Reg) (cc : BitVec 3) (s : State) : Out :=
  s.fpCompareOp (.cUleS ft fs cc) .S 0b0111#4 ft fs cc

/-- C.ULE.D (R600). -/
def execCUleD (ft fs : Reg) (cc : BitVec 3) (s : State) : Out :=
  s.fpCompareOp (.cUleD ft fs cc) .D 0b0111#4 ft fs cc

/-- C.SF.S (R600). -/
def execCSfS (ft fs : Reg) (cc : BitVec 3) (s : State) : Out :=
  s.fpCompareOp (.cSfS ft fs cc) .S 0b1000#4 ft fs cc

/-- C.SF.D (R600). -/
def execCSfD (ft fs : Reg) (cc : BitVec 3) (s : State) : Out :=
  s.fpCompareOp (.cSfD ft fs cc) .D 0b1000#4 ft fs cc

/-- C.NGLE.S (R600). -/
def execCNgleS (ft fs : Reg) (cc : BitVec 3) (s : State) : Out :=
  s.fpCompareOp (.cNgleS ft fs cc) .S 0b1001#4 ft fs cc

/-- C.NGLE.D (R600). -/
def execCNgleD (ft fs : Reg) (cc : BitVec 3) (s : State) : Out :=
  s.fpCompareOp (.cNgleD ft fs cc) .D 0b1001#4 ft fs cc

/-- C.SEQ.S (R600). -/
def execCSeqS (ft fs : Reg) (cc : BitVec 3) (s : State) : Out :=
  s.fpCompareOp (.cSeqS ft fs cc) .S 0b1010#4 ft fs cc

/-- C.SEQ.D (R600). -/
def execCSeqD (ft fs : Reg) (cc : BitVec 3) (s : State) : Out :=
  s.fpCompareOp (.cSeqD ft fs cc) .D 0b1010#4 ft fs cc

/-- C.NGL.S (R600). -/
def execCNglS (ft fs : Reg) (cc : BitVec 3) (s : State) : Out :=
  s.fpCompareOp (.cNglS ft fs cc) .S 0b1011#4 ft fs cc

/-- C.NGL.D (R600). -/
def execCNglD (ft fs : Reg) (cc : BitVec 3) (s : State) : Out :=
  s.fpCompareOp (.cNglD ft fs cc) .D 0b1011#4 ft fs cc

/-- C.LT.S (R600). -/
def execCLtS (ft fs : Reg) (cc : BitVec 3) (s : State) : Out :=
  s.fpCompareOp (.cLtS ft fs cc) .S 0b1100#4 ft fs cc

/-- C.LT.D (R600). -/
def execCLtD (ft fs : Reg) (cc : BitVec 3) (s : State) : Out :=
  s.fpCompareOp (.cLtD ft fs cc) .D 0b1100#4 ft fs cc

/-- C.NGE.S (R600). -/
def execCNgeS (ft fs : Reg) (cc : BitVec 3) (s : State) : Out :=
  s.fpCompareOp (.cNgeS ft fs cc) .S 0b1101#4 ft fs cc

/-- C.NGE.D (R600). -/
def execCNgeD (ft fs : Reg) (cc : BitVec 3) (s : State) : Out :=
  s.fpCompareOp (.cNgeD ft fs cc) .D 0b1101#4 ft fs cc

/-- C.LE.S (R600). -/
def execCLeS (ft fs : Reg) (cc : BitVec 3) (s : State) : Out :=
  s.fpCompareOp (.cLeS ft fs cc) .S 0b1110#4 ft fs cc

/-- C.LE.D (R600). -/
def execCLeD (ft fs : Reg) (cc : BitVec 3) (s : State) : Out :=
  s.fpCompareOp (.cLeD ft fs cc) .D 0b1110#4 ft fs cc

/-- C.NGT.S (R600). -/
def execCNgtS (ft fs : Reg) (cc : BitVec 3) (s : State) : Out :=
  s.fpCompareOp (.cNgtS ft fs cc) .S 0b1111#4 ft fs cc

/-- C.NGT.D (R600). -/
def execCNgtD (ft fs : Reg) (cc : BitVec 3) (s : State) : Out :=
  s.fpCompareOp (.cNgtD ft fs cc) .D 0b1111#4 ft fs cc

end Sys2Proof.Machine
end

