-- ==== Sys2Proof/Machine/FpConvert.lean ====
section
/-! DEFINITION. FPU conversions (spec/49_fpu_convert_move_branch.md R621 to R633). -/

namespace Sys2Proof.Machine

/-- A conversion to fixed point in the mode that `mode` takes from the FCSR (R621). -/
def State.fpToFixed (s : State) (i : Instr) (src dst : FpFmt) (fs fd : Reg) (mode : Word → BitVec 2) : Out :=
  s.fpArith i src [fs] (.fpr fd dst) true fun c vs =>
    toFixed src (mode c) (if dst = .W then 31 else 63) (vs.getD 0 0)

/-- A conversion between S and D (R622, R623). -/
def State.fpToFp (s : State) (i : Instr) (src dst : FpFmt) (fs fd : Reg) : Out :=
  s.fpArith i src [fs] (.fpr fd dst) false fun c vs => fpConvert s.env src dst c (vs.getD 0 0)

/-- A conversion of a W or L number (R622, R623). -/
def State.fpFromFixed (s : State) (i : Instr) (src dst : FpFmt) (fs fd : Reg) : Out :=
  s.fpArith i src [fs] (.fpr fd dst) false fun c vs =>
    fromInt dst c (if src = .W then (lowWord (vs.getD 0 0)).toInt else (vs.getD 0 0).toInt)

/-- The four rounding modes (10_state.md R71). -/
def modeRN : BitVec 2 := 0
def modeRZ : BitVec 2 := 1
def modeRP : BitVec 2 := 2
def modeRM : BitVec 2 := 3

/-- ROUND.W.S (R626). -/
def execRoundWS (fs fd : Reg) (s : State) : Out :=
  s.needCop 1 (s.needFpLevel 2 (s.fpToFixed (.roundWS fs fd) .S .W fs fd fun _ => modeRN))

/-- ROUND.W.D (R626). -/
def execRoundWD (fs fd : Reg) (s : State) : Out :=
  s.needCop 1 (s.needFpLevel 2 (s.fpToFixed (.roundWD fs fd) .D .W fs fd fun _ => modeRN))

/-- ROUND.L.S (R627). -/
def execRoundLS (fs fd : Reg) (s : State) : Out :=
  s.needCop 1 (s.needFpLevel 3 (s.fpToFixed (.roundLS fs fd) .S .L fs fd fun _ => modeRN))

/-- ROUND.L.D (R627). -/
def execRoundLD (fs fd : Reg) (s : State) : Out :=
  s.needCop 1 (s.needFpLevel 3 (s.fpToFixed (.roundLD fs fd) .D .L fs fd fun _ => modeRN))

/-- TRUNC.W.S (R628). -/
def execTruncWS (fs fd : Reg) (s : State) : Out :=
  s.needCop 1 (s.needFpLevel 2 (s.fpToFixed (.truncWS fs fd) .S .W fs fd fun _ => modeRZ))

/-- TRUNC.W.D (R628). -/
def execTruncWD (fs fd : Reg) (s : State) : Out :=
  s.needCop 1 (s.needFpLevel 2 (s.fpToFixed (.truncWD fs fd) .D .W fs fd fun _ => modeRZ))

/-- TRUNC.L.S (R629). -/
def execTruncLS (fs fd : Reg) (s : State) : Out :=
  s.needCop 1 (s.needFpLevel 3 (s.fpToFixed (.truncLS fs fd) .S .L fs fd fun _ => modeRZ))

/-- TRUNC.L.D (R629). -/
def execTruncLD (fs fd : Reg) (s : State) : Out :=
  s.needCop 1 (s.needFpLevel 3 (s.fpToFixed (.truncLD fs fd) .D .L fs fd fun _ => modeRZ))

/-- CEIL.W.S (R630). -/
def execCeilWS (fs fd : Reg) (s : State) : Out :=
  s.needCop 1 (s.needFpLevel 2 (s.fpToFixed (.ceilWS fs fd) .S .W fs fd fun _ => modeRP))

/-- CEIL.W.D (R630). -/
def execCeilWD (fs fd : Reg) (s : State) : Out :=
  s.needCop 1 (s.needFpLevel 2 (s.fpToFixed (.ceilWD fs fd) .D .W fs fd fun _ => modeRP))

/-- CEIL.L.S (R631). -/
def execCeilLS (fs fd : Reg) (s : State) : Out :=
  s.needCop 1 (s.needFpLevel 3 (s.fpToFixed (.ceilLS fs fd) .S .L fs fd fun _ => modeRP))

/-- CEIL.L.D (R631). -/
def execCeilLD (fs fd : Reg) (s : State) : Out :=
  s.needCop 1 (s.needFpLevel 3 (s.fpToFixed (.ceilLD fs fd) .D .L fs fd fun _ => modeRP))

/-- FLOOR.W.S (R632). -/
def execFloorWS (fs fd : Reg) (s : State) : Out :=
  s.needCop 1 (s.needFpLevel 2 (s.fpToFixed (.floorWS fs fd) .S .W fs fd fun _ => modeRM))

/-- FLOOR.W.D (R632). -/
def execFloorWD (fs fd : Reg) (s : State) : Out :=
  s.needCop 1 (s.needFpLevel 2 (s.fpToFixed (.floorWD fs fd) .D .W fs fd fun _ => modeRM))

/-- FLOOR.L.S (R633). -/
def execFloorLS (fs fd : Reg) (s : State) : Out :=
  s.needCop 1 (s.needFpLevel 3 (s.fpToFixed (.floorLS fs fd) .S .L fs fd fun _ => modeRM))

/-- FLOOR.L.D (R633). -/
def execFloorLD (fs fd : Reg) (s : State) : Out :=
  s.needCop 1 (s.needFpLevel 3 (s.fpToFixed (.floorLD fs fd) .D .L fs fd fun _ => modeRM))

/-- CVT.W.S (R624). -/
def execCvtWS (fs fd : Reg) (s : State) : Out :=
  s.needCop 1 (s.fpToFixed (.cvtWS fs fd) .S .W fs fd rmOf)

/-- CVT.W.D (R624). -/
def execCvtWD (fs fd : Reg) (s : State) : Out :=
  s.needCop 1 (s.fpToFixed (.cvtWD fs fd) .D .W fs fd rmOf)

/-- CVT.L.S (R625). -/
def execCvtLS (fs fd : Reg) (s : State) : Out :=
  s.needCop 1 (s.needFpLevel 3 (s.fpToFixed (.cvtLS fs fd) .S .L fs fd rmOf))

/-- CVT.L.D (R625). -/
def execCvtLD (fs fd : Reg) (s : State) : Out :=
  s.needCop 1 (s.needFpLevel 3 (s.fpToFixed (.cvtLD fs fd) .D .L fs fd rmOf))

/-- CVT.S.D (R622). -/
def execCvtSD (fs fd : Reg) (s : State) : Out :=
  s.needCop 1 (s.fpToFp (.cvtSD fs fd) .D .S fs fd)

/-- CVT.D.S (R623). -/
def execCvtDS (fs fd : Reg) (s : State) : Out :=
  s.needCop 1 (s.fpToFp (.cvtDS fs fd) .S .D fs fd)

/-- CVT.S.W (R622). -/
def execCvtSW (fs fd : Reg) (s : State) : Out :=
  s.needCop 1 (s.fpFromFixed (.cvtSW fs fd) .W .S fs fd)

/-- CVT.S.L (R622). -/
def execCvtSL (fs fd : Reg) (s : State) : Out :=
  s.needCop 1 (s.needFpLevel 3 (s.fpFromFixed (.cvtSL fs fd) .L .S fs fd))

/-- CVT.D.W (R623). -/
def execCvtDW (fs fd : Reg) (s : State) : Out :=
  s.needCop 1 (s.fpFromFixed (.cvtDW fs fd) .W .D fs fd)

/-- CVT.D.L (R623). -/
def execCvtDL (fs fd : Reg) (s : State) : Out :=
  s.needCop 1 (s.needFpLevel 3 (s.fpFromFixed (.cvtDL fs fd) .L .D fs fd))

end Sys2Proof.Machine
end

