-- ==== Sys2Proof/Machine/FpMove.lean ====
section
/-! DEFINITION. Formatted moves, the CPU moves on a condition code and the FP branches
(spec/49_fpu_convert_move_branch.md R641 to R663). -/

namespace Sys2Proof.Machine

/-- The FP branches (R659). -/
def State.fpBranch (s : State) (i : Instr) (cc : BitVec 3) (likely tf : Bool) (offset : BitVec 16) : Out :=
  s.needCop 1 <| s.needFpLevel (if likely then 2 else 1) <| s.needCc cc <|
    if s.fpTrapped i [] then .next s.trapUnimplemented
    else s.notInSlot (.next (s.branchIf (s.branchCond cc == tf) likely offset))

/-- MOVF and MOVT (R650, R651). -/
def State.moveOnFcc (s : State) (rs : Reg) (cc : BitVec 3) (rd : Reg) (tf : Bool) : Out :=
  s.needLevel 4 <| s.needCop 1 <|
    .next (if fccOf s.fcsrView cc == tf then (s.setGpr rd (s.getGpr rs)).retire else s.retire)

/-- MOV.S (R641). -/
def execMovS (fs fd : Reg) (s : State) : Out :=
  s.needCop 1 (s.fpMove (.movS fs fd) .S fs fd [] true)

/-- MOVF.S (R642). -/
def execMovfS (cc : BitVec 3) (fs fd : Reg) (s : State) : Out :=
  s.needCop 1 (s.needFpLevel 4 (s.fpMove (.movfS cc fs fd) .S fs fd [] (!fccOf s.fcsrView cc)))

/-- MOVT.S (R643). -/
def execMovtS (cc : BitVec 3) (fs fd : Reg) (s : State) : Out :=
  s.needCop 1 (s.needFpLevel 4 (s.fpMove (.movtS cc fs fd) .S fs fd [] (fccOf s.fcsrView cc)))

/-- MOVZ.S (R645). -/
def execMovzS (rt fs fd : Reg) (s : State) : Out :=
  s.needCop 1 (s.needFpLevel 4 (s.fpMove (.movzS rt fs fd) .S fs fd [s.getGpr rt] (s.getGpr rt == 0)))

/-- MOVN.S (R644). -/
def execMovnS (rt fs fd : Reg) (s : State) : Out :=
  s.needCop 1 (s.needFpLevel 4 (s.fpMove (.movnS rt fs fd) .S fs fd [s.getGpr rt] (s.getGpr rt != 0)))

/-- MOV.D (R641). -/
def execMovD (fs fd : Reg) (s : State) : Out :=
  s.needCop 1 (s.fpMove (.movD fs fd) .D fs fd [] true)

/-- MOVF.D (R642). -/
def execMovfD (cc : BitVec 3) (fs fd : Reg) (s : State) : Out :=
  s.needCop 1 (s.needFpLevel 4 (s.fpMove (.movfD cc fs fd) .D fs fd [] (!fccOf s.fcsrView cc)))

/-- MOVT.D (R643). -/
def execMovtD (cc : BitVec 3) (fs fd : Reg) (s : State) : Out :=
  s.needCop 1 (s.needFpLevel 4 (s.fpMove (.movtD cc fs fd) .D fs fd [] (fccOf s.fcsrView cc)))

/-- MOVZ.D (R645). -/
def execMovzD (rt fs fd : Reg) (s : State) : Out :=
  s.needCop 1 (s.needFpLevel 4 (s.fpMove (.movzD rt fs fd) .D fs fd [s.getGpr rt] (s.getGpr rt == 0)))

/-- MOVN.D (R644). -/
def execMovnD (rt fs fd : Reg) (s : State) : Out :=
  s.needCop 1 (s.needFpLevel 4 (s.fpMove (.movnD rt fs fd) .D fs fd [s.getGpr rt] (s.getGpr rt != 0)))

/-- MOVF (R650). -/
def execMovf (rs : Reg) (cc : BitVec 3) (rd : Reg) (s : State) : Out :=
  s.moveOnFcc rs cc rd false

/-- MOVT (R651). -/
def execMovt (rs : Reg) (cc : BitVec 3) (rd : Reg) (s : State) : Out :=
  s.moveOnFcc rs cc rd true

/-- BC1F (R660). -/
def execBc1f (cc : BitVec 3) (offset : BitVec 16) (s : State) : Out :=
  s.fpBranch (.bc1f cc offset) cc false false offset

/-- BC1T (R661). -/
def execBc1t (cc : BitVec 3) (offset : BitVec 16) (s : State) : Out :=
  s.fpBranch (.bc1t cc offset) cc false true offset

/-- BC1FL (R662). -/
def execBc1fl (cc : BitVec 3) (offset : BitVec 16) (s : State) : Out :=
  s.fpBranch (.bc1fl cc offset) cc true false offset

/-- BC1TL (R663). -/
def execBc1tl (cc : BitVec 3) (offset : BitVec 16) (s : State) : Out :=
  s.fpBranch (.bc1tl cc offset) cc true true offset

end Sys2Proof.Machine
end

