-- ==== Sys2Proof/Machine/FpTransfer.lean ====
section
/-! DEFINITION. FPU loads, stores, moves and control moves (spec/47_fpu_transfer.md R557 to R571). -/

namespace Sys2Proof.Machine

/-- The tracker of LWC1 at level I (70_reset_and_hazards.md R821). -/
def State.loadFprHazard (s : State) (n : Reg) : Hazards :=
  { Hazards.empty with loadFpr := if s.env.archLevel = 1 then some n else none }

/-- Load a word into FGR n from address `a`, which the general registers `srcs` gave. -/
def State.loadWordC1 (s : State) (srcs : List Reg) (a : Dword) (n : Reg) : Out :=
  s.access .load a 0 4 fun ps =>
    (s.loadWordFgr n (lowWord (s.result srcs (s.memValue ps)))).retireWith (s.loadFprHazard n) .none

/-- Load a doubleword into FPR n from address `a`, which the general registers `srcs` gave. -/
def State.loadDwordC1 (s : State) (srcs : List Reg) (a : Dword) (n : Reg) : Out :=
  s.access .load a 0 8 fun ps => (s.loadDwordFgr n (s.result srcs (s.memValue ps))).retire

/-- Store `count` bytes of `v` at address `a`. -/
def State.storeC1 (s : State) (a : Dword) (count : Nat) (v : Dword) : Out :=
  s.access .store a 0 count fun ps => (s.storeBytes ps v).retire

/-- The address tests of the register+offset forms (R557). -/
def State.withOffset (s : State) (k : AccessKind) (n : Nat) (base : Reg) (offset : BitVec 16) (c : Dword → Out) : Out :=
  let a := s.effAddr base offset
  s.needAligned k n a (s.needOffset n offset (c a))

/-- The address tests of the register+register forms (R556, R561). -/
def State.withIndex (s : State) (k : AccessKind) (n : Nat) (base index : Reg) (c : Dword → Out) : Out :=
  let a := s.indexedAddr base index
  s.needRegion a base (s.needAligned k n a (c a))

/-- The FCSR after CTC1 wrote `v` (R567): in imprecise mode a written cause bit also sets its flag. -/
def State.ctcFcsr (s : State) (v : Word) : Word :=
  let f := v &&& s.fcsrMask
  match s.env.fpMode with
  | .precise => f
  | .imprecise => withFlags f (flagsOf f ||| (causeOf f).setWidth 5)

/-- Does the written FCSR trap: cause E, or a cause bit with its enable (R567)? -/
def ctcTraps (f : Word) : Bool := (causeOf f).getLsbD 5 || (causeOf f).setWidth 5 &&& enablesOf f != 0

/-- CTC1 to register 31 (R567): the register is written, then the exception it causes is raised. -/
def State.writeFcsr (s : State) (v : Word) : Out :=
  let f := s.ctcFcsr v
  let t := { s with fcsr := f }
  if ctcTraps f then .next (t.raise (.floatingPoint (causeOf f)))
  else .next (t.retireWith { Hazards.empty with ctc := decide (s.env.archLevel < 4) } .none)

/-- The control register CFC1 reads (R566); the value of one that does not exist is arbitrary. -/
def State.readFcr (s : State) (n : Reg) : Word :=
  if n = 0 then s.fcr0.setWidth 32 else if n = 31 then s.fcsrRead else lowWord (s.draw slotResult)

/-- What MFC1 takes from FGR n: its word sign-extended; right after a move to n below level IV any value
(70_reset_and_hazards.md R825). -/
def State.wordMoved (s : State) (n : Reg) : Dword :=
  if n ∈ s.hazards.moveFpr then s.draw slotMoved else sextWord (s.wordOfFgr n)

/-- Write a general register by a move from the FPU. -/
def State.moveFrom (s : State) (rt : Reg) (v : Dword) : Out :=
  .next ((s.setGpr rt v).retireWith (s.moveFromHazard rt) .none)

/-- LWC1 (R557). -/
def execLwc1 (base ft : Reg) (offset : BitVec 16) (s : State) : Out :=
  s.needCop 1 (s.withOffset .load 2 base offset fun a => s.loadWordC1 [base] a ft)

/-- SWC1 (R558). -/
def execSwc1 (base ft : Reg) (offset : BitVec 16) (s : State) : Out :=
  s.needCop 1 (s.withOffset .store 2 base offset fun a => s.storeC1 a 4 (zextWord (s.wordOfFgr ft)))

/-- LDC1 (R559). -/
def execLdc1 (base ft : Reg) (offset : BitVec 16) (s : State) : Out :=
  s.needCop 1 (s.needLevel 2 (s.withOffset .load 3 base offset fun a => s.loadDwordC1 [base] a ft))

/-- SDC1 (R560). -/
def execSdc1 (base ft : Reg) (offset : BitVec 16) (s : State) : Out :=
    s.needCop 1 (s.needLevel 2 (s.withOffset .store 3 base offset fun a => s.storeC1 a 8 (s.dwordOfFgr ft)))

/-- LWXC1 (R561). -/
def execLwxc1 (base index fd : Reg) (s : State) : Out :=
  s.needCop1x (s.withIndex .load 2 base index fun a => s.loadWordC1 [base, index] a fd)

/-- LDXC1 (R563). -/
def execLdxc1 (base index fd : Reg) (s : State) : Out :=
  s.needCop1x (s.withIndex .load 3 base index fun a => s.loadDwordC1 [base, index] a fd)

/-- SWXC1 (R562). -/
def execSwxc1 (base index fs : Reg) (s : State) : Out :=
  s.needCop1x (s.withIndex .store 2 base index fun a => s.storeC1 a 4 (zextWord (s.wordOfFgr fs)))

/-- SDXC1 (R564). -/
def execSdxc1 (base index fs : Reg) (s : State) : Out :=
  s.needCop1x (s.withIndex .store 3 base index fun a => s.storeC1 a 8 (s.dwordOfFgr fs))

/-- PREFX (R565). No architectural effect. -/
def execPrefx (base index : Reg) (_hint : BitVec 5) (s : State) : Out :=
  s.needCop1x (s.needRegion (s.indexedAddr base index) base (.next s.retire))

/-- MFC1 (R568). -/
def execMfc1 (rt fs : Reg) (s : State) : Out :=
  s.needCop 1 (s.moveFrom rt (s.wordMoved fs))

/-- DMFC1 (R570). -/
def execDmfc1 (rt fs : Reg) (s : State) : Out :=
  s.needCop 1 (s.needFpLevel 3 (s.moveFrom rt (s.dwordOfFgr fs)))

/-- CFC1 (R566). -/
def execCfc1 (rt fs : Reg) (s : State) : Out :=
  s.needCop 1 (s.moveFrom rt (sextWord (s.readFcr fs)))

/-- MTC1 (R569). -/
def execMtc1 (rt fs : Reg) (s : State) : Out :=
    s.needCop 1 (.next ((s.loadWordFgr fs (lowWord (s.getGpr rt))).retireWith (s.moveToHazard [fs]) .none))

/-- DMTC1 (R571). -/
def execDmtc1 (rt fs : Reg) (s : State) : Out :=
  s.needCop 1 <| s.needFpLevel 3 <|
    .next ((s.loadDwordFgr fs (s.getGpr rt)).retireWith
      (s.moveToHazard (if s.fgr64 then [fs] else [evenOf fs, oddOf fs])) .none)

/-- CTC1 (R567). FCR0 becomes arbitrary (92_eei_decisions.md D9). -/
def execCtc1 (rt fs : Reg) (s : State) : Out :=
  s.needCop 1 <|
    if fs = 31 then s.writeFcsr (lowWord (s.getGpr rt))
    else if fs = 0 then .next { s with fcr0 := (s.draw slotFcr0).extractLsb' 0 16 }.retire
    else .refused .noSuchControlRegister

end Sys2Proof.Machine
end

