-- ==== Sys2Proof/Machine/Load.lean ====
section
/-! DEFINITION. The CPU loads (spec/40_cpu_load_store.md R204 to R210, R215 to R218, R227, R228). -/

namespace Sys2Proof.Machine

/-- The tracker of a load at level I (70_reset_and_hazards.md R820). -/
def State.loadHazard (s : State) (rt : Reg) : Hazards :=
  { Hazards.empty with loadGpr := if s.env.archLevel = 1 ∧ rt ≠ 0 then some rt else none }

/-- An aligned load of 2^n bytes, extended by `ext` (R201). -/
def State.loadAligned (s : State) (n : Nat) (base rt : Reg) (offset : BitVec 16) (ext : Dword → Dword) : Out :=
  let a := s.effAddr base offset
  s.needAligned .load n a <| s.needOffset n offset <|
    s.access .load a 0 (2 ^ n) fun ps => (s.setGpr rt (s.result [base] (ext (s.memValue ps)))).retireWith (s.loadHazard rt) .none

/-- The bytes of a left instruction in its unit of `unit` bytes: how many before the effective address, how many in all
(R223). `k` is the effective address modulo the unit. -/
def leftSpan (bigEndian : Bool) (unit k : Nat) : Nat × Nat := if bigEndian then (0, unit - k) else (k, k + 1)
/-- The bytes of a right instruction (R223). -/
def rightSpan (bigEndian : Bool) (unit k : Nat) : Nat × Nat := if bigEndian then (k, k + 1) else (0, unit - k)

/-- `n` bytes `v` over the most significant bytes of a register of `unit` bytes (R215, R217). -/
def mergeLeft (unit n : Nat) (v old : Dword) : Dword :=
  (v <<< (8 * (unit - n))) ||| (old &&& ((1#64 <<< (8 * (unit - n))) - 1))
/-- `n` bytes `v` over the least significant bytes of a register (R216, R218). -/
def mergeRight (n : Nat) (v old : Dword) : Dword := ((old >>> (8 * n)) <<< (8 * n)) ||| v

/-- A load of part of a unit: `merge` puts the bytes read, and how many they are, into the old register. -/
def State.loadPart (s : State) (span : Nat × Nat) (base rt : Reg) (offset : BitVec 16)
    (merge : Nat → Dword → Dword → Dword) : Out :=
  s.access .load (s.effAddr base offset) span.1 span.2 fun ps =>
    (s.setGpr rt (s.result [base, rt] (merge span.2 (s.memValue ps) (s.getGpr2 rt)))).retireWith (s.loadHazard rt) .none

/-- The register after LWR: bits 63..32 are sign-extended when bit 31 was loaded, else `LwrUpperBits` says (R216). -/
def State.lwrResult (s : State) (n : Nat) (v old : Dword) : Dword :=
  let merged := mergeRight n v old
  if n = 4 || !s.env.is64 then sextWord (lowWord merged)
  else match s.env.lwrUpper with
    | .keep => merged
    | .signExtend => sextWord (lowWord merged)

/-- A linked load of 2^n bytes (R227, R228). -/
def State.loadLinked (s : State) (n : Nat) (base rt : Reg) (offset : BitVec 16) (ext : Dword → Dword) : Out :=
  let a := s.effAddr base offset
  s.needAligned .load n a <| s.needOffset n offset <|
    s.orRaise (s.translate .load a) fun pt =>
      if !pt.2.cached then .refused .uncachedLinked
      else s.access .load a 0 (2 ^ n) fun ps =>
        { (s.setGpr rt (s.result [base] (ext (s.memValue ps)))).retire with
          llbit := true
          llRecord := some ⟨a, pt.1, pt.2, decide (n = 3)⟩ }

/-- LB (R204). -/
def execLb (base rt : Reg) (offset : BitVec 16) (s : State) : Out :=
  s.loadAligned 0 base rt offset (fun v => (v.setWidth 8).signExtend 64)

/-- LBU (R205). -/
def execLbu (base rt : Reg) (offset : BitVec 16) (s : State) : Out :=
  s.loadAligned 0 base rt offset id

/-- LH (R206). -/
def execLh (base rt : Reg) (offset : BitVec 16) (s : State) : Out :=
  s.loadAligned 1 base rt offset (fun v => (v.setWidth 16).signExtend 64)

/-- LHU (R207). -/
def execLhu (base rt : Reg) (offset : BitVec 16) (s : State) : Out :=
  s.loadAligned 1 base rt offset id

/-- LW (R208). -/
def execLw (base rt : Reg) (offset : BitVec 16) (s : State) : Out :=
  s.loadAligned 2 base rt offset (fun v => sextWord (lowWord v))

/-- LWU (R209). -/
def execLwu (base rt : Reg) (offset : BitVec 16) (s : State) : Out :=
  s.needLevel 3 (s.loadAligned 2 base rt offset id)

/-- LD (R210). LDC3 in MIPS II (30_encoding.md R173). -/
def execLd (base rt : Reg) (offset : BitVec 16) (s : State) : Out :=
  s.wasCop3 2 3 (s.loadAligned 3 base rt offset id)

/-- LWL (R215). -/
def execLwl (base rt : Reg) (offset : BitVec 16) (s : State) : Out :=
  s.loadPart (leftSpan s.bigEndianCPU 4 ((s.effAddr base offset).toNat % 4)) base rt offset
    (fun n v old => sextWord (lowWord (mergeLeft 4 n v old)))

/-- LWR (R216). -/
def execLwr (base rt : Reg) (offset : BitVec 16) (s : State) : Out :=
    s.loadPart (rightSpan s.bigEndianCPU 4 ((s.effAddr base offset).toNat % 4)) base rt offset s.lwrResult

/-- LDL (R217). -/
def execLdl (base rt : Reg) (offset : BitVec 16) (s : State) : Out :=
  s.needLevel 3 <| s.loadPart (leftSpan s.bigEndianCPU 8 ((s.effAddr base offset).toNat % 8)) base rt offset
    (mergeLeft 8)

/-- LDR (R218). -/
def execLdr (base rt : Reg) (offset : BitVec 16) (s : State) : Out :=
    s.needLevel 3 <| s.loadPart (rightSpan s.bigEndianCPU 8 ((s.effAddr base offset).toNat % 8)) base rt offset mergeRight

/-- LL (R227). -/
def execLl (base rt : Reg) (offset : BitVec 16) (s : State) : Out :=
  s.needLevel 2 (s.loadLinked 2 base rt offset (fun v => sextWord (lowWord v)))

/-- LLD (R228). -/
def execLld (base rt : Reg) (offset : BitVec 16) (s : State) : Out :=
  s.needLevel 3 (s.loadLinked 3 base rt offset id)

end Sys2Proof.Machine
end

