-- ==== Sys2Proof/Machine/MulDiv.lean ====
section
/-! DEFINITION. Multiply, divide and the moves to and from HI and LO (spec/43_cpu_muldiv.md R340 to R353). -/

namespace Sys2Proof.Machine

/-- Does an entry of RecentMF break R338 for a writer of HI (`hi`) or LO (`lo`)? -/
def MfEntry.broken (hi lo : Bool) : MfEntry → Bool
  | .none => false
  | .hi _ => hi
  | .lo _ => lo

/-- The read-then-write restriction on HI and LO (R338; refused, notes/assumptions/25.md). -/
def State.needHiLo (s : State) (hi lo : Bool) (k : Out) : Out :=
  if s.recentMF.last.broken hi lo || s.recentMF.before.broken hi lo then .refused .hiLoReadWrite else k

/-- A multiply or divide of the registers `srcs` writes HI and LO; the result is pending until read (R339). -/
def State.computeHiLo (s : State) (srcs : List Reg) (hi lo : Dword) : Out :=
  s.needHiLo true true <|
    .next { (s.setHiLo (s.resultAt slotHi srcs hi) (s.resultAt slotLo srcs lo)).retire with hiLoPending := true }

/-- The two halves of a word result, arbitrary when an operand is no word value (R332). -/
def State.computeWordHiLo (s : State) (rs rt : Reg) (hi lo : Word) : Out :=
  if s.notWord (s.getGpr rs) || s.notWord (s.getGpr2 rt) then s.computeHiLo [rs, rt] (s.draw slotHi) (s.draw slotLo)
  else s.computeHiLo [rs, rt] (sextWord hi) (sextWord lo)

/-- A division: arbitrary HI and LO for a zero divisor (R337). -/
def State.divideHiLo (s : State) (srcs : List Reg) (zero : Bool) (hi lo : Dword) : Out :=
  if zero then s.computeHiLo srcs (s.draw slotHi) (s.draw slotLo) else s.computeHiLo srcs hi lo

/-- A word division (R332, R337). -/
def State.divideWordHiLo (s : State) (rs rt : Reg) (hi lo : Word) : Out :=
  if s.notWord (s.getGpr rs) || s.notWord (s.getGpr2 rt) then s.computeHiLo [rs, rt] (s.draw slotHi) (s.draw slotLo)
  else s.divideHiLo [rs, rt] (lowWord (s.getGpr2 rt) == 0) (sextWord hi) (sextWord lo)

/-- `HI <- v`; `LO` becomes arbitrary when a computed result is pending (R339). -/
def State.moveToHi (s : State) (v : Dword) : State :=
  { s with hi := s.norm v, lo := if s.hiLoPending then s.norm (s.draw slotLo) else s.lo }
/-- `LO <- v`; `HI` becomes arbitrary when a computed result is pending (R339). -/
def State.moveToLo (s : State) (v : Dword) : State :=
  { s with lo := s.norm v, hi := if s.hiLoPending then s.norm (s.draw slotHi) else s.hi }

/-- The entry of RecentMF; a read into register 0 leaves nothing that could become undefined. -/
def mfEntry (rd : Reg) (e : MfEntry) : MfEntry := if rd = 0 then .none else e

/-- MULT (R340). -/
def execMult (rs rt : Reg) (s : State) : Out :=
  let p := (lowWord (s.getGpr rs)).signExtend 64 * (lowWord (s.getGpr2 rt)).signExtend 64
  s.computeWordHiLo rs rt (p.extractLsb' 32 32) (p.extractLsb' 0 32)

/-- MULTU (R341). -/
def execMultu (rs rt : Reg) (s : State) : Out :=
  let p := (lowWord (s.getGpr rs)).setWidth 64 * (lowWord (s.getGpr2 rt)).setWidth 64
  s.computeWordHiLo rs rt (p.extractLsb' 32 32) (p.extractLsb' 0 32)

/-- DMULT (R342). -/
def execDmult (rs rt : Reg) (s : State) : Out :=
  let p := (s.getGpr rs).signExtend 128 * (s.getGpr2 rt).signExtend 128
  s.needLevel 3 (s.computeHiLo [rs, rt] (p.extractLsb' 64 64) (p.extractLsb' 0 64))

/-- DMULTU (R343). -/
def execDmultu (rs rt : Reg) (s : State) : Out :=
  let p := (s.getGpr rs).setWidth 128 * (s.getGpr2 rt).setWidth 128
  s.needLevel 3 (s.computeHiLo [rs, rt] (p.extractLsb' 64 64) (p.extractLsb' 0 64))

/-- DIV (R344). Truncated division (R336). -/
def execDiv (rs rt : Reg) (s : State) : Out :=
  let n := (lowWord (s.getGpr rs)).toInt
  let d := (lowWord (s.getGpr2 rt)).toInt
  s.divideWordHiLo rs rt (BitVec.ofInt 32 (n.tmod d)) (BitVec.ofInt 32 (n.tdiv d))

/-- DIVU (R345). -/
def execDivu (rs rt : Reg) (s : State) : Out :=
  let n := lowWord (s.getGpr rs)
  let d := lowWord (s.getGpr2 rt)
  s.divideWordHiLo rs rt (n % d) (n / d)

/-- DDIV (R346). Truncated division (R336). -/
def execDdiv (rs rt : Reg) (s : State) : Out :=
  let n := (s.getGpr rs).toInt
  let d := (s.getGpr2 rt).toInt
  s.needLevel 3 (s.divideHiLo [rs, rt] (s.getGpr2 rt == 0) (BitVec.ofInt 64 (n.tmod d)) (BitVec.ofInt 64 (n.tdiv d)))

/-- DDIVU (R347). -/
def execDdivu (rs rt : Reg) (s : State) : Out :=
s.needLevel 3 <|
    s.divideHiLo [rs, rt] (s.getGpr2 rt == 0) (s.getGpr rs % s.getGpr2 rt) (s.getGpr rs / s.getGpr2 rt)

/-- MFHI (R348). -/
def execMfhi (rd : Reg) (s : State) : Out :=
    .next { (s.setGpr rd s.hi).retireWith Hazards.empty (mfEntry rd (.hi rd)) with hiLoPending := false }

/-- MFLO (R349). -/
def execMflo (rd : Reg) (s : State) : Out :=
    .next { (s.setGpr rd s.lo).retireWith Hazards.empty (mfEntry rd (.lo rd)) with hiLoPending := false }

/-- MTHI (R350). LO becomes arbitrary when a computed result is pending (R339). -/
def execMthi (rs : Reg) (s : State) : Out :=
  s.needHiLo true false <|
    .next (s.moveToHi (s.getGpr rs)).retire

/-- MTLO (R351). HI becomes arbitrary when a computed result is pending (R339). -/
def execMtlo (rs : Reg) (s : State) : Out :=
  s.needHiLo false true <|
    .next (s.moveToLo (s.getGpr rs)).retire

end Sys2Proof.Machine
end

