-- ==== Sys2Proof/Machine/Shift.lean ====
section
/-! DEFINITION. CPU shifts (spec/42_cpu_shift.md R306 to R320). -/

namespace Sys2Proof.Machine

/-- The amount of a variable word shift, the low five bits (R302). -/
def amount5 (v : Dword) : Nat := v.toNat % 32
/-- The amount of a variable doubleword shift, the low six bits (R302). -/
def amount6 (v : Dword) : Nat := v.toNat % 64

/-- A right word shift of `rt`, one of the registers `srcs` it reads: the operand must be a word value (R303). -/
def State.shiftWordRight (s : State) (srcs : List Reg) (rt rd : Reg) (shift : Word → Word) : Out :=
  let b := s.getGpr rt
  s.writeResult srcs rd (s.wordResult [b] (sextWord (shift (lowWord b))))

/-- SLL (R306). -/
def execSll (rt rd : Reg) (sa : BitVec 5) (s : State) : Out :=
  s.writeResult [rt] rd (sextWord (lowWord (s.getGpr rt) <<< sa.toNat))

/-- SLLV (R307). -/
def execSllv (rs rt rd : Reg) (s : State) : Out :=
  s.writeResult [rt, rs] rd (sextWord (lowWord (s.getGpr rt) <<< amount5 (s.getGpr2 rs)))

/-- SRL (R308). -/
def execSrl (rt rd : Reg) (sa : BitVec 5) (s : State) : Out :=
  s.shiftWordRight [rt] rt rd (· >>> sa.toNat)

/-- SRLV (R309). -/
def execSrlv (rs rt rd : Reg) (s : State) : Out :=
  s.shiftWordRight [rt, rs] rt rd (· >>> amount5 (s.getGpr2 rs))

/-- SRA (R310). -/
def execSra (rt rd : Reg) (sa : BitVec 5) (s : State) : Out :=
  s.shiftWordRight [rt] rt rd (·.sshiftRight sa.toNat)

/-- SRAV (R311). -/
def execSrav (rs rt rd : Reg) (s : State) : Out :=
  s.shiftWordRight [rt, rs] rt rd (·.sshiftRight (amount5 (s.getGpr2 rs)))

/-- DSLL (R312). -/
def execDsll (rt rd : Reg) (sa : BitVec 5) (s : State) : Out :=
  s.needLevel 3 (s.writeResult [rt] rd (s.getGpr rt <<< sa.toNat))

/-- DSLL32 (R313). -/
def execDsll32 (rt rd : Reg) (sa : BitVec 5) (s : State) : Out :=
  s.needLevel 3 (s.writeResult [rt] rd (s.getGpr rt <<< (sa.toNat + 32)))

/-- DSLLV (R314). -/
def execDsllv (rs rt rd : Reg) (s : State) : Out :=
  s.needLevel 3 (s.writeResult [rt, rs] rd (s.getGpr rt <<< amount6 (s.getGpr2 rs)))

/-- DSRL (R315). -/
def execDsrl (rt rd : Reg) (sa : BitVec 5) (s : State) : Out :=
  s.needLevel 3 (s.writeResult [rt] rd (s.getGpr rt >>> sa.toNat))

/-- DSRL32 (R316). -/
def execDsrl32 (rt rd : Reg) (sa : BitVec 5) (s : State) : Out :=
  s.needLevel 3 (s.writeResult [rt] rd (s.getGpr rt >>> (sa.toNat + 32)))

/-- DSRLV (R317). -/
def execDsrlv (rs rt rd : Reg) (s : State) : Out :=
  s.needLevel 3 (s.writeResult [rt, rs] rd (s.getGpr rt >>> amount6 (s.getGpr2 rs)))

/-- DSRA (R318). -/
def execDsra (rt rd : Reg) (sa : BitVec 5) (s : State) : Out :=
  s.needLevel 3 (s.writeResult [rt] rd ((s.getGpr rt).sshiftRight sa.toNat))

/-- DSRA32 (R319). -/
def execDsra32 (rt rd : Reg) (sa : BitVec 5) (s : State) : Out :=
  s.needLevel 3 (s.writeResult [rt] rd ((s.getGpr rt).sshiftRight (sa.toNat + 32)))

/-- DSRAV (R320). -/
def execDsrav (rs rt rd : Reg) (s : State) : Out :=
  s.needLevel 3 (s.writeResult [rt, rs] rd ((s.getGpr rt).sshiftRight (amount6 (s.getGpr2 rs))))

end Sys2Proof.Machine
end

