-- ==== Sys2Proof/Machine/Store.lean ====
section
/-! DEFINITION. The CPU stores, the store-conditionals, the coprocessor 2 transfers and PREF
(spec/40_cpu_load_store.md R211 to R214, R219 to R222, R229, R234, R240 to R243; 45_cpu_trap_sync_move_cop.md R432). -/

namespace Sys2Proof.Machine

/-- An aligned store of the low 2^n bytes of `v` (R201). -/
def State.storeAligned (s : State) (n : Nat) (base : Reg) (offset : BitVec 16) (v : Dword) : Out :=
  let a := s.effAddr base offset
  s.needAligned .store n a <| s.needOffset n offset <|
    s.access .store a 0 (2 ^ n) fun ps => (s.storeBytes ps v).retire

/-- A store of part of a unit: `pick` takes from the register the bytes to store, given how many they are. -/
def State.storePart (s : State) (span : Nat × Nat) (base rt : Reg) (offset : BitVec 16) (pick : Nat → Dword → Dword) :
    Out :=
  s.access .store (s.effAddr base offset) span.1 span.2 fun ps =>
    (s.storeBytes ps (pick span.2 (s.getGpr2 rt))).retire

/-- The `n` most significant bytes of the low word (R219). -/
def topOfWord (n : Nat) (v : Dword) : Dword := zextWord (lowWord v >>> (32 - 8 * n))
/-- The `n` most significant bytes of a doubleword (R221). -/
def topOfDword (n : Nat) (v : Dword) : Dword := v >>> (64 - 8 * n)

/-- Does the store-conditional break a condition of R233: no LL was ever executed, or LLbit is set and the address,
access type or width is not the linked one? -/
def State.linkBroken (s : State) (r : LinkRecord) : Bool := s.llRecord.isNone || (s.llbit && s.llRecord != some r)

/-- A store-conditional of 2^n bytes (R229, R234). With a condition of R233 broken the register and the bytes become
arbitrary (notes/assumptions/31.md). -/
def State.storeConditional (s : State) (n : Nat) (base rt : Reg) (offset : BitVec 16) : Out :=
  let a := s.effAddr base offset
  s.needAligned .store n a <| s.needOffset n offset <|
    s.orRaise (s.translate .store a) fun pt =>
      if !pt.2.cached then .refused .uncachedLinked
      else if s.linkBroken ⟨a, pt.1, pt.2, decide (n = 3)⟩ then
        s.access .store a 0 (2 ^ n) fun ps =>
          { ((s.storeBytes ps (s.draw slotStore)).setGpr rt (s.draw slotResult)).retire with llbit := false }
      else if s.llbit then
        s.access .store a 0 (2 ^ n) fun ps =>
          { ((s.storeBytes ps (s.getGpr2 rt)).setGpr rt 1).retire with llbit := false }
      else .next { (s.setGpr rt 0).retire with llbit := false }

/-- The tests of a coprocessor 2 instruction (R238): usable, its level, implemented. -/
def State.needCop2 (s : State) (level : Nat) (k : Out) : Out :=
  s.needCop 2 <| s.needLevel level <|
    if s.env.cop2Present then k else .refused .unimplementedCoprocessor

/-- The registers of coprocessor 2. -/
def State.cop2Regs (s : State) : Cop2State := ⟨s.cop2Gen, s.cop2Ctl, s.coc2⟩

/-- Coprocessor 2 has these registers. -/
def State.setCop2 (s : State) (c : Cop2State) : State := { s with cop2Gen := c.gen, cop2Ctl := c.ctl, coc2 := c.coc }

/-- The tracker of LWC2 at level I (70_reset_and_hazards.md R821). -/
def State.loadCop2Hazard (s : State) (double : Bool) (rt : Reg) : Hazards :=
  { Hazards.empty with loadCop2 := if s.env.archLevel = 1 ∧ !double then some rt else none }

/-- The registers of coprocessor 2 after `COP_LW` or `COP_LD` gave it `v`: the usual action puts it into CPR[2, rt], a word
with arbitrary other bits; else what the unit does (R240, R242; 45_cpu_trap_sync_move_cop.md R442). -/
def State.givenCop2 (s : State) (double : Bool) (rt : Reg) (v : Dword) : Cop2State :=
  if s.env.cop2Usual then
    { s.cop2Regs with gen := regSet s.cop2Gen rt (if double then v else lowWord (s.draw slotResult) ++ lowWord v) }
  else Config.cop2Load s.free double rt v s.cop2Regs

/-- What `COP_SW` or `COP_SD` supplies: the usual action takes CPR[2, rt]; and the registers after it (R241, R243). -/
def State.takenCop2 (s : State) (double : Bool) (rt : Reg) : Dword × Cop2State :=
  if s.env.cop2Usual then (regGet s.cop2Gen rt, s.cop2Regs) else Config.cop2Store s.free double rt s.cop2Regs

/-- A load to coprocessor 2 of 2^n bytes (R240, R242). -/
def State.loadCop2 (s : State) (n : Nat) (base rt : Reg) (offset : BitVec 16) : Out :=
  let a := s.effAddr base offset
  s.needAligned .load n a <| s.needOffset n offset <|
    s.access .load a 0 (2 ^ n) fun ps =>
      (s.setCop2 (s.givenCop2 (n == 3) rt (s.result [base] (s.memValue ps)))).retireWith
        (s.loadCop2Hazard (n == 3) rt) .none

/-- A store from coprocessor 2 of 2^n bytes (R241, R243). -/
def State.storeCop2 (s : State) (n : Nat) (base rt : Reg) (offset : BitVec 16) : Out :=
  let a := s.effAddr base offset
  s.needAligned .store n a <| s.needOffset n offset <|
    s.access .store a 0 (2 ^ n) fun ps =>
      ((s.storeBytes ps (s.takenCop2 (n == 3) rt).1).setCop2 (s.takenCop2 (n == 3) rt).2).retire

/-- SB (R211). -/
def execSb (base rt : Reg) (offset : BitVec 16) (s : State) : Out :=
  s.storeAligned 0 base offset (s.getGpr2 rt)

/-- SH (R212). -/
def execSh (base rt : Reg) (offset : BitVec 16) (s : State) : Out :=
  s.storeAligned 1 base offset (s.getGpr2 rt)

/-- SW (R213). -/
def execSw (base rt : Reg) (offset : BitVec 16) (s : State) : Out :=
  s.storeAligned 2 base offset (s.getGpr2 rt)

/-- SD (R214). SDC3 in MIPS II (30_encoding.md R173). -/
def execSd (base rt : Reg) (offset : BitVec 16) (s : State) : Out :=
  s.wasCop3 2 3 (s.storeAligned 3 base offset (s.getGpr2 rt))

/-- SWL (R219). -/
def execSwl (base rt : Reg) (offset : BitVec 16) (s : State) : Out :=
  s.storePart (leftSpan s.bigEndianCPU 4 ((s.effAddr base offset).toNat % 4)) base rt offset topOfWord

/-- SWR (R220). -/
def execSwr (base rt : Reg) (offset : BitVec 16) (s : State) : Out :=
  s.storePart (rightSpan s.bigEndianCPU 4 ((s.effAddr base offset).toNat % 4)) base rt offset (fun _ v => v)

/-- SDL (R221). -/
def execSdl (base rt : Reg) (offset : BitVec 16) (s : State) : Out :=
  s.needLevel 3 <|
    s.storePart (leftSpan s.bigEndianCPU 8 ((s.effAddr base offset).toNat % 8)) base rt offset topOfDword

/-- SDR (R222). -/
def execSdr (base rt : Reg) (offset : BitVec 16) (s : State) : Out :=
  s.needLevel 3 <|
    s.storePart (rightSpan s.bigEndianCPU 8 ((s.effAddr base offset).toNat % 8)) base rt offset (fun _ v => v)

/-- SC (R229). -/
def execSc (base rt : Reg) (offset : BitVec 16) (s : State) : Out :=
  s.needLevel 2 (s.storeConditional 2 base rt offset)

/-- SCD (R234). -/
def execScd (base rt : Reg) (offset : BitVec 16) (s : State) : Out :=
  s.needLevel 3 (s.storeConditional 3 base rt offset)

/-- LWC2 (R240). -/
def execLwc2 (base rt : Reg) (offset : BitVec 16) (s : State) : Out :=
  s.needCop2 1 (s.loadCop2 2 base rt offset)

/-- SWC2 (R241). -/
def execSwc2 (base rt : Reg) (offset : BitVec 16) (s : State) : Out :=
  s.needCop2 1 (s.storeCop2 2 base rt offset)

/-- LDC2 (R242). -/
def execLdc2 (base rt : Reg) (offset : BitVec 16) (s : State) : Out :=
  s.needCop2 2 (s.loadCop2 3 base rt offset)

/-- SDC2 (R243). -/
def execSdc2 (base rt : Reg) (offset : BitVec 16) (s : State) : Out :=
  s.needCop2 2 (s.storeCop2 3 base rt offset)

/-- PREF (R432). No architectural effect (R430); LWC3 in MIPS I and II (30_encoding.md R173). -/
def execPref (_base : Reg) (_hint : BitVec 5) (_offset : BitVec 16) (s : State) : Out :=
  s.wasCop3 1 4 (.next s.retire)

end Sys2Proof.Machine
end

