-- ==== Sys2Proof/Machine/System.lean ====
section
/-! DEFINITION. System call, breakpoint, traps, SYNC and the coprocessor operations
(spec/45_cpu_trap_sync_move_cop.md R402 to R420, R440 to R442). -/

namespace Sys2Proof.Machine

/-- A conditional trap (R400). -/
def State.trapIf (s : State) (cond : Bool) : Out :=
  s.needLevel 2 (.next (if cond then s.raise .trap else s.retire))

/-- The effect of a coprocessor 2 operation (R440, R442): an exception, or the unit's registers, a general register and
where control goes. -/
def State.applyCop2 (s : State) (e : Cop2Effect) : Out :=
  match e.raises with
  | some c => .next (s.raise c)
  | none => s.needFlow e.flow (.next (((s.copGpr e.gpr).setCop2 e.regs).follow e.flow))

/-- `CoprocessorOperation(2, cop_fun)`: the parameter `Cop2` (R442), which also chooses under which cause the unit's
interrupt is recorded (DESIGN CHOICE, notes/assumptions/36.md). -/
def State.cop2Operation (s : State) (copFun : BitVec 26) : Out := s.applyCop2 (Config.cop2Op copFun s)

/-- SYSCALL (R402). -/
def execSyscall (_code : BitVec 20) (s : State) : Out :=
  .next (s.raise .systemCall)

/-- BREAK (R403). -/
def execBreakpoint (_code : BitVec 20) (s : State) : Out :=
  .next (s.raise .breakpoint)

/-- TGE (R405). -/
def execTge (rs rt : Reg) (_code : BitVec 10) (s : State) : Out :=
  s.trapIf (!lessS (s.getGpr rs) (s.getGpr2 rt))

/-- TGEU (R406). -/
def execTgeu (rs rt : Reg) (_code : BitVec 10) (s : State) : Out :=
  s.trapIf (!lessU (s.getGpr rs) (s.getGpr2 rt))

/-- TLT (R407). -/
def execTlt (rs rt : Reg) (_code : BitVec 10) (s : State) : Out :=
  s.trapIf (lessS (s.getGpr rs) (s.getGpr2 rt))

/-- TLTU (R408). -/
def execTltu (rs rt : Reg) (_code : BitVec 10) (s : State) : Out :=
  s.trapIf (lessU (s.getGpr rs) (s.getGpr2 rt))

/-- TEQ (R409). -/
def execTeq (rs rt : Reg) (_code : BitVec 10) (s : State) : Out :=
  s.trapIf (s.getGpr rs == s.getGpr2 rt)

/-- TNE (R410). -/
def execTne (rs rt : Reg) (_code : BitVec 10) (s : State) : Out :=
  s.trapIf (s.getGpr rs != s.getGpr2 rt)

/-- TGEI (R411). -/
def execTgei (rs : Reg) (imm : BitVec 16) (s : State) : Out :=
  s.trapIf (!lessS (s.getGpr rs) (immS imm))

/-- TGEIU (R412). -/
def execTgeiu (rs : Reg) (imm : BitVec 16) (s : State) : Out :=
  s.trapIf (!lessU (s.getGpr rs) (immS imm))

/-- TLTI (R413). -/
def execTlti (rs : Reg) (imm : BitVec 16) (s : State) : Out :=
  s.trapIf (lessS (s.getGpr rs) (immS imm))

/-- TLTIU (R414). -/
def execTltiu (rs : Reg) (imm : BitVec 16) (s : State) : Out :=
  s.trapIf (lessU (s.getGpr rs) (immS imm))

/-- TEQI (R415). -/
def execTeqi (rs : Reg) (imm : BitVec 16) (s : State) : Out :=
  s.trapIf (s.getGpr rs == immS imm)

/-- TNEI (R416). -/
def execTnei (rs : Reg) (imm : BitVec 16) (s : State) : Out :=
  s.trapIf (s.getGpr rs != immS imm)

/-- SYNC (R420). Every stype acts as 0; on one strongly ordered processor it is a NOP (20_memory.md R138). -/
def execSync (_stype : BitVec 5) (s : State) : Out :=
  s.needLevel 2 (.next s.retire)

/-- COP0 (R441). With CU[0] = 1 its effect is the parameter Cop0Op (R441). -/
def execCop0 (copFun : BitVec 26) (s : State) : Out :=
  s.needCop 0 (s.cop0Operation false copFun)

/-- COP2 (R442). With coprocessor 2 present its effect is the parameter Cop2 (R442). -/
def execCop2 (copFun : BitVec 26) (s : State) : Out :=
  s.needCop2 1 (s.cop2Operation copFun)

end Sys2Proof.Machine
end

