-- ==== Sys2Proof/Machine/Dispatch.lean ====
section
/-! DEFINITION. One arm for each instruction: a direct call of its meaning. -/

namespace Sys2Proof.Machine

def exec (i : Instr) (s : State) : Host.Outcome State Fault Refusal :=
  match i with
  | .lb base rt offset => Sys2Proof.Machine.execLb base rt offset s
  | .lbu base rt offset => Sys2Proof.Machine.execLbu base rt offset s
  | .lh base rt offset => Sys2Proof.Machine.execLh base rt offset s
  | .lhu base rt offset => Sys2Proof.Machine.execLhu base rt offset s
  | .lw base rt offset => Sys2Proof.Machine.execLw base rt offset s
  | .lwu base rt offset => Sys2Proof.Machine.execLwu base rt offset s
  | .ld base rt offset => Sys2Proof.Machine.execLd base rt offset s
  | .sb base rt offset => Sys2Proof.Machine.execSb base rt offset s
  | .sh base rt offset => Sys2Proof.Machine.execSh base rt offset s
  | .sw base rt offset => Sys2Proof.Machine.execSw base rt offset s
  | .sd base rt offset => Sys2Proof.Machine.execSd base rt offset s
  | .lwl base rt offset => Sys2Proof.Machine.execLwl base rt offset s
  | .lwr base rt offset => Sys2Proof.Machine.execLwr base rt offset s
  | .ldl base rt offset => Sys2Proof.Machine.execLdl base rt offset s
  | .ldr base rt offset => Sys2Proof.Machine.execLdr base rt offset s
  | .swl base rt offset => Sys2Proof.Machine.execSwl base rt offset s
  | .swr base rt offset => Sys2Proof.Machine.execSwr base rt offset s
  | .sdl base rt offset => Sys2Proof.Machine.execSdl base rt offset s
  | .sdr base rt offset => Sys2Proof.Machine.execSdr base rt offset s
  | .ll base rt offset => Sys2Proof.Machine.execLl base rt offset s
  | .lld base rt offset => Sys2Proof.Machine.execLld base rt offset s
  | .sc base rt offset => Sys2Proof.Machine.execSc base rt offset s
  | .scd base rt offset => Sys2Proof.Machine.execScd base rt offset s
  | .lwc2 base rt offset => Sys2Proof.Machine.execLwc2 base rt offset s
  | .swc2 base rt offset => Sys2Proof.Machine.execSwc2 base rt offset s
  | .ldc2 base rt offset => Sys2Proof.Machine.execLdc2 base rt offset s
  | .sdc2 base rt offset => Sys2Proof.Machine.execSdc2 base rt offset s
  | .pref base hint offset => Sys2Proof.Machine.execPref base hint offset s
  | .addi rs rt imm => Sys2Proof.Machine.execAddi rs rt imm s
  | .addiu rs rt imm => Sys2Proof.Machine.execAddiu rs rt imm s
  | .slti rs rt imm => Sys2Proof.Machine.execSlti rs rt imm s
  | .sltiu rs rt imm => Sys2Proof.Machine.execSltiu rs rt imm s
  | .andi rs rt imm => Sys2Proof.Machine.execAndi rs rt imm s
  | .ori rs rt imm => Sys2Proof.Machine.execOri rs rt imm s
  | .xori rs rt imm => Sys2Proof.Machine.execXori rs rt imm s
  | .daddi rs rt imm => Sys2Proof.Machine.execDaddi rs rt imm s
  | .daddiu rs rt imm => Sys2Proof.Machine.execDaddiu rs rt imm s
  | .lui rt imm => Sys2Proof.Machine.execLui rt imm s
  | .beq rs rt offset => Sys2Proof.Machine.execBeq rs rt offset s
  | .bne rs rt offset => Sys2Proof.Machine.execBne rs rt offset s
  | .beql rs rt offset => Sys2Proof.Machine.execBeql rs rt offset s
  | .bnel rs rt offset => Sys2Proof.Machine.execBnel rs rt offset s
  | .blez rs offset => Sys2Proof.Machine.execBlez rs offset s
  | .bgtz rs offset => Sys2Proof.Machine.execBgtz rs offset s
  | .blezl rs offset => Sys2Proof.Machine.execBlezl rs offset s
  | .bgtzl rs offset => Sys2Proof.Machine.execBgtzl rs offset s
  | .bltz rs offset => Sys2Proof.Machine.execBltz rs offset s
  | .bgez rs offset => Sys2Proof.Machine.execBgez rs offset s
  | .bltzl rs offset => Sys2Proof.Machine.execBltzl rs offset s
  | .bgezl rs offset => Sys2Proof.Machine.execBgezl rs offset s
  | .bltzal rs offset => Sys2Proof.Machine.execBltzal rs offset s
  | .bgezal rs offset => Sys2Proof.Machine.execBgezal rs offset s
  | .bltzall rs offset => Sys2Proof.Machine.execBltzall rs offset s
  | .bgezall rs offset => Sys2Proof.Machine.execBgezall rs offset s
  | .tgei rs imm => Sys2Proof.Machine.execTgei rs imm s
  | .tgeiu rs imm => Sys2Proof.Machine.execTgeiu rs imm s
  | .tlti rs imm => Sys2Proof.Machine.execTlti rs imm s
  | .tltiu rs imm => Sys2Proof.Machine.execTltiu rs imm s
  | .teqi rs imm => Sys2Proof.Machine.execTeqi rs imm s
  | .tnei rs imm => Sys2Proof.Machine.execTnei rs imm s
  | .j index => Sys2Proof.Machine.execJ index s
  | .jal index => Sys2Proof.Machine.execJal index s
  | .add rs rt rd => Sys2Proof.Machine.execAdd rs rt rd s
  | .addu rs rt rd => Sys2Proof.Machine.execAddu rs rt rd s
  | .sub rs rt rd => Sys2Proof.Machine.execSub rs rt rd s
  | .subu rs rt rd => Sys2Proof.Machine.execSubu rs rt rd s
  | .and rs rt rd => Sys2Proof.Machine.execAnd rs rt rd s
  | .or rs rt rd => Sys2Proof.Machine.execOr rs rt rd s
  | .xor rs rt rd => Sys2Proof.Machine.execXor rs rt rd s
  | .nor rs rt rd => Sys2Proof.Machine.execNor rs rt rd s
  | .slt rs rt rd => Sys2Proof.Machine.execSlt rs rt rd s
  | .sltu rs rt rd => Sys2Proof.Machine.execSltu rs rt rd s
  | .dadd rs rt rd => Sys2Proof.Machine.execDadd rs rt rd s
  | .daddu rs rt rd => Sys2Proof.Machine.execDaddu rs rt rd s
  | .dsub rs rt rd => Sys2Proof.Machine.execDsub rs rt rd s
  | .dsubu rs rt rd => Sys2Proof.Machine.execDsubu rs rt rd s
  | .sllv rs rt rd => Sys2Proof.Machine.execSllv rs rt rd s
  | .srlv rs rt rd => Sys2Proof.Machine.execSrlv rs rt rd s
  | .srav rs rt rd => Sys2Proof.Machine.execSrav rs rt rd s
  | .dsllv rs rt rd => Sys2Proof.Machine.execDsllv rs rt rd s
  | .dsrlv rs rt rd => Sys2Proof.Machine.execDsrlv rs rt rd s
  | .dsrav rs rt rd => Sys2Proof.Machine.execDsrav rs rt rd s
  | .movz rs rt rd => Sys2Proof.Machine.execMovz rs rt rd s
  | .movn rs rt rd => Sys2Proof.Machine.execMovn rs rt rd s
  | .sll rt rd sa => Sys2Proof.Machine.execSll rt rd sa s
  | .srl rt rd sa => Sys2Proof.Machine.execSrl rt rd sa s
  | .sra rt rd sa => Sys2Proof.Machine.execSra rt rd sa s
  | .dsll rt rd sa => Sys2Proof.Machine.execDsll rt rd sa s
  | .dsrl rt rd sa => Sys2Proof.Machine.execDsrl rt rd sa s
  | .dsra rt rd sa => Sys2Proof.Machine.execDsra rt rd sa s
  | .dsll32 rt rd sa => Sys2Proof.Machine.execDsll32 rt rd sa s
  | .dsrl32 rt rd sa => Sys2Proof.Machine.execDsrl32 rt rd sa s
  | .dsra32 rt rd sa => Sys2Proof.Machine.execDsra32 rt rd sa s
  | .mult rs rt => Sys2Proof.Machine.execMult rs rt s
  | .multu rs rt => Sys2Proof.Machine.execMultu rs rt s
  | .div rs rt => Sys2Proof.Machine.execDiv rs rt s
  | .divu rs rt => Sys2Proof.Machine.execDivu rs rt s
  | .dmult rs rt => Sys2Proof.Machine.execDmult rs rt s
  | .dmultu rs rt => Sys2Proof.Machine.execDmultu rs rt s
  | .ddiv rs rt => Sys2Proof.Machine.execDdiv rs rt s
  | .ddivu rs rt => Sys2Proof.Machine.execDdivu rs rt s
  | .mfhi rd => Sys2Proof.Machine.execMfhi rd s
  | .mflo rd => Sys2Proof.Machine.execMflo rd s
  | .mthi rs => Sys2Proof.Machine.execMthi rs s
  | .mtlo rs => Sys2Proof.Machine.execMtlo rs s
  | .jr rs => Sys2Proof.Machine.execJr rs s
  | .jalr rs rd => Sys2Proof.Machine.execJalr rs rd s
  | .syscall code => Sys2Proof.Machine.execSyscall code s
  | .breakpoint code => Sys2Proof.Machine.execBreakpoint code s
  | .sync stype => Sys2Proof.Machine.execSync stype s
  | .tge rs rt code => Sys2Proof.Machine.execTge rs rt code s
  | .tgeu rs rt code => Sys2Proof.Machine.execTgeu rs rt code s
  | .tlt rs rt code => Sys2Proof.Machine.execTlt rs rt code s
  | .tltu rs rt code => Sys2Proof.Machine.execTltu rs rt code s
  | .teq rs rt code => Sys2Proof.Machine.execTeq rs rt code s
  | .tne rs rt code => Sys2Proof.Machine.execTne rs rt code s
  | .movf rs cc rd => Sys2Proof.Machine.execMovf rs cc rd s
  | .movt rs cc rd => Sys2Proof.Machine.execMovt rs cc rd s
  | .cop0 copFun => Sys2Proof.Machine.execCop0 copFun s
  | .cop2 copFun => Sys2Proof.Machine.execCop2 copFun s
  | .lwc1 base ft offset => Sys2Proof.Machine.execLwc1 base ft offset s
  | .swc1 base ft offset => Sys2Proof.Machine.execSwc1 base ft offset s
  | .ldc1 base ft offset => Sys2Proof.Machine.execLdc1 base ft offset s
  | .sdc1 base ft offset => Sys2Proof.Machine.execSdc1 base ft offset s
  | .mfc1 rt fs => Sys2Proof.Machine.execMfc1 rt fs s
  | .dmfc1 rt fs => Sys2Proof.Machine.execDmfc1 rt fs s
  | .cfc1 rt fs => Sys2Proof.Machine.execCfc1 rt fs s
  | .mtc1 rt fs => Sys2Proof.Machine.execMtc1 rt fs s
  | .dmtc1 rt fs => Sys2Proof.Machine.execDmtc1 rt fs s
  | .ctc1 rt fs => Sys2Proof.Machine.execCtc1 rt fs s
  | .bc1f cc offset => Sys2Proof.Machine.execBc1f cc offset s
  | .bc1t cc offset => Sys2Proof.Machine.execBc1t cc offset s
  | .bc1fl cc offset => Sys2Proof.Machine.execBc1fl cc offset s
  | .bc1tl cc offset => Sys2Proof.Machine.execBc1tl cc offset s
  | .addS ft fs fd => Sys2Proof.Machine.execAddS ft fs fd s
  | .addD ft fs fd => Sys2Proof.Machine.execAddD ft fs fd s
  | .subS ft fs fd => Sys2Proof.Machine.execSubS ft fs fd s
  | .subD ft fs fd => Sys2Proof.Machine.execSubD ft fs fd s
  | .mulS ft fs fd => Sys2Proof.Machine.execMulS ft fs fd s
  | .mulD ft fs fd => Sys2Proof.Machine.execMulD ft fs fd s
  | .divS ft fs fd => Sys2Proof.Machine.execDivS ft fs fd s
  | .divD ft fs fd => Sys2Proof.Machine.execDivD ft fs fd s
  | .sqrtS fs fd => Sys2Proof.Machine.execSqrtS fs fd s
  | .sqrtD fs fd => Sys2Proof.Machine.execSqrtD fs fd s
  | .absS fs fd => Sys2Proof.Machine.execAbsS fs fd s
  | .absD fs fd => Sys2Proof.Machine.execAbsD fs fd s
  | .movS fs fd => Sys2Proof.Machine.execMovS fs fd s
  | .movD fs fd => Sys2Proof.Machine.execMovD fs fd s
  | .negS fs fd => Sys2Proof.Machine.execNegS fs fd s
  | .negD fs fd => Sys2Proof.Machine.execNegD fs fd s
  | .recipS fs fd => Sys2Proof.Machine.execRecipS fs fd s
  | .recipD fs fd => Sys2Proof.Machine.execRecipD fs fd s
  | .rsqrtS fs fd => Sys2Proof.Machine.execRsqrtS fs fd s
  | .rsqrtD fs fd => Sys2Proof.Machine.execRsqrtD fs fd s
  | .roundLS fs fd => Sys2Proof.Machine.execRoundLS fs fd s
  | .roundLD fs fd => Sys2Proof.Machine.execRoundLD fs fd s
  | .truncLS fs fd => Sys2Proof.Machine.execTruncLS fs fd s
  | .truncLD fs fd => Sys2Proof.Machine.execTruncLD fs fd s
  | .ceilLS fs fd => Sys2Proof.Machine.execCeilLS fs fd s
  | .ceilLD fs fd => Sys2Proof.Machine.execCeilLD fs fd s
  | .floorLS fs fd => Sys2Proof.Machine.execFloorLS fs fd s
  | .floorLD fs fd => Sys2Proof.Machine.execFloorLD fs fd s
  | .roundWS fs fd => Sys2Proof.Machine.execRoundWS fs fd s
  | .roundWD fs fd => Sys2Proof.Machine.execRoundWD fs fd s
  | .truncWS fs fd => Sys2Proof.Machine.execTruncWS fs fd s
  | .truncWD fs fd => Sys2Proof.Machine.execTruncWD fs fd s
  | .ceilWS fs fd => Sys2Proof.Machine.execCeilWS fs fd s
  | .ceilWD fs fd => Sys2Proof.Machine.execCeilWD fs fd s
  | .floorWS fs fd => Sys2Proof.Machine.execFloorWS fs fd s
  | .floorWD fs fd => Sys2Proof.Machine.execFloorWD fs fd s
  | .cvtSD fs fd => Sys2Proof.Machine.execCvtSD fs fd s
  | .cvtSW fs fd => Sys2Proof.Machine.execCvtSW fs fd s
  | .cvtSL fs fd => Sys2Proof.Machine.execCvtSL fs fd s
  | .cvtDS fs fd => Sys2Proof.Machine.execCvtDS fs fd s
  | .cvtDW fs fd => Sys2Proof.Machine.execCvtDW fs fd s
  | .cvtDL fs fd => Sys2Proof.Machine.execCvtDL fs fd s
  | .cvtWS fs fd => Sys2Proof.Machine.execCvtWS fs fd s
  | .cvtWD fs fd => Sys2Proof.Machine.execCvtWD fs fd s
  | .cvtLS fs fd => Sys2Proof.Machine.execCvtLS fs fd s
  | .cvtLD fs fd => Sys2Proof.Machine.execCvtLD fs fd s
  | .cFS ft fs cc => Sys2Proof.Machine.execCFS ft fs cc s
  | .cFD ft fs cc => Sys2Proof.Machine.execCFD ft fs cc s
  | .cUnS ft fs cc => Sys2Proof.Machine.execCUnS ft fs cc s
  | .cUnD ft fs cc => Sys2Proof.Machine.execCUnD ft fs cc s
  | .cEqS ft fs cc => Sys2Proof.Machine.execCEqS ft fs cc s
  | .cEqD ft fs cc => Sys2Proof.Machine.execCEqD ft fs cc s
  | .cUeqS ft fs cc => Sys2Proof.Machine.execCUeqS ft fs cc s
  | .cUeqD ft fs cc => Sys2Proof.Machine.execCUeqD ft fs cc s
  | .cOltS ft fs cc => Sys2Proof.Machine.execCOltS ft fs cc s
  | .cOltD ft fs cc => Sys2Proof.Machine.execCOltD ft fs cc s
  | .cUltS ft fs cc => Sys2Proof.Machine.execCUltS ft fs cc s
  | .cUltD ft fs cc => Sys2Proof.Machine.execCUltD ft fs cc s
  | .cOleS ft fs cc => Sys2Proof.Machine.execCOleS ft fs cc s
  | .cOleD ft fs cc => Sys2Proof.Machine.execCOleD ft fs cc s
  | .cUleS ft fs cc => Sys2Proof.Machine.execCUleS ft fs cc s
  | .cUleD ft fs cc => Sys2Proof.Machine.execCUleD ft fs cc s
  | .cSfS ft fs cc => Sys2Proof.Machine.execCSfS ft fs cc s
  | .cSfD ft fs cc => Sys2Proof.Machine.execCSfD ft fs cc s
  | .cNgleS ft fs cc => Sys2Proof.Machine.execCNgleS ft fs cc s
  | .cNgleD ft fs cc => Sys2Proof.Machine.execCNgleD ft fs cc s
  | .cSeqS ft fs cc => Sys2Proof.Machine.execCSeqS ft fs cc s
  | .cSeqD ft fs cc => Sys2Proof.Machine.execCSeqD ft fs cc s
  | .cNglS ft fs cc => Sys2Proof.Machine.execCNglS ft fs cc s
  | .cNglD ft fs cc => Sys2Proof.Machine.execCNglD ft fs cc s
  | .cLtS ft fs cc => Sys2Proof.Machine.execCLtS ft fs cc s
  | .cLtD ft fs cc => Sys2Proof.Machine.execCLtD ft fs cc s
  | .cNgeS ft fs cc => Sys2Proof.Machine.execCNgeS ft fs cc s
  | .cNgeD ft fs cc => Sys2Proof.Machine.execCNgeD ft fs cc s
  | .cLeS ft fs cc => Sys2Proof.Machine.execCLeS ft fs cc s
  | .cLeD ft fs cc => Sys2Proof.Machine.execCLeD ft fs cc s
  | .cNgtS ft fs cc => Sys2Proof.Machine.execCNgtS ft fs cc s
  | .cNgtD ft fs cc => Sys2Proof.Machine.execCNgtD ft fs cc s
  | .movfS cc fs fd => Sys2Proof.Machine.execMovfS cc fs fd s
  | .movfD cc fs fd => Sys2Proof.Machine.execMovfD cc fs fd s
  | .movtS cc fs fd => Sys2Proof.Machine.execMovtS cc fs fd s
  | .movtD cc fs fd => Sys2Proof.Machine.execMovtD cc fs fd s
  | .movzS rt fs fd => Sys2Proof.Machine.execMovzS rt fs fd s
  | .movzD rt fs fd => Sys2Proof.Machine.execMovzD rt fs fd s
  | .movnS rt fs fd => Sys2Proof.Machine.execMovnS rt fs fd s
  | .movnD rt fs fd => Sys2Proof.Machine.execMovnD rt fs fd s
  | .lwxc1 base index fd => Sys2Proof.Machine.execLwxc1 base index fd s
  | .ldxc1 base index fd => Sys2Proof.Machine.execLdxc1 base index fd s
  | .swxc1 base index fs => Sys2Proof.Machine.execSwxc1 base index fs s
  | .sdxc1 base index fs => Sys2Proof.Machine.execSdxc1 base index fs s
  | .prefx base index hint => Sys2Proof.Machine.execPrefx base index hint s
  | .maddS fr ft fs fd => Sys2Proof.Machine.execMaddS fr ft fs fd s
  | .maddD fr ft fs fd => Sys2Proof.Machine.execMaddD fr ft fs fd s
  | .msubS fr ft fs fd => Sys2Proof.Machine.execMsubS fr ft fs fd s
  | .msubD fr ft fs fd => Sys2Proof.Machine.execMsubD fr ft fs fd s
  | .nmaddS fr ft fs fd => Sys2Proof.Machine.execNmaddS fr ft fs fd s
  | .nmaddD fr ft fs fd => Sys2Proof.Machine.execNmaddD fr ft fs fd s
  | .nmsubS fr ft fs fd => Sys2Proof.Machine.execNmsubS fr ft fs fd s
  | .nmsubD fr ft fs fd => Sys2Proof.Machine.execNmsubD fr ft fs fd s

end Sys2Proof.Machine
end

