-- ==== Sys2Proof/Machine/Hazards.lean ====
section
/-! DEFINITION. The load delay of MIPS I (spec/70_reset_and_hazards.md R820, R821): which registers an instruction reads,
and the refusal of a read in the load delay slot. The other delays are values, in Ops.lean, Flags.lean and FpRegs.lean. -/

namespace Sys2Proof.Machine

/-- The general registers a MIPS I instruction reads as sources, whichever its rule reads (R820). The instructions of the
higher levels read nothing at level I: they raise an exception there. Whether an operation of coprocessor 0 or 2 (`cop0`,
`cop2`) reads a general register is a matter of the parameters `Cop0Op` and `Cop2`; that it counts as reading none, and runs
right after a load, is the model's choice (DESIGN CHOICE, notes/assumptions/37.md). -/
def gprSources : Instr → List Reg
  | .lb base _ _ => [base]
  | .lbu base _ _ => [base]
  | .lh base _ _ => [base]
  | .lhu base _ _ => [base]
  | .lw base _ _ => [base]
  | .lwu _ _ _ => []
  | .ld _ _ _ => []
  | .sb base rt _ => [base, rt]
  | .sh base rt _ => [base, rt]
  | .sw base rt _ => [base, rt]
  | .sd _ _ _ => []
  | .lwl base rt _ => [base, rt]
  | .lwr base rt _ => [base, rt]
  | .ldl _ _ _ => []
  | .ldr _ _ _ => []
  | .swl base rt _ => [base, rt]
  | .swr base rt _ => [base, rt]
  | .sdl _ _ _ => []
  | .sdr _ _ _ => []
  | .ll _ _ _ => []
  | .lld _ _ _ => []
  | .sc _ _ _ => []
  | .scd _ _ _ => []
  | .lwc2 base _ _ => [base]
  | .swc2 base _ _ => [base]
  | .ldc2 _ _ _ => []
  | .sdc2 _ _ _ => []
  | .pref _ _ _ => []
  | .addi rs _ _ => [rs]
  | .addiu rs _ _ => [rs]
  | .slti rs _ _ => [rs]
  | .sltiu rs _ _ => [rs]
  | .andi rs _ _ => [rs]
  | .ori rs _ _ => [rs]
  | .xori rs _ _ => [rs]
  | .daddi _ _ _ => []
  | .daddiu _ _ _ => []
  | .lui _ _ => []
  | .beq rs rt _ => [rs, rt]
  | .bne rs rt _ => [rs, rt]
  | .beql _ _ _ => []
  | .bnel _ _ _ => []
  | .blez rs _ => [rs]
  | .bgtz rs _ => [rs]
  | .blezl _ _ => []
  | .bgtzl _ _ => []
  | .bltz rs _ => [rs]
  | .bgez rs _ => [rs]
  | .bltzl _ _ => []
  | .bgezl _ _ => []
  | .bltzal rs _ => [rs]
  | .bgezal rs _ => [rs]
  | .bltzall _ _ => []
  | .bgezall _ _ => []
  | .tgei _ _ => []
  | .tgeiu _ _ => []
  | .tlti _ _ => []
  | .tltiu _ _ => []
  | .teqi _ _ => []
  | .tnei _ _ => []
  | .j _ => []
  | .jal _ => []
  | .add rs rt _ => [rs, rt]
  | .addu rs rt _ => [rs, rt]
  | .sub rs rt _ => [rs, rt]
  | .subu rs rt _ => [rs, rt]
  | .and rs rt _ => [rs, rt]
  | .or rs rt _ => [rs, rt]
  | .xor rs rt _ => [rs, rt]
  | .nor rs rt _ => [rs, rt]
  | .slt rs rt _ => [rs, rt]
  | .sltu rs rt _ => [rs, rt]
  | .dadd _ _ _ => []
  | .daddu _ _ _ => []
  | .dsub _ _ _ => []
  | .dsubu _ _ _ => []
  | .sllv rs rt _ => [rs, rt]
  | .srlv rs rt _ => [rs, rt]
  | .srav rs rt _ => [rs, rt]
  | .dsllv _ _ _ => []
  | .dsrlv _ _ _ => []
  | .dsrav _ _ _ => []
  | .movz _ _ _ => []
  | .movn _ _ _ => []
  | .sll rt _ _ => [rt]
  | .srl rt _ _ => [rt]
  | .sra rt _ _ => [rt]
  | .dsll _ _ _ => []
  | .dsrl _ _ _ => []
  | .dsra _ _ _ => []
  | .dsll32 _ _ _ => []
  | .dsrl32 _ _ _ => []
  | .dsra32 _ _ _ => []
  | .mult rs rt => [rs, rt]
  | .multu rs rt => [rs, rt]
  | .div rs rt => [rs, rt]
  | .divu rs rt => [rs, rt]
  | .dmult _ _ => []
  | .dmultu _ _ => []
  | .ddiv _ _ => []
  | .ddivu _ _ => []
  | .mfhi _ => []
  | .mflo _ => []
  | .mthi rs => [rs]
  | .mtlo rs => [rs]
  | .jr rs => [rs]
  | .jalr rs _ => [rs]
  | .syscall _ => []
  | .breakpoint _ => []
  | .sync _ => []
  | .tge _ _ _ => []
  | .tgeu _ _ _ => []
  | .tlt _ _ _ => []
  | .tltu _ _ _ => []
  | .teq _ _ _ => []
  | .tne _ _ _ => []
  | .movf _ _ _ => []
  | .movt _ _ _ => []
  | .cop0 _ => []
  | .cop2 _ => []
  | .lwc1 base _ _ => [base]
  | .swc1 base _ _ => [base]
  | .ldc1 _ _ _ => []
  | .sdc1 _ _ _ => []
  | .mfc1 _ _ => []
  | .dmfc1 _ _ => []
  | .cfc1 _ _ => []
  | .mtc1 rt _ => [rt]
  | .dmtc1 _ _ => []
  | .ctc1 rt _ => [rt]
  | .bc1f _ _ => []
  | .bc1t _ _ => []
  | .bc1fl _ _ => []
  | .bc1tl _ _ => []
  | .addS _ _ _ => []
  | .addD _ _ _ => []
  | .subS _ _ _ => []
  | .subD _ _ _ => []
  | .mulS _ _ _ => []
  | .mulD _ _ _ => []
  | .divS _ _ _ => []
  | .divD _ _ _ => []
  | .sqrtS _ _ => []
  | .sqrtD _ _ => []
  | .absS _ _ => []
  | .absD _ _ => []
  | .movS _ _ => []
  | .movD _ _ => []
  | .negS _ _ => []
  | .negD _ _ => []
  | .recipS _ _ => []
  | .recipD _ _ => []
  | .rsqrtS _ _ => []
  | .rsqrtD _ _ => []
  | .roundLS _ _ => []
  | .roundLD _ _ => []
  | .truncLS _ _ => []
  | .truncLD _ _ => []
  | .ceilLS _ _ => []
  | .ceilLD _ _ => []
  | .floorLS _ _ => []
  | .floorLD _ _ => []
  | .roundWS _ _ => []
  | .roundWD _ _ => []
  | .truncWS _ _ => []
  | .truncWD _ _ => []
  | .ceilWS _ _ => []
  | .ceilWD _ _ => []
  | .floorWS _ _ => []
  | .floorWD _ _ => []
  | .cvtSD _ _ => []
  | .cvtSW _ _ => []
  | .cvtSL _ _ => []
  | .cvtDS _ _ => []
  | .cvtDW _ _ => []
  | .cvtDL _ _ => []
  | .cvtWS _ _ => []
  | .cvtWD _ _ => []
  | .cvtLS _ _ => []
  | .cvtLD _ _ => []
  | .cFS _ _ _ => []
  | .cFD _ _ _ => []
  | .cUnS _ _ _ => []
  | .cUnD _ _ _ => []
  | .cEqS _ _ _ => []
  | .cEqD _ _ _ => []
  | .cUeqS _ _ _ => []
  | .cUeqD _ _ _ => []
  | .cOltS _ _ _ => []
  | .cOltD _ _ _ => []
  | .cUltS _ _ _ => []
  | .cUltD _ _ _ => []
  | .cOleS _ _ _ => []
  | .cOleD _ _ _ => []
  | .cUleS _ _ _ => []
  | .cUleD _ _ _ => []
  | .cSfS _ _ _ => []
  | .cSfD _ _ _ => []
  | .cNgleS _ _ _ => []
  | .cNgleD _ _ _ => []
  | .cSeqS _ _ _ => []
  | .cSeqD _ _ _ => []
  | .cNglS _ _ _ => []
  | .cNglD _ _ _ => []
  | .cLtS _ _ _ => []
  | .cLtD _ _ _ => []
  | .cNgeS _ _ _ => []
  | .cNgeD _ _ _ => []
  | .cLeS _ _ _ => []
  | .cLeD _ _ _ => []
  | .cNgtS _ _ _ => []
  | .cNgtD _ _ _ => []
  | .movfS _ _ _ => []
  | .movfD _ _ _ => []
  | .movtS _ _ _ => []
  | .movtD _ _ _ => []
  | .movzS _ _ _ => []
  | .movzD _ _ _ => []
  | .movnS _ _ _ => []
  | .movnD _ _ _ => []
  | .lwxc1 _ _ _ => []
  | .ldxc1 _ _ _ => []
  | .swxc1 _ _ _ => []
  | .sdxc1 _ _ _ => []
  | .prefx _ _ _ => []
  | .maddS _ _ _ _ => []
  | .maddD _ _ _ _ => []
  | .msubS _ _ _ _ => []
  | .msubD _ _ _ _ => []
  | .nmaddS _ _ _ _ => []
  | .nmaddD _ _ _ _ => []
  | .nmsubS _ _ _ _ => []
  | .nmsubD _ _ _ _ => []

/-- Is the instruction an LWL or LWR whose rt is `r`? It may follow another load to `r` (R820). -/
def mergesInto (r : Reg) : Instr → Bool
  | .lwl _ rt _ => rt == r
  | .lwr _ rt _ => rt == r
  | .lb _ _ _ => false
  | .lbu _ _ _ => false
  | .lh _ _ _ => false
  | .lhu _ _ _ => false
  | .lw _ _ _ => false
  | .lwu _ _ _ => false
  | .ld _ _ _ => false
  | .sb _ _ _ => false
  | .sh _ _ _ => false
  | .sw _ _ _ => false
  | .sd _ _ _ => false
  | .ldl _ _ _ => false
  | .ldr _ _ _ => false
  | .swl _ _ _ => false
  | .swr _ _ _ => false
  | .sdl _ _ _ => false
  | .sdr _ _ _ => false
  | .ll _ _ _ => false
  | .lld _ _ _ => false
  | .sc _ _ _ => false
  | .scd _ _ _ => false
  | .lwc2 _ _ _ => false
  | .swc2 _ _ _ => false
  | .ldc2 _ _ _ => false
  | .sdc2 _ _ _ => false
  | .pref _ _ _ => false
  | .addi _ _ _ => false
  | .addiu _ _ _ => false
  | .slti _ _ _ => false
  | .sltiu _ _ _ => false
  | .andi _ _ _ => false
  | .ori _ _ _ => false
  | .xori _ _ _ => false
  | .daddi _ _ _ => false
  | .daddiu _ _ _ => false
  | .lui _ _ => false
  | .beq _ _ _ => false
  | .bne _ _ _ => false
  | .beql _ _ _ => false
  | .bnel _ _ _ => false
  | .blez _ _ => false
  | .bgtz _ _ => false
  | .blezl _ _ => false
  | .bgtzl _ _ => false
  | .bltz _ _ => false
  | .bgez _ _ => false
  | .bltzl _ _ => false
  | .bgezl _ _ => false
  | .bltzal _ _ => false
  | .bgezal _ _ => false
  | .bltzall _ _ => false
  | .bgezall _ _ => false
  | .tgei _ _ => false
  | .tgeiu _ _ => false
  | .tlti _ _ => false
  | .tltiu _ _ => false
  | .teqi _ _ => false
  | .tnei _ _ => false
  | .j _ => false
  | .jal _ => false
  | .add _ _ _ => false
  | .addu _ _ _ => false
  | .sub _ _ _ => false
  | .subu _ _ _ => false
  | .and _ _ _ => false
  | .or _ _ _ => false
  | .xor _ _ _ => false
  | .nor _ _ _ => false
  | .slt _ _ _ => false
  | .sltu _ _ _ => false
  | .dadd _ _ _ => false
  | .daddu _ _ _ => false
  | .dsub _ _ _ => false
  | .dsubu _ _ _ => false
  | .sllv _ _ _ => false
  | .srlv _ _ _ => false
  | .srav _ _ _ => false
  | .dsllv _ _ _ => false
  | .dsrlv _ _ _ => false
  | .dsrav _ _ _ => false
  | .movz _ _ _ => false
  | .movn _ _ _ => false
  | .sll _ _ _ => false
  | .srl _ _ _ => false
  | .sra _ _ _ => false
  | .dsll _ _ _ => false
  | .dsrl _ _ _ => false
  | .dsra _ _ _ => false
  | .dsll32 _ _ _ => false
  | .dsrl32 _ _ _ => false
  | .dsra32 _ _ _ => false
  | .mult _ _ => false
  | .multu _ _ => false
  | .div _ _ => false
  | .divu _ _ => false
  | .dmult _ _ => false
  | .dmultu _ _ => false
  | .ddiv _ _ => false
  | .ddivu _ _ => false
  | .mfhi _ => false
  | .mflo _ => false
  | .mthi _ => false
  | .mtlo _ => false
  | .jr _ => false
  | .jalr _ _ => false
  | .syscall _ => false
  | .breakpoint _ => false
  | .sync _ => false
  | .tge _ _ _ => false
  | .tgeu _ _ _ => false
  | .tlt _ _ _ => false
  | .tltu _ _ _ => false
  | .teq _ _ _ => false
  | .tne _ _ _ => false
  | .movf _ _ _ => false
  | .movt _ _ _ => false
  | .cop0 _ => false
  | .cop2 _ => false
  | .lwc1 _ _ _ => false
  | .swc1 _ _ _ => false
  | .ldc1 _ _ _ => false
  | .sdc1 _ _ _ => false
  | .mfc1 _ _ => false
  | .dmfc1 _ _ => false
  | .cfc1 _ _ => false
  | .mtc1 _ _ => false
  | .dmtc1 _ _ => false
  | .ctc1 _ _ => false
  | .bc1f _ _ => false
  | .bc1t _ _ => false
  | .bc1fl _ _ => false
  | .bc1tl _ _ => false
  | .addS _ _ _ => false
  | .addD _ _ _ => false
  | .subS _ _ _ => false
  | .subD _ _ _ => false
  | .mulS _ _ _ => false
  | .mulD _ _ _ => false
  | .divS _ _ _ => false
  | .divD _ _ _ => false
  | .sqrtS _ _ => false
  | .sqrtD _ _ => false
  | .absS _ _ => false
  | .absD _ _ => false
  | .movS _ _ => false
  | .movD _ _ => false
  | .negS _ _ => false
  | .negD _ _ => false
  | .recipS _ _ => false
  | .recipD _ _ => false
  | .rsqrtS _ _ => false
  | .rsqrtD _ _ => false
  | .roundLS _ _ => false
  | .roundLD _ _ => false
  | .truncLS _ _ => false
  | .truncLD _ _ => false
  | .ceilLS _ _ => false
  | .ceilLD _ _ => false
  | .floorLS _ _ => false
  | .floorLD _ _ => false
  | .roundWS _ _ => false
  | .roundWD _ _ => false
  | .truncWS _ _ => false
  | .truncWD _ _ => false
  | .ceilWS _ _ => false
  | .ceilWD _ _ => false
  | .floorWS _ _ => false
  | .floorWD _ _ => false
  | .cvtSD _ _ => false
  | .cvtSW _ _ => false
  | .cvtSL _ _ => false
  | .cvtDS _ _ => false
  | .cvtDW _ _ => false
  | .cvtDL _ _ => false
  | .cvtWS _ _ => false
  | .cvtWD _ _ => false
  | .cvtLS _ _ => false
  | .cvtLD _ _ => false
  | .cFS _ _ _ => false
  | .cFD _ _ _ => false
  | .cUnS _ _ _ => false
  | .cUnD _ _ _ => false
  | .cEqS _ _ _ => false
  | .cEqD _ _ _ => false
  | .cUeqS _ _ _ => false
  | .cUeqD _ _ _ => false
  | .cOltS _ _ _ => false
  | .cOltD _ _ _ => false
  | .cUltS _ _ _ => false
  | .cUltD _ _ _ => false
  | .cOleS _ _ _ => false
  | .cOleD _ _ _ => false
  | .cUleS _ _ _ => false
  | .cUleD _ _ _ => false
  | .cSfS _ _ _ => false
  | .cSfD _ _ _ => false
  | .cNgleS _ _ _ => false
  | .cNgleD _ _ _ => false
  | .cSeqS _ _ _ => false
  | .cSeqD _ _ _ => false
  | .cNglS _ _ _ => false
  | .cNglD _ _ _ => false
  | .cLtS _ _ _ => false
  | .cLtD _ _ _ => false
  | .cNgeS _ _ _ => false
  | .cNgeD _ _ _ => false
  | .cLeS _ _ _ => false
  | .cLeD _ _ _ => false
  | .cNgtS _ _ _ => false
  | .cNgtD _ _ _ => false
  | .movfS _ _ _ => false
  | .movfD _ _ _ => false
  | .movtS _ _ _ => false
  | .movtD _ _ _ => false
  | .movzS _ _ _ => false
  | .movzD _ _ _ => false
  | .movnS _ _ _ => false
  | .movnD _ _ _ => false
  | .lwxc1 _ _ _ => false
  | .ldxc1 _ _ _ => false
  | .swxc1 _ _ _ => false
  | .sdxc1 _ _ _ => false
  | .prefx _ _ _ => false
  | .maddS _ _ _ _ => false
  | .maddD _ _ _ _ => false
  | .msubS _ _ _ _ => false
  | .msubD _ _ _ _ => false
  | .nmaddS _ _ _ _ => false
  | .nmaddD _ _ _ _ => false
  | .nmsubS _ _ _ _ => false
  | .nmsubD _ _ _ _ => false

/-- The FGRs of an operand of a format: one, or for a doubleword in the 32-bit model a pair (10_state.md R63). -/
def State.operandFgrs (s : State) (fmt : FpFmt) (n : Reg) : List Reg :=
  if isWordFmt fmt || s.fgr64 then [n] else [evenOf n, oddOf n]

/-- The FGRs a MIPS I instruction reads: as an operand, as a store source, or through MFC1 (R821). -/
def State.fgrSources (s : State) : Instr → List Reg
  | .lb _ _ _ => []
  | .lbu _ _ _ => []
  | .lh _ _ _ => []
  | .lhu _ _ _ => []
  | .lw _ _ _ => []
  | .lwu _ _ _ => []
  | .ld _ _ _ => []
  | .sb _ _ _ => []
  | .sh _ _ _ => []
  | .sw _ _ _ => []
  | .sd _ _ _ => []
  | .lwl _ _ _ => []
  | .lwr _ _ _ => []
  | .ldl _ _ _ => []
  | .ldr _ _ _ => []
  | .swl _ _ _ => []
  | .swr _ _ _ => []
  | .sdl _ _ _ => []
  | .sdr _ _ _ => []
  | .ll _ _ _ => []
  | .lld _ _ _ => []
  | .sc _ _ _ => []
  | .scd _ _ _ => []
  | .lwc2 _ _ _ => []
  | .swc2 _ _ _ => []
  | .ldc2 _ _ _ => []
  | .sdc2 _ _ _ => []
  | .pref _ _ _ => []
  | .addi _ _ _ => []
  | .addiu _ _ _ => []
  | .slti _ _ _ => []
  | .sltiu _ _ _ => []
  | .andi _ _ _ => []
  | .ori _ _ _ => []
  | .xori _ _ _ => []
  | .daddi _ _ _ => []
  | .daddiu _ _ _ => []
  | .lui _ _ => []
  | .beq _ _ _ => []
  | .bne _ _ _ => []
  | .beql _ _ _ => []
  | .bnel _ _ _ => []
  | .blez _ _ => []
  | .bgtz _ _ => []
  | .blezl _ _ => []
  | .bgtzl _ _ => []
  | .bltz _ _ => []
  | .bgez _ _ => []
  | .bltzl _ _ => []
  | .bgezl _ _ => []
  | .bltzal _ _ => []
  | .bgezal _ _ => []
  | .bltzall _ _ => []
  | .bgezall _ _ => []
  | .tgei _ _ => []
  | .tgeiu _ _ => []
  | .tlti _ _ => []
  | .tltiu _ _ => []
  | .teqi _ _ => []
  | .tnei _ _ => []
  | .j _ => []
  | .jal _ => []
  | .add _ _ _ => []
  | .addu _ _ _ => []
  | .sub _ _ _ => []
  | .subu _ _ _ => []
  | .and _ _ _ => []
  | .or _ _ _ => []
  | .xor _ _ _ => []
  | .nor _ _ _ => []
  | .slt _ _ _ => []
  | .sltu _ _ _ => []
  | .dadd _ _ _ => []
  | .daddu _ _ _ => []
  | .dsub _ _ _ => []
  | .dsubu _ _ _ => []
  | .sllv _ _ _ => []
  | .srlv _ _ _ => []
  | .srav _ _ _ => []
  | .dsllv _ _ _ => []
  | .dsrlv _ _ _ => []
  | .dsrav _ _ _ => []
  | .movz _ _ _ => []
  | .movn _ _ _ => []
  | .sll _ _ _ => []
  | .srl _ _ _ => []
  | .sra _ _ _ => []
  | .dsll _ _ _ => []
  | .dsrl _ _ _ => []
  | .dsra _ _ _ => []
  | .dsll32 _ _ _ => []
  | .dsrl32 _ _ _ => []
  | .dsra32 _ _ _ => []
  | .mult _ _ => []
  | .multu _ _ => []
  | .div _ _ => []
  | .divu _ _ => []
  | .dmult _ _ => []
  | .dmultu _ _ => []
  | .ddiv _ _ => []
  | .ddivu _ _ => []
  | .mfhi _ => []
  | .mflo _ => []
  | .mthi _ => []
  | .mtlo _ => []
  | .jr _ => []
  | .jalr _ _ => []
  | .syscall _ => []
  | .breakpoint _ => []
  | .sync _ => []
  | .tge _ _ _ => []
  | .tgeu _ _ _ => []
  | .tlt _ _ _ => []
  | .tltu _ _ _ => []
  | .teq _ _ _ => []
  | .tne _ _ _ => []
  | .movf _ _ _ => []
  | .movt _ _ _ => []
  | .cop0 _ => []
  | .cop2 _ => []
  | .lwc1 _ _ _ => []
  | .swc1 _ ft _ => s.operandFgrs .S ft
  | .ldc1 _ _ _ => []
  | .sdc1 _ _ _ => []
  | .mfc1 _ fs => s.operandFgrs .S fs
  | .dmfc1 _ _ => []
  | .cfc1 _ _ => []
  | .mtc1 _ _ => []
  | .dmtc1 _ _ => []
  | .ctc1 _ _ => []
  | .bc1f _ _ => []
  | .bc1t _ _ => []
  | .bc1fl _ _ => []
  | .bc1tl _ _ => []
  | .addS ft fs _ => s.operandFgrs .S fs ++ s.operandFgrs .S ft
  | .addD ft fs _ => s.operandFgrs .D fs ++ s.operandFgrs .D ft
  | .subS ft fs _ => s.operandFgrs .S fs ++ s.operandFgrs .S ft
  | .subD ft fs _ => s.operandFgrs .D fs ++ s.operandFgrs .D ft
  | .mulS ft fs _ => s.operandFgrs .S fs ++ s.operandFgrs .S ft
  | .mulD ft fs _ => s.operandFgrs .D fs ++ s.operandFgrs .D ft
  | .divS ft fs _ => s.operandFgrs .S fs ++ s.operandFgrs .S ft
  | .divD ft fs _ => s.operandFgrs .D fs ++ s.operandFgrs .D ft
  | .sqrtS _ _ => []
  | .sqrtD _ _ => []
  | .absS fs _ => s.operandFgrs .S fs
  | .absD fs _ => s.operandFgrs .D fs
  | .movS fs _ => s.operandFgrs .S fs
  | .movD fs _ => s.operandFgrs .D fs
  | .negS fs _ => s.operandFgrs .S fs
  | .negD fs _ => s.operandFgrs .D fs
  | .recipS _ _ => []
  | .recipD _ _ => []
  | .rsqrtS _ _ => []
  | .rsqrtD _ _ => []
  | .roundLS _ _ => []
  | .roundLD _ _ => []
  | .truncLS _ _ => []
  | .truncLD _ _ => []
  | .ceilLS _ _ => []
  | .ceilLD _ _ => []
  | .floorLS _ _ => []
  | .floorLD _ _ => []
  | .roundWS _ _ => []
  | .roundWD _ _ => []
  | .truncWS _ _ => []
  | .truncWD _ _ => []
  | .ceilWS _ _ => []
  | .ceilWD _ _ => []
  | .floorWS _ _ => []
  | .floorWD _ _ => []
  | .cvtSD fs _ => s.operandFgrs .D fs
  | .cvtSW fs _ => s.operandFgrs .W fs
  | .cvtSL _ _ => []
  | .cvtDS fs _ => s.operandFgrs .S fs
  | .cvtDW fs _ => s.operandFgrs .W fs
  | .cvtDL _ _ => []
  | .cvtWS fs _ => s.operandFgrs .S fs
  | .cvtWD fs _ => s.operandFgrs .D fs
  | .cvtLS _ _ => []
  | .cvtLD _ _ => []
  | .cFS ft fs _ => s.operandFgrs .S fs ++ s.operandFgrs .S ft
  | .cFD ft fs _ => s.operandFgrs .D fs ++ s.operandFgrs .D ft
  | .cUnS ft fs _ => s.operandFgrs .S fs ++ s.operandFgrs .S ft
  | .cUnD ft fs _ => s.operandFgrs .D fs ++ s.operandFgrs .D ft
  | .cEqS ft fs _ => s.operandFgrs .S fs ++ s.operandFgrs .S ft
  | .cEqD ft fs _ => s.operandFgrs .D fs ++ s.operandFgrs .D ft
  | .cUeqS ft fs _ => s.operandFgrs .S fs ++ s.operandFgrs .S ft
  | .cUeqD ft fs _ => s.operandFgrs .D fs ++ s.operandFgrs .D ft
  | .cOltS ft fs _ => s.operandFgrs .S fs ++ s.operandFgrs .S ft
  | .cOltD ft fs _ => s.operandFgrs .D fs ++ s.operandFgrs .D ft
  | .cUltS ft fs _ => s.operandFgrs .S fs ++ s.operandFgrs .S ft
  | .cUltD ft fs _ => s.operandFgrs .D fs ++ s.operandFgrs .D ft
  | .cOleS ft fs _ => s.operandFgrs .S fs ++ s.operandFgrs .S ft
  | .cOleD ft fs _ => s.operandFgrs .D fs ++ s.operandFgrs .D ft
  | .cUleS ft fs _ => s.operandFgrs .S fs ++ s.operandFgrs .S ft
  | .cUleD ft fs _ => s.operandFgrs .D fs ++ s.operandFgrs .D ft
  | .cSfS ft fs _ => s.operandFgrs .S fs ++ s.operandFgrs .S ft
  | .cSfD ft fs _ => s.operandFgrs .D fs ++ s.operandFgrs .D ft
  | .cNgleS ft fs _ => s.operandFgrs .S fs ++ s.operandFgrs .S ft
  | .cNgleD ft fs _ => s.operandFgrs .D fs ++ s.operandFgrs .D ft
  | .cSeqS ft fs _ => s.operandFgrs .S fs ++ s.operandFgrs .S ft
  | .cSeqD ft fs _ => s.operandFgrs .D fs ++ s.operandFgrs .D ft
  | .cNglS ft fs _ => s.operandFgrs .S fs ++ s.operandFgrs .S ft
  | .cNglD ft fs _ => s.operandFgrs .D fs ++ s.operandFgrs .D ft
  | .cLtS ft fs _ => s.operandFgrs .S fs ++ s.operandFgrs .S ft
  | .cLtD ft fs _ => s.operandFgrs .D fs ++ s.operandFgrs .D ft
  | .cNgeS ft fs _ => s.operandFgrs .S fs ++ s.operandFgrs .S ft
  | .cNgeD ft fs _ => s.operandFgrs .D fs ++ s.operandFgrs .D ft
  | .cLeS ft fs _ => s.operandFgrs .S fs ++ s.operandFgrs .S ft
  | .cLeD ft fs _ => s.operandFgrs .D fs ++ s.operandFgrs .D ft
  | .cNgtS ft fs _ => s.operandFgrs .S fs ++ s.operandFgrs .S ft
  | .cNgtD ft fs _ => s.operandFgrs .D fs ++ s.operandFgrs .D ft
  | .movfS _ _ _ => []
  | .movfD _ _ _ => []
  | .movtS _ _ _ => []
  | .movtD _ _ _ => []
  | .movzS _ _ _ => []
  | .movzD _ _ _ => []
  | .movnS _ _ _ => []
  | .movnD _ _ _ => []
  | .lwxc1 _ _ _ => []
  | .ldxc1 _ _ _ => []
  | .swxc1 _ _ _ => []
  | .sdxc1 _ _ _ => []
  | .prefx _ _ _ => []
  | .maddS _ _ _ _ => []
  | .maddD _ _ _ _ => []
  | .msubS _ _ _ _ => []
  | .msubD _ _ _ _ => []
  | .nmaddS _ _ _ _ => []
  | .nmaddD _ _ _ _ => []
  | .nmsubS _ _ _ _ => []
  | .nmsubD _ _ _ _ => []

/-- The coprocessor a MIPS I instruction needs before it reads anything (30_encoding.md R174). -/
def sourceUnit : Instr → Option (BitVec 2)
  | .lb _ _ _ => none
  | .lbu _ _ _ => none
  | .lh _ _ _ => none
  | .lhu _ _ _ => none
  | .lw _ _ _ => none
  | .lwu _ _ _ => none
  | .ld _ _ _ => none
  | .sb _ _ _ => none
  | .sh _ _ _ => none
  | .sw _ _ _ => none
  | .sd _ _ _ => none
  | .lwl _ _ _ => none
  | .lwr _ _ _ => none
  | .ldl _ _ _ => none
  | .ldr _ _ _ => none
  | .swl _ _ _ => none
  | .swr _ _ _ => none
  | .sdl _ _ _ => none
  | .sdr _ _ _ => none
  | .ll _ _ _ => none
  | .lld _ _ _ => none
  | .sc _ _ _ => none
  | .scd _ _ _ => none
  | .lwc2 _ _ _ => some 2
  | .swc2 _ _ _ => some 2
  | .ldc2 _ _ _ => none
  | .sdc2 _ _ _ => none
  | .pref _ _ _ => none
  | .addi _ _ _ => none
  | .addiu _ _ _ => none
  | .slti _ _ _ => none
  | .sltiu _ _ _ => none
  | .andi _ _ _ => none
  | .ori _ _ _ => none
  | .xori _ _ _ => none
  | .daddi _ _ _ => none
  | .daddiu _ _ _ => none
  | .lui _ _ => none
  | .beq _ _ _ => none
  | .bne _ _ _ => none
  | .beql _ _ _ => none
  | .bnel _ _ _ => none
  | .blez _ _ => none
  | .bgtz _ _ => none
  | .blezl _ _ => none
  | .bgtzl _ _ => none
  | .bltz _ _ => none
  | .bgez _ _ => none
  | .bltzl _ _ => none
  | .bgezl _ _ => none
  | .bltzal _ _ => none
  | .bgezal _ _ => none
  | .bltzall _ _ => none
  | .bgezall _ _ => none
  | .tgei _ _ => none
  | .tgeiu _ _ => none
  | .tlti _ _ => none
  | .tltiu _ _ => none
  | .teqi _ _ => none
  | .tnei _ _ => none
  | .j _ => none
  | .jal _ => none
  | .add _ _ _ => none
  | .addu _ _ _ => none
  | .sub _ _ _ => none
  | .subu _ _ _ => none
  | .and _ _ _ => none
  | .or _ _ _ => none
  | .xor _ _ _ => none
  | .nor _ _ _ => none
  | .slt _ _ _ => none
  | .sltu _ _ _ => none
  | .dadd _ _ _ => none
  | .daddu _ _ _ => none
  | .dsub _ _ _ => none
  | .dsubu _ _ _ => none
  | .sllv _ _ _ => none
  | .srlv _ _ _ => none
  | .srav _ _ _ => none
  | .dsllv _ _ _ => none
  | .dsrlv _ _ _ => none
  | .dsrav _ _ _ => none
  | .movz _ _ _ => none
  | .movn _ _ _ => none
  | .sll _ _ _ => none
  | .srl _ _ _ => none
  | .sra _ _ _ => none
  | .dsll _ _ _ => none
  | .dsrl _ _ _ => none
  | .dsra _ _ _ => none
  | .dsll32 _ _ _ => none
  | .dsrl32 _ _ _ => none
  | .dsra32 _ _ _ => none
  | .mult _ _ => none
  | .multu _ _ => none
  | .div _ _ => none
  | .divu _ _ => none
  | .dmult _ _ => none
  | .dmultu _ _ => none
  | .ddiv _ _ => none
  | .ddivu _ _ => none
  | .mfhi _ => none
  | .mflo _ => none
  | .mthi _ => none
  | .mtlo _ => none
  | .jr _ => none
  | .jalr _ _ => none
  | .syscall _ => none
  | .breakpoint _ => none
  | .sync _ => none
  | .tge _ _ _ => none
  | .tgeu _ _ _ => none
  | .tlt _ _ _ => none
  | .tltu _ _ _ => none
  | .teq _ _ _ => none
  | .tne _ _ _ => none
  | .movf _ _ _ => none
  | .movt _ _ _ => none
  | .cop0 _ => none
  | .cop2 _ => some 2
  | .lwc1 _ _ _ => some 1
  | .swc1 _ _ _ => some 1
  | .ldc1 _ _ _ => none
  | .sdc1 _ _ _ => none
  | .mfc1 _ _ => some 1
  | .dmfc1 _ _ => none
  | .cfc1 _ _ => some 1
  | .mtc1 _ _ => some 1
  | .dmtc1 _ _ => none
  | .ctc1 _ _ => some 1
  | .bc1f _ _ => some 1
  | .bc1t _ _ => some 1
  | .bc1fl _ _ => none
  | .bc1tl _ _ => none
  | .addS _ _ _ => some 1
  | .addD _ _ _ => some 1
  | .subS _ _ _ => some 1
  | .subD _ _ _ => some 1
  | .mulS _ _ _ => some 1
  | .mulD _ _ _ => some 1
  | .divS _ _ _ => some 1
  | .divD _ _ _ => some 1
  | .sqrtS _ _ => none
  | .sqrtD _ _ => none
  | .absS _ _ => some 1
  | .absD _ _ => some 1
  | .movS _ _ => some 1
  | .movD _ _ => some 1
  | .negS _ _ => some 1
  | .negD _ _ => some 1
  | .recipS _ _ => none
  | .recipD _ _ => none
  | .rsqrtS _ _ => none
  | .rsqrtD _ _ => none
  | .roundLS _ _ => none
  | .roundLD _ _ => none
  | .truncLS _ _ => none
  | .truncLD _ _ => none
  | .ceilLS _ _ => none
  | .ceilLD _ _ => none
  | .floorLS _ _ => none
  | .floorLD _ _ => none
  | .roundWS _ _ => none
  | .roundWD _ _ => none
  | .truncWS _ _ => none
  | .truncWD _ _ => none
  | .ceilWS _ _ => none
  | .ceilWD _ _ => none
  | .floorWS _ _ => none
  | .floorWD _ _ => none
  | .cvtSD _ _ => some 1
  | .cvtSW _ _ => some 1
  | .cvtSL _ _ => none
  | .cvtDS _ _ => some 1
  | .cvtDW _ _ => some 1
  | .cvtDL _ _ => none
  | .cvtWS _ _ => some 1
  | .cvtWD _ _ => some 1
  | .cvtLS _ _ => none
  | .cvtLD _ _ => none
  | .cFS _ _ _ => some 1
  | .cFD _ _ _ => some 1
  | .cUnS _ _ _ => some 1
  | .cUnD _ _ _ => some 1
  | .cEqS _ _ _ => some 1
  | .cEqD _ _ _ => some 1
  | .cUeqS _ _ _ => some 1
  | .cUeqD _ _ _ => some 1
  | .cOltS _ _ _ => some 1
  | .cOltD _ _ _ => some 1
  | .cUltS _ _ _ => some 1
  | .cUltD _ _ _ => some 1
  | .cOleS _ _ _ => some 1
  | .cOleD _ _ _ => some 1
  | .cUleS _ _ _ => some 1
  | .cUleD _ _ _ => some 1
  | .cSfS _ _ _ => some 1
  | .cSfD _ _ _ => some 1
  | .cNgleS _ _ _ => some 1
  | .cNgleD _ _ _ => some 1
  | .cSeqS _ _ _ => some 1
  | .cSeqD _ _ _ => some 1
  | .cNglS _ _ _ => some 1
  | .cNglD _ _ _ => some 1
  | .cLtS _ _ _ => some 1
  | .cLtD _ _ _ => some 1
  | .cNgeS _ _ _ => some 1
  | .cNgeD _ _ _ => some 1
  | .cLeS _ _ _ => some 1
  | .cLeD _ _ _ => some 1
  | .cNgtS _ _ _ => some 1
  | .cNgtD _ _ _ => some 1
  | .movfS _ _ _ => none
  | .movfD _ _ _ => none
  | .movtS _ _ _ => none
  | .movtD _ _ _ => none
  | .movzS _ _ _ => none
  | .movzD _ _ _ => none
  | .movnS _ _ _ => none
  | .movnD _ _ _ => none
  | .lwxc1 _ _ _ => none
  | .ldxc1 _ _ _ => none
  | .swxc1 _ _ _ => none
  | .sdxc1 _ _ _ => none
  | .prefx _ _ _ => none
  | .maddS _ _ _ _ => none
  | .maddD _ _ _ _ => none
  | .msubS _ _ _ _ => none
  | .msubD _ _ _ _ => none
  | .nmaddS _ _ _ _ => none
  | .nmaddD _ _ _ _ => none
  | .nmsubS _ _ _ _ => none
  | .nmsubD _ _ _ _ => none

/-- The registers of coprocessor 2 a MIPS I instruction reads as a store source (R821). What an operation of coprocessor 2
reads is the unit's own matter (notes/assumptions/37.md). -/
def cop2Sources : Instr → List Reg
  | .lb _ _ _ => []
  | .lbu _ _ _ => []
  | .lh _ _ _ => []
  | .lhu _ _ _ => []
  | .lw _ _ _ => []
  | .lwu _ _ _ => []
  | .ld _ _ _ => []
  | .sb _ _ _ => []
  | .sh _ _ _ => []
  | .sw _ _ _ => []
  | .sd _ _ _ => []
  | .lwl _ _ _ => []
  | .lwr _ _ _ => []
  | .ldl _ _ _ => []
  | .ldr _ _ _ => []
  | .swl _ _ _ => []
  | .swr _ _ _ => []
  | .sdl _ _ _ => []
  | .sdr _ _ _ => []
  | .ll _ _ _ => []
  | .lld _ _ _ => []
  | .sc _ _ _ => []
  | .scd _ _ _ => []
  | .lwc2 _ _ _ => []
  | .swc2 _ rt _ => [rt]
  | .ldc2 _ _ _ => []
  | .sdc2 _ _ _ => []
  | .pref _ _ _ => []
  | .addi _ _ _ => []
  | .addiu _ _ _ => []
  | .slti _ _ _ => []
  | .sltiu _ _ _ => []
  | .andi _ _ _ => []
  | .ori _ _ _ => []
  | .xori _ _ _ => []
  | .daddi _ _ _ => []
  | .daddiu _ _ _ => []
  | .lui _ _ => []
  | .beq _ _ _ => []
  | .bne _ _ _ => []
  | .beql _ _ _ => []
  | .bnel _ _ _ => []
  | .blez _ _ => []
  | .bgtz _ _ => []
  | .blezl _ _ => []
  | .bgtzl _ _ => []
  | .bltz _ _ => []
  | .bgez _ _ => []
  | .bltzl _ _ => []
  | .bgezl _ _ => []
  | .bltzal _ _ => []
  | .bgezal _ _ => []
  | .bltzall _ _ => []
  | .bgezall _ _ => []
  | .tgei _ _ => []
  | .tgeiu _ _ => []
  | .tlti _ _ => []
  | .tltiu _ _ => []
  | .teqi _ _ => []
  | .tnei _ _ => []
  | .j _ => []
  | .jal _ => []
  | .add _ _ _ => []
  | .addu _ _ _ => []
  | .sub _ _ _ => []
  | .subu _ _ _ => []
  | .and _ _ _ => []
  | .or _ _ _ => []
  | .xor _ _ _ => []
  | .nor _ _ _ => []
  | .slt _ _ _ => []
  | .sltu _ _ _ => []
  | .dadd _ _ _ => []
  | .daddu _ _ _ => []
  | .dsub _ _ _ => []
  | .dsubu _ _ _ => []
  | .sllv _ _ _ => []
  | .srlv _ _ _ => []
  | .srav _ _ _ => []
  | .dsllv _ _ _ => []
  | .dsrlv _ _ _ => []
  | .dsrav _ _ _ => []
  | .movz _ _ _ => []
  | .movn _ _ _ => []
  | .sll _ _ _ => []
  | .srl _ _ _ => []
  | .sra _ _ _ => []
  | .dsll _ _ _ => []
  | .dsrl _ _ _ => []
  | .dsra _ _ _ => []
  | .dsll32 _ _ _ => []
  | .dsrl32 _ _ _ => []
  | .dsra32 _ _ _ => []
  | .mult _ _ => []
  | .multu _ _ => []
  | .div _ _ => []
  | .divu _ _ => []
  | .dmult _ _ => []
  | .dmultu _ _ => []
  | .ddiv _ _ => []
  | .ddivu _ _ => []
  | .mfhi _ => []
  | .mflo _ => []
  | .mthi _ => []
  | .mtlo _ => []
  | .jr _ => []
  | .jalr _ _ => []
  | .syscall _ => []
  | .breakpoint _ => []
  | .sync _ => []
  | .tge _ _ _ => []
  | .tgeu _ _ _ => []
  | .tlt _ _ _ => []
  | .tltu _ _ _ => []
  | .teq _ _ _ => []
  | .tne _ _ _ => []
  | .movf _ _ _ => []
  | .movt _ _ _ => []
  | .cop0 _ => []
  | .cop2 _ => []
  | .lwc1 _ _ _ => []
  | .swc1 _ _ _ => []
  | .ldc1 _ _ _ => []
  | .sdc1 _ _ _ => []
  | .mfc1 _ _ => []
  | .dmfc1 _ _ => []
  | .cfc1 _ _ => []
  | .mtc1 _ _ => []
  | .dmtc1 _ _ => []
  | .ctc1 _ _ => []
  | .bc1f _ _ => []
  | .bc1t _ _ => []
  | .bc1fl _ _ => []
  | .bc1tl _ _ => []
  | .addS _ _ _ => []
  | .addD _ _ _ => []
  | .subS _ _ _ => []
  | .subD _ _ _ => []
  | .mulS _ _ _ => []
  | .mulD _ _ _ => []
  | .divS _ _ _ => []
  | .divD _ _ _ => []
  | .sqrtS _ _ => []
  | .sqrtD _ _ => []
  | .absS _ _ => []
  | .absD _ _ => []
  | .movS _ _ => []
  | .movD _ _ => []
  | .negS _ _ => []
  | .negD _ _ => []
  | .recipS _ _ => []
  | .recipD _ _ => []
  | .rsqrtS _ _ => []
  | .rsqrtD _ _ => []
  | .roundLS _ _ => []
  | .roundLD _ _ => []
  | .truncLS _ _ => []
  | .truncLD _ _ => []
  | .ceilLS _ _ => []
  | .ceilLD _ _ => []
  | .floorLS _ _ => []
  | .floorLD _ _ => []
  | .roundWS _ _ => []
  | .roundWD _ _ => []
  | .truncWS _ _ => []
  | .truncWD _ _ => []
  | .ceilWS _ _ => []
  | .ceilWD _ _ => []
  | .floorWS _ _ => []
  | .floorWD _ _ => []
  | .cvtSD _ _ => []
  | .cvtSW _ _ => []
  | .cvtSL _ _ => []
  | .cvtDS _ _ => []
  | .cvtDW _ _ => []
  | .cvtDL _ _ => []
  | .cvtWS _ _ => []
  | .cvtWD _ _ => []
  | .cvtLS _ _ => []
  | .cvtLD _ _ => []
  | .cFS _ _ _ => []
  | .cFD _ _ _ => []
  | .cUnS _ _ _ => []
  | .cUnD _ _ _ => []
  | .cEqS _ _ _ => []
  | .cEqD _ _ _ => []
  | .cUeqS _ _ _ => []
  | .cUeqD _ _ _ => []
  | .cOltS _ _ _ => []
  | .cOltD _ _ _ => []
  | .cUltS _ _ _ => []
  | .cUltD _ _ _ => []
  | .cOleS _ _ _ => []
  | .cOleD _ _ _ => []
  | .cUleS _ _ _ => []
  | .cUleD _ _ _ => []
  | .cSfS _ _ _ => []
  | .cSfD _ _ _ => []
  | .cNgleS _ _ _ => []
  | .cNgleD _ _ _ => []
  | .cSeqS _ _ _ => []
  | .cSeqD _ _ _ => []
  | .cNglS _ _ _ => []
  | .cNglD _ _ _ => []
  | .cLtS _ _ _ => []
  | .cLtD _ _ _ => []
  | .cNgeS _ _ _ => []
  | .cNgeD _ _ _ => []
  | .cLeS _ _ _ => []
  | .cLeD _ _ _ => []
  | .cNgtS _ _ _ => []
  | .cNgtD _ _ _ => []
  | .movfS _ _ _ => []
  | .movfD _ _ _ => []
  | .movtS _ _ _ => []
  | .movtD _ _ _ => []
  | .movzS _ _ _ => []
  | .movzD _ _ _ => []
  | .movnS _ _ _ => []
  | .movnD _ _ _ => []
  | .lwxc1 _ _ _ => []
  | .ldxc1 _ _ _ => []
  | .swxc1 _ _ _ => []
  | .sdxc1 _ _ _ => []
  | .prefx _ _ _ => []
  | .maddS _ _ _ _ => []
  | .maddD _ _ _ _ => []
  | .msubS _ _ _ _ => []
  | .msubD _ _ _ _ => []
  | .nmaddS _ _ _ _ => []
  | .nmaddD _ _ _ _ => []
  | .nmsubS _ _ _ _ => []
  | .nmsubD _ _ _ _ => []

/-- The load delay rules for the instruction after a load at level I; `none` when it keeps them. -/
def State.loadDelayBroken (s : State) (i : Instr) : Option Refusal :=
  if s.env.archLevel = 1 && (match sourceUnit i with | some z => s.usable z | none => true) then
    if (match s.hazards.loadGpr with | some r => (gprSources i).contains r && !mergesInto r i | none => false) then
      some .loadDelay
    else if (match s.hazards.loadFpr with | some n => (s.fgrSources i).contains n | none => false) then
      some .fpLoadDelay
    else if (match s.hazards.loadCop2 with | some n => (cop2Sources i).contains n | none => false) then
      some .cop2LoadDelay
    else none
  else none

end Sys2Proof.Machine
end

