-- ==== Sys2Proof/Machine/Fetch.lean ====
section
/-! DEFINITION. What a step needs around a meaning: the instruction fetch, the events of the environment at an instruction
boundary, the end of a run (spec/20_memory.md R118, R138; spec/40_cpu_load_store.md R230 to R232; spec/60_exceptions.md
R711, R718, R722, R724, R725; spec/70_reset_and_hazards.md R803, R804). -/

namespace Sys2Proof.Machine

/-! ### Instruction fetch -/

/-- The physical bytes of the word at `pc` (20_memory.md R118). -/
def fetchPlaces (pa : Nat) : List Nat := [pa, pa + 1, pa + 2, pa + 3]

/-- The four bytes of the word at `pc`, or the exception of its fetch: alignment, then translation, then Bus Error (R118,
60_exceptions.md R718). -/
def State.fetchBytes (s : State) : Except Cause (List Byte) :=
  if s.pc.toNat % 4 ≠ 0 then .error (.addressError .fetch s.pc)
  else
    match s.translate .fetch s.pc with
    | .error c => .error c
    | .ok (pa, _) =>
      if s.busHits .fetch (fetchPlaces pa) then .error (.busError .fetch s.pc)
      else .ok ((fetchPlaces pa).map (memRead s.mem))

/-- The bytes of the word `w` stored where the fetch reads them. -/
def State.placeWord (s : State) (w : Word) : State :=
  match s.translate .fetch s.pc with
  | .error _ => s
  | .ok (pa, _) => { s with mem := memWriteAll s.mem ((fetchPlaces pa).zip (bytesOfWord s.env.bigEndianMem w)) }

/-- Has the run reached `EndPC` (70_reset_and_hazards.md R803 (b))? -/
def State.atEnd (s : State) : Bool := s.delay == .none && s.env.endPC == some s.pc

/-! ### Events -/

/-- The block of `LLBlockSize` bytes that holds a physical address (40_cpu_load_store.md R232). -/
def State.llBlock (s : State) (pa : Nat) : Nat := pa / s.env.llBlockSize

/-- Does a store to `pa` by another agent hit the linked block? -/
def State.hitsLink (s : State) (pa : Nat) : Bool :=
  match s.llRecord with
  | some r => s.llBlock pa == s.llBlock r.paddr
  | none => false

/-- Another agent stores a byte; a hit in the linked block clears LLbit (20_memory.md R138, 40_cpu_load_store.md R230). -/
def State.externalStore (s : State) (pa : Nat) (b : Byte) : State :=
  { s with
    mem := memWrite s.mem (pa % 2 ^ s.env.psize) b
    llbit := s.llbit && !s.hitsLink (pa % 2 ^ s.env.psize) }

/-- A pending imprecise floating-point trap is taken at this boundary (60_exceptions.md R722). -/
def State.deliverFpTrap (s : State) : State :=
  if s.pendingFpTrap then { s with pendingFpTrap := false }.raise (.floatingPoint (causeOf s.fcsr)) else s

/-- In a handler, some exception has been entered and not returned from. -/
def State.inHandler (s : State) : Bool := s.saved != []

/-- What one event does. -/
def State.deliver (s : State) : EnvEvent → State
  | .idle => s
  | .clearLink => { s with llbit := false }
  | .externalStore pa b => s.externalStore pa b
  | .interrupt => s.raise .interrupt
  | .fpTrap => s.deliverFpTrap
  | .excReturn => s.excReturn
  | .excReturnTo pc => s.returnTo pc
  | .selectFR fr => if s.inHandler then s.selectModel fr else s
  | .changeTypes => if s.inHandler then { s with typed := [] } else s

/-! ### The environment's own handler -/

/-- A delayed branch with its target as a value of GPRLEN bits. -/
def State.normDelay (s : State) : Delay → Delay
  | .target t => .target (s.norm t)
  | d => d

/-- Is a taken branch pending? -/
def Delay.isTarget : Delay → Bool
  | .target _ => true
  | .none | .nullify => false

/-- A value of the environment as a state of this machine: its parameters, its coming events and the counter of free values
stay, register 0 is zero, registers hold values of GPRLEN bits, the FCSR the bits it has, memory its canonical form, a
pending branch follows a branch, and MIPS IV has no tracker. LLbit is clear, and an LL that was executed stays recorded: no
handler lets an SC after the exception succeed (40_cpu_load_store.md R230, R231; 10_state.md R57). -/
def State.legalise (s t : State) : State :=
  { t with
    env := s.env
    agenda := s.agenda
    free := s.free + 1
    gpr := regSet (t.gpr.map s.norm) 0 0
    hi := s.norm t.hi
    lo := s.norm t.lo
    pc := s.norm t.pc
    delay := s.normDelay t.delay
    afterBranch := t.afterBranch || t.delay.isTarget
    llbit := false
    llRecord := if t.llRecord.isNone then s.llRecord else t.llRecord
    hazards := if 4 ≤ s.env.archLevel then Hazards.empty else t.hazards
    fcsr := t.fcsr &&& s.fcsrMask
    mem := memWriteAll [] t.mem
    trapped := false
    ended := false }

/-- `TrapEntry` as a function of the environment (60_exceptions.md R724): the state it answers for the exception that was
raised, or the end of the run. -/
def State.runHandler (s : State) : State :=
  match s.exc with
  | some e =>
    match Config.trapEntry e s with
    | some t => s.legalise t
    | none => { s with trapped := false, ended := true }
  | none => { s with trapped := false }

/-! ### One instruction -/

/-- Execute the word at `pc`: the exceptions of the fetch, then of the decode, then the instruction (60_exceptions.md R718).
Fetch takes the byte order of memory, whatever the mode (20_memory.md R118). `run` is the meaning of an instruction. -/
def State.runWord (s : State) (run : Instr → State → Out) : Out :=
  s.orRaise s.fetchBytes fun bs =>
    match decodeBytes s.env.bigEndianMem bs with
    | .error r => s.rejected r
    | .ok (i, _) =>
      match s.loadDelayBroken i with
      | some r => .refused r
      | none => run i s

/-- The step over a nullified slot: its instruction is not executed, and is no instruction to the trackers (10_state.md
R54, 43_cpu_muldiv.md R338). -/
def State.skipSlot (s : State) : State := { s with pc := s.pcPlus4, delay := .none }

end Sys2Proof.Machine
end

