-- ==== Sys2Proof/Machine/Step.lean ====
section
/-! DEFINITION. One step of the machine, and how a word is placed where the next step fetches it
(spec/10_state.md R54, spec/60_exceptions.md R718, spec/70_reset_and_hazards.md R803). -/

namespace Sys2Proof.Machine

/-- The instruction step: the end of the run at EndPC, or the instruction at `pc`. -/
def State.instrStep (s : State) : Out := if s.atEnd then .fault .runEnded else s.runWord exec

/-- One step. After an exception the environment's own handler, if it has one, answers; a nullified slot is passed over; at
every other boundary the environment's next event, if it has one other than `idle`, is delivered, else an instruction
executes. -/
def step (s : State) : Host.Outcome State Fault Refusal :=
  if s.ended then .fault .runEnded
  else if s.trapped then .next s.runHandler
  else if s.delay = .nullify then .next s.skipSlot
  else
    match s.agenda with
    | [] => s.instrStep
    | .idle :: rest => { s with agenda := rest }.instrStep
    | e :: rest => .next ({ s with agenda := rest }.deliver e)

/-- The state whose next step runs the word `w` (its low `nbits` bits; the rest are 0): a plain environment, no event, and
the word in memory at `pc` (notes/assumptions/22.md). -/
def State.withFetchWord (s : State) (nbits w : Nat) : State :=
  State.placeWord { s with
    ended := false
    trapped := false
    agenda := []
    pc := s.pc &&& ~~~3#64
    delay := if s.delay = .nullify then .none else s.delay
    env := { s.env with endPC := none, xlat := [], xlatElse := none, busErrors := [] } }
    (BitVec.ofNat 32 (w % 2 ^ nbits))

end Sys2Proof.Machine
end

