-- ==== Sys2Proof/Safety.lean ====
section
/-! DEFINITION. The terms the claims are stated in: what an execution leaves unchanged, how an instruction ends, and the
invariants a sound run keeps. -/

namespace Sys2Proof.Machine

/-! ### Frames -/

/-- A piece of state that an instruction may write. -/
inductive Part where
  | gpr (r : Reg)
  | hi
  | lo
  /-- HiLoPending. -/
  | pendingHiLo
  /-- LLbit and the linked record. -/
  | link
  /-- Bits 31..0 of an FGR. -/
  | fgrLo (r : Reg)
  /-- Bits 63..32 of an FGR. -/
  | fgrHi (r : Reg)
  /-- The format state of an FPR. -/
  | tag (r : Reg)
  | fcr0
  | fcsr
  /-- PendingFpTrap. -/
  | fpTrap
  /-- A general register of coprocessor 2. -/
  | cop2 (r : Reg)
  /-- All registers of coprocessor 2 and its condition signal. -/
  | cop2Unit
  /-- A byte of physical memory. -/
  | byte (a : Nat)
  deriving DecidableEq, Repr

/-- From `s` to `t` nothing changed but the parts `w`, the program counter with its delayed branch, the trackers, the record
of access types and the model's counter of free values. -/
structure Frame (s t : State) (w : List Part) : Prop where
  gpr : ∀ r, Part.gpr r ∉ w → regGet t.gpr r = regGet s.gpr r
  hi : Part.hi ∉ w → t.hi = s.hi
  lo : Part.lo ∉ w → t.lo = s.lo
  pendingHiLo : Part.pendingHiLo ∉ w → t.hiLoPending = s.hiLoPending
  link : Part.link ∉ w → t.llbit = s.llbit ∧ t.llRecord = s.llRecord
  fgrLo : ∀ r, Part.fgrLo r ∉ w → regGet t.fgrLo r = regGet s.fgrLo r
  fgrHi : ∀ r, Part.fgrHi r ∉ w → regGet t.fgrHi r = regGet s.fgrHi r
  tag : ∀ r, Part.tag r ∉ w → regGet t.fprTag r = regGet s.fprTag r
  fcr0 : Part.fcr0 ∉ w → t.fcr0 = s.fcr0
  fcsr : Part.fcsr ∉ w → t.fcsr = s.fcsr
  fpTrap : Part.fpTrap ∉ w → t.pendingFpTrap = s.pendingFpTrap
  cop2 : ∀ r, Part.cop2 r ∉ w → Part.cop2Unit ∉ w → regGet t.cop2Gen r = regGet s.cop2Gen r
  byte : ∀ a, Part.byte a ∉ w → memRead t.mem a = memRead s.mem a
  cop2Ctl : Part.cop2Unit ∉ w → t.cop2Ctl = s.cop2Ctl ∧ t.coc2 = s.coc2
  cocs : t.coc0 = s.coc0 ∧ t.coc3 = s.coc3
  exc : t.exc = s.exc ∧ t.saved = s.saved ∧ t.trapped = s.trapped ∧ t.ended = s.ended
  mode : t.mode = s.mode ∧ t.cu = s.cu ∧ t.statusFR = s.statusFR
  env : t.env = s.env ∧ t.agenda = s.agenda

/-- From `s` to `t` an instruction that is no branch was executed: the program counter is at the pending target, or at the
next word, nothing is pending, and RecentMF has moved on (10_state.md R54, 43_cpu_muldiv.md R338). -/
structure Advanced (s t : State) : Prop where
  pc : t.pc = s.nextPc
  delay : t.delay = .none
  afterBranch : t.afterBranch = false
  recentMF : t.recentMF.before = s.recentMF.last

/-- The outcome is a next state in which only the parts `w` were written, and of which `post` holds. -/
def Completes (s : State) (out : Out) (w : List Part) (post : State → Prop) : Prop :=
  ∃ t, out = .next t ∧ Frame s t w ∧ Advanced s t ∧ post t

/-- The outcome writes `v` (as a value of GPRLEN bits) to general register `r`, nothing to register 0, and nothing else. -/
def WritesGpr (s : State) (out : Out) (r : Reg) (v : Dword) : Prop :=
  Completes s out [.gpr r] fun t => regGet t.gpr r = if r = 0 then regGet s.gpr 0 else s.norm v

/-- The outcome writes to general register `r` the result `v` of an instruction that reads the general registers `srcs`, or
any value when one of them is the register that a move from the FPU below level IV has just written
(70_reset_and_hazards.md R824). -/
def WritesResult (s : State) (out : Out) (srcs : List Reg) (r : Reg) (v : Dword) : Prop :=
  ∃ w, (s.movedGpr srcs = false → w = v) ∧ WritesGpr s out r w

/-- The outcome is the exception `c`, with the effect of 60_exceptions.md R720. -/
def Raises (s : State) (out : Out) (c : Cause) : Prop := out = .next (s.raise c)

/-- An instruction of MIPS `n` that is no coprocessor instruction: Reserved Instruction below that level, else `p`
(30_encoding.md R172). -/
def Leveled (s : State) (n : Nat) (out : Out) (p : Prop) : Prop :=
  (s.env.archLevel < n → Raises s out .reservedInstruction) ∧ (n ≤ s.env.archLevel → p)

/-- A coprocessor 1 instruction of MIPS `n`: Coprocessor Unusable, or the exception of a reserved FPU encoding below that
level, else `p` (30_encoding.md R172, R174, R186). -/
def FpLeveled (s : State) (n : Nat) (out : Out) (p : Prop) : Prop :=
  (s.usable 1 = false → Raises s out (.coprocessorUnusable 1)) ∧
  (s.usable 1 = true → s.env.archLevel < n → out = .next s.raiseReservedFpu) ∧
  (s.usable 1 = true → n ≤ s.env.archLevel → p)

/-- An instruction of the COP1X class: MIPS IV, then coprocessor 1 (30_encoding.md R173, R174). -/
def Cop1xLeveled (s : State) (out : Out) (p : Prop) : Prop :=
  4 ≤ s.env.archLevel → (s.usable 1 = false → Raises s out (.coprocessorUnusable 1)) ∧ (s.usable 1 = true → p)

/-- The outcome of a branch or jump to `target`: the slot is next; after it the target, when the branch is taken; a likely
branch that is not taken nullifies the slot (10_state.md R54, 44_cpu_jump_branch.md R361). -/
def Branches (s : State) (out : Out) (w : List Part) (taken likely : Bool) (target : Dword) (post : State → Prop) : Prop :=
  ∃ t, out = .next t ∧ Frame s t w ∧ t.pc = s.pcPlus4 ∧
    t.delay = (if taken then .target target else if likely then .nullify else .none) ∧
    t.afterBranch = (taken || !likely) ∧ post t

/-! ### The FPU -/

/-- The parts of an FPR: its FGR, or the even and odd one of its pair (10_state.md R62 to R65). -/
def State.fprParts (s : State) (n : Reg) : List Part :=
  if s.fgr64 then [.fgrLo n, .fgrHi n, .tag n] else [.fgrLo (evenOf n), .fgrLo (oddOf n), .tag (evenOf n)]

/-- The 64 bits that FPR `n` holds, whatever an instruction in a move delay would read. -/
def State.rawPair (s : State) (n : Reg) : Dword :=
  if s.fgr64 then regGet s.fgrHi n ++ regGet s.fgrLo n else regGet s.fgrLo (oddOf n) ++ regGet s.fgrLo (evenOf n)

/-- The parts that a word moved or loaded into an FGR writes. -/
def State.wordParts (s : State) (n : Reg) : List Part :=
  if s.fgr64 then [.fgrLo n, .fgrHi n, .tag n] else [.fgrLo n, .tag (evenOf n)]

/-- The parts of a destination of arithmetic. -/
def State.destParts (s : State) : FpDest → List Part
  | .fpr n _ => .fcsr :: s.fprParts n
  | .cond _ => [.fcsr]

/-- The format states that reading operands settles (46_fpu_model.md R523). -/
def State.sourceTags (s : State) (srcs : List Reg) : List Part := srcs.map fun n => .tag (s.tagReg n)

/-- An arithmetic instruction has its operands `vs`: every register names an FPR, every operand is readable in the format,
and the operation is implemented for them. -/
structure State.FpReady (s : State) (i : Instr) (fmt : FpFmt) (srcs dst : List Reg) (vs : List Dword) : Prop where
  named : s.badFpr (srcs ++ dst) = false
  values : (s.readFprs fmt srcs).1 = some vs
  implemented : s.fpUnimplemented i fmt vs = false

/-- In `t` the destination holds the bits delivered, and the FCSR of before has this cause field and these flags. -/
def Delivered (s t : State) (d : FpDest) (bits : Dword) (cause : BitVec 6) (flags : BitVec 5) : Prop :=
  let f := withCause (withFlags s.fcsr flags) cause
  match d with
  | .fpr n fmt =>
    t.fcsr = f ∧ t.tagOf n = .value fmt ∧ t.fprBits n fmt = if isWordFmt fmt then zextWord (lowWord bits) else bits
  | .cond cc => t.fcsr = withFcc f cc (bits.getLsbD 0)

/-- The outcome is Unimplemented Operation alone, registers and memory untouched: the cause field of the FCSR holds E alone,
but any value right after a CTC1 below level IV (46_fpu_model.md R541, 70_reset_and_hazards.md R827). That the exception
names E after a CTC1 too is the model's choice (notes/assumptions/37.md). -/
def Unimplemented (s : State) (out : Out) : Prop :=
  ∃ cause, (s.hazards.ctc = false → cause = 0b100000#6) ∧
    out = .next (State.raise { s with fcsr := withCause s.fcsr cause } (.floatingPoint 0b100000#6))

/-- An arithmetic instruction whose conditions and result `compute` gives from the FCSR that it sees (46_fpu_model.md R531 to
R533, R541): the FCSR, but an arbitrary `f` right after a CTC1 below level IV; the cause field and the flags it leaves are
then arbitrary too (70_reset_and_hazards.md R827). A denormalized result that the implementation leaves to software raises
Unimplemented Operation. In precise mode the instruction completes, its conditions in the cause field and added to the
flags, or, when a condition is enabled, raises Floating Point with those conditions, also in the cause field, its flags and
destination untouched; that the exception names them after a CTC1 too is the model's choice (notes/assumptions/37.md). In
imprecise mode it completes, its cause field without meaning, and an enabled condition makes a trap pending; `pageV` marks
the instructions whose Invalid Operation then sets no flag. The result is that of `compute`, but any `bits` when one of
the sources, of format `fmt`, was moved to just before below level IV (70_reset_and_hazards.md R825); that the conditions
are those of the operands read even then is the model's choice (notes/assumptions/37.md). -/
def FpResult (s : State) (out : Out) (fmt : FpFmt) (srcs : List Reg) (d : FpDest) (pageV : Bool)
    (compute : Word → Rounded) : Prop :=
  ∃ (f : Word) (bits : Dword), (s.hazards.ctc = false → f = s.fcsr) ∧
  (srcs.any (s.movedFpr fmt) = false → bits = (compute f).bits) ∧
  let r := compute f
  if s.env.fpUnimpDenormResult && !fsOf f && destDenorm d bits then Unimplemented s out
  else match s.env.fpMode with
    | .precise =>
      (r.conds &&& enablesOf f = 0 →
        Completes s out (s.destParts d ++ s.sourceTags srcs) fun t =>
          ∃ cause flags, (s.hazards.ctc = false → cause = r.conds.setWidth 6 ∧ flags = flagsOf s.fcsr ||| r.conds) ∧
            Delivered s t d bits cause flags) ∧
      (r.conds &&& enablesOf f ≠ 0 →
        ∃ cause, (s.hazards.ctc = false → cause = r.conds.setWidth 6) ∧
          out = .next (State.raise { s with fcsr := withCause s.fcsr cause } (.floatingPoint (r.conds.setWidth 6))))
    | .imprecise =>
      Completes s out (.fpTrap :: s.destParts d ++ s.sourceTags srcs) fun t =>
        t.pendingFpTrap = (s.pendingFpTrap || decide (r.conds &&& enablesOf f ≠ 0)) ∧
        ∃ cause flags, (s.hazards.ctc = false →
            flags = flagsOf s.fcsr ||| (if pageV then r.conds &&& ~~~condV else r.conds)) ∧
          Delivered s t d bits cause flags

/-- The outcome is a next state with an undefined result: a destination register is unknown, and in the FCSR only the cause
field, the flags and the condition code written may differ (46_fpu_model.md R511, R523). -/
def FpUndefined (s : State) (out : Out) (w : List Part) (d : FpDest) : Prop :=
  Completes s out (s.destParts d ++ w) fun t =>
    ∃ cause flags, match d with
      | .fpr n _ => t.tagOf n = .unknown ∧ t.fcsr = withFlags (withCause s.fcsr cause) flags
      | .cond cc => ∃ b, t.fcsr = withFcc (withFlags (withCause s.fcsr cause) flags) cc b

/-- The outcome of an instruction with an operand that is unknown or of another format: an undefined result, or a Floating
Point trap, at once in precise mode with any cause; in imprecise mode only Unimplemented Operation is taken at once, and
another may be left pending (46_fpu_model.md R523, R533; 93_implementation_defined.md U66; 92_eei_decisions.md D31). Whether
a trap is taken the spec leaves open; which one it may be is the model's choice (notes/assumptions/39.md). -/
def FpUnreadable (s : State) (out : Out) (w : List Part) (d : FpDest) : Prop :=
  FpUndefined s out (.fpTrap :: w) d ∨
    (s.env.fpMode = .precise ∧ ∃ cause,
      out = .next (State.raise { s with fcsr := withCause s.fcsr cause } (.floatingPoint cause))) ∨
    (s.env.fpMode = .imprecise ∧ Unimplemented s out)

/-- What an arithmetic instruction does without operands or implementation. A register that names no FPR leaves the result
undefined, without an exception (46_fpu_model.md R511); that the format states of the other sources are then unchanged is
the model's choice (notes/assumptions/38.md). An operand that is unknown or of another format does so too, or ends in a
Floating Point trap (`FpUnreadable`). An operation that is not implemented for its operands raises Unimplemented Operation
alone (R541). -/
structure FpAside (s : State) (out : Out) (i : Instr) (fmt : FpFmt) (srcs : List Reg) (d : FpDest) : Prop where
  misnamed : s.badFpr (srcs ++ d.regs) = true → FpUndefined s out [] d
  unreadable : s.badFpr (srcs ++ d.regs) = false → (s.readFprs fmt srcs).1 = none →
    FpUnreadable s out (srcs.flatMap s.fprParts) d
  unimplemented : ∀ ws, s.badFpr (srcs ++ d.regs) = false → (s.readFprs fmt srcs).1 = some ws →
    s.fpUnimplemented i fmt ws = true → Unimplemented s out

/-- The rational number that a finite value is. -/
def FpVal.toRat : FpVal → ℚ
  | .num neg m e => (if neg then -(m : ℚ) else (m : ℚ)) * (2 : ℚ) ^ e
  | _ => 0

/-- Is it a number or a zero? -/
def FpVal.finite : FpVal → Bool
  | .num _ _ _ | .zero _ => true
  | _ => false

/-! ### Rounding an exact result once -/

/-- `r` is the number `x` rounded in the mode to a multiple of `u` (10_state.md R71): to the nearest, of two to the even
one; toward zero; up; or down. For `u` > 0 there is exactly one. -/
def RoundsTo (mode : BitVec 2) (u x r : ℝ) : Prop :=
  (∃ k : ℤ, r = k * u) ∧ |r - x| < u ∧
  (mode = 0 → |r - x| ≤ u / 2 ∧ (|r - x| = u / 2 → ∃ k : ℤ, r = 2 * k * u)) ∧
  (mode = 1 → |r| ≤ |x|) ∧ (mode = 2 → x ≤ r) ∧ (mode = 3 → r ≤ x)

/-- The pattern has the sign, and it is the number `v`. -/
def FpIs (fmt : FpFmt) (b : Dword) (neg : Bool) (v : ℝ) : Prop :=
  (fpVal fmt b).finite = true ∧ signField fmt b = neg ∧ ((fpVal fmt b).toRat : ℝ) = v

/-- What overflow delivers (Table B-4, 46_fpu_model.md R537): infinity of the sign to nearest and away from zero on that
side, else the largest finite number of the sign. -/
def OverflowDelivers (fmt : FpFmt) (mode : BitVec 2) (neg : Bool) (b : Dword) : Prop :=
  if mode = 0 ∨ (mode = 2 ∧ neg = false) ∨ (mode = 3 ∧ neg = true) then fpVal fmt b = .inf neg
  else FpIs fmt b neg ((if neg then -1 else 1) * (2 - 2 ^ (1 - precOf fmt : ℤ)) * 2 ^ (emaxOf fmt : ℤ))

/-- The outcome of a tiny result whose denormalized rounding is `d` (46_fpu_model.md R542, R543): with FS a nonzero
denormalized one becomes a zero of its sign; Underflow arises when precision is lost or it is enabled. -/
def TinyDelivers (fmt : FpFmt) (f : Word) (neg : Bool) (x d : ℝ) (o : Rounded) : Prop :=
  (fsOf f = true ∧ d ≠ 0 ∧ |d| < 2 ^ eminOf fmt → FpIs fmt o.bits neg 0 ∧ o.conds = condU ||| condI) ∧
  (¬ (fsOf f = true ∧ d ≠ 0 ∧ |d| < 2 ^ eminOf fmt) → FpIs fmt o.bits neg d ∧
    (d ≠ x → o.conds = condU ||| condI) ∧ (d = x → o.conds = enablesOf f &&& condU))

/-- `o` is the nonzero number `x` rounded once to the format (46_fpu_model.md R514, R537 to R546): `r` is `x` rounded to p
bits with no bound on the exponent. A number whose `r` is in range is delivered as `r`, Inexact when it differs; one too
large by the overflow defaults; one too small as `x` rounded to the spacing of the denormalized numbers. -/
def RoundedOnce (fmt : FpFmt) (f : Word) (neg : Bool) (x : ℝ) (o : Rounded) : Prop :=
  (neg = true ↔ x < 0) ∧
  ∃ (e : ℤ) (r : ℝ), 2 ^ e ≤ |x| ∧ |x| < 2 ^ (e + 1) ∧ RoundsTo (rmOf f) (2 ^ (e + 1 - precOf fmt)) x r ∧
    (2 ^ (emaxOf fmt + 1 : ℤ) ≤ |r| → OverflowDelivers fmt (rmOf f) neg o.bits ∧
      (enablesOf f &&& condO = 0 ∨ r ≠ x → o.conds = condO ||| condI) ∧
      (enablesOf f &&& condO ≠ 0 → r = x → o.conds = condO)) ∧
    (|r| < 2 ^ eminOf fmt →
      ∃ d, RoundsTo (rmOf f) (2 ^ (eminOf fmt + 1 - precOf fmt)) x d ∧ TinyDelivers fmt f neg x d o) ∧
    (2 ^ eminOf fmt ≤ |r| → |r| < 2 ^ (emaxOf fmt + 1 : ℤ) →
      FpIs fmt o.bits neg r ∧ (r = x → o.conds = 0) ∧ (r ≠ x → o.conds = condI))

/-- The exponent of the unit in the last place of a finite pattern. -/
def ulpExp (fmt : FpFmt) (b : Dword) : ℤ :=
  match fpVal fmt b with
  | .num _ _ e => e
  | _ => eminOf fmt + 1 - precOf fmt

/-! ### Conditions under which an instruction runs -/

/-- The access of `n` bytes from `back` bytes before `a` on goes through: `ps` are its physical bytes. -/
def State.Reaches (s : State) (k : AccessKind) (a : Dword) (back n : Nat) (ps : List Nat) : Prop :=
  ∃ l, s.dataBytes k a back n = .ok l ∧ l.map Prod.fst = ps

/-- The outcome is what stops the access: its exception, or the refusal. -/
def State.Stops (s : State) (out : Out) (k : AccessKind) (a : Dword) (back n : Nat) : Prop :=
  ∀ e, s.dataBytes k a back n = .error e →
    out = match e with | .raised c => .next (s.raise c) | .refused r => .refused r

/-- Base plus offset names an object of 2^n bytes: Address Error when it is not aligned; then the refusal of low offset bits
at MIPS IV; then what stops its access (20_memory.md R105, R106, R111). -/
def State.Guarded (s : State) (out : Out) (k : AccessKind) (n : Nat) (base : Reg) (offset : BitVec 16) : Prop :=
  let a := s.effAddr base offset
  (a.toNat % 2 ^ n ≠ 0 → Raises s out (.addressError k a)) ∧
  (a.toNat % 2 ^ n = 0 → 4 ≤ s.env.archLevel ∧ offset.toNat % 2 ^ n ≠ 0 → out = .refused .offsetRestriction) ∧
  (a.toNat % 2 ^ n = 0 → (4 ≤ s.env.archLevel → offset.toNat % 2 ^ n = 0) → s.Stops out k a 0 (2 ^ n))

/-- The same of base plus index, with the region bits of base (47_fpu_transfer.md R556, R561). -/
def State.GuardedIndex (s : State) (out : Out) (k : AccessKind) (n : Nat) (base index : Reg) : Prop :=
  let x := s.indexedAddr base index
  let sameRegion := s.env.is64 = true → x.extractLsb' 62 2 = (s.getGpr base).extractLsb' 62 2
  (¬ sameRegion → out = .refused .regionBits) ∧
  (sameRegion → x.toNat % 2 ^ n ≠ 0 → Raises s out (.addressError k x)) ∧
  (sameRegion → x.toNat % 2 ^ n = 0 → s.Stops out k x 0 (2 ^ n))

/-- The offset restriction of MIPS IV is kept (40_cpu_load_store.md R202). -/
def State.offsetOk (s : State) (n : Nat) (offset : BitVec 16) : Prop := 4 ≤ s.env.archLevel → offset.toNat % 2 ^ n = 0

/-- The region bits of an indexed address are those of base (47_fpu_transfer.md R556). -/
def State.regionOk (s : State) (a : Dword) (base : Reg) : Prop :=
  s.env.is64 = true → a.extractLsb' 62 2 = (s.getGpr base).extractLsb' 62 2

/-- The address is that of an aligned object of 2^n bytes (20_memory.md R105). -/
def alignedAt (n : Nat) (a : Dword) : Prop := a.toNat % 2 ^ n = 0

/-- The instruction is not in the delay slot of a taken branch or of a jump (44_cpu_jump_branch.md R362). -/
def State.notInTakenSlot (s : State) : Prop := ∀ t, s.delay ≠ .target t

/-- HI, LO or both may be written: neither of the two preceding instructions read them (43_cpu_muldiv.md R338). -/
def State.mayWriteHiLo (s : State) (hi lo : Bool) : Prop :=
  s.recentMF.last.broken hi lo = false ∧ s.recentMF.before.broken hi lo = false

/-- The operand is a word value, as a 64-bit processor wants it (00_scope.md R19). -/
def State.isWord (s : State) (v : Dword) : Prop := s.notWord v = false

/-- The integer fits in `n` + 1 bits of two's complement. -/
def fits (n : Nat) (i : Int) : Prop := -(2 ^ n : Int) ≤ i ∧ i < 2 ^ n

/-- A plain 64-bit big-endian environment at MIPS IV: identity translation, no bus error, cached memory, no location that
was used with another access type. -/
structure State.Plain (s : State) : Prop where
  level : s.env.archLevel = 4 ∧ s.env.procLevel = 4
  order : s.env.bigEndianMem = true ∧ s.env.reBit = false
  xlat : s.env.xlat = [] ∧ s.env.xlatElse = none ∧ s.env.psize = 64
  bus : s.env.busErrors = []
  cached : s.env.accessType.cached = true
  types : s.typed = []
  trackers : s.hazards = Hazards.empty

/-! ### Invariants of a run -/

/-- Memory has its canonical form. -/
def State.MemCanonical (s : State) : Prop := Memory.wf s.mem

/-- General register 0 holds 0 (10_state.md R51). -/
def State.ZeroIsZero (s : State) : Prop := regGet s.gpr 0 = 0

/-- The FCSR has no bit that its level does not have (10_state.md R67). -/
def State.FcsrLegal (s : State) : Prop := s.fcsr &&& ~~~s.fcsrMask = 0

/-- LLbit is set only when a linked load has been recorded (10_state.md R57). -/
def State.LinkRecorded (s : State) : Prop := s.llbit = true → s.llRecord.isSome = true

/-- MIPS IV has none of the delays of the lower levels (70_reset_and_hazards.md R826). -/
def State.NoTrackersAtFour (s : State) : Prop := 4 ≤ s.env.archLevel → s.hazards = Hazards.empty

/-- A taken branch is pending only right after a branch or jump (10_state.md R54). -/
def State.PendingAfterBranch (s : State) : Prop := ∀ t, s.delay = .target t → s.afterBranch = true

/-- Every register of GPRLEN bits holds a value of GPRLEN bits in its container (notes/assumptions/16.md). -/
structure State.Contained (s : State) : Prop where
  gpr : ∀ r, s.norm (regGet s.gpr r) = regGet s.gpr r
  hi : s.norm s.hi = s.hi
  lo : s.norm s.lo = s.lo
  pc : s.norm s.pc = s.pc
  target : ∀ t, s.delay = .target t → s.norm t = t

/-- All of them. -/
structure State.Inv (s : State) : Prop where
  mem : s.MemCanonical
  zero : s.ZeroIsZero
  fcsr : s.FcsrLegal
  link : s.LinkRecorded
  trackers : s.NoTrackersAtFour
  branch : s.PendingAfterBranch
  contained : s.Contained

end Sys2Proof.Machine
end

