-- ==== Sys2Proof/Certificates/Slice0/Obligations.lean ====
section
/-! DEFINITION. The statements about the model. Each docstring says what is stated, in the spec's terms; OBLIGATIONS.json
lists them with the rules they rest on. -/

open Sys2Proof Sys2Proof.Machine

/-- For every instruction and every value of its fields, decoding the word that encodes it gives the instruction back;
and for every 32-bit word that decodes to an instruction, encoding that instruction gives the same word: no bit of an
accepted word is dropped. -/
def Obligations.DecodeAndEncodeAreInverse : Prop :=
  (∀ i : Instr, decode (encode i) = .ok i) ∧ ∀ (w : Word) (i : Instr), decode w = .ok i → encode i = w

/-- ADDU, LW, BEQ, JAL, MULT, SYSCALL, ADD.S, C.LT.D, BC1TL and MADD.D words, written field by field, decode to those
instructions; a word with a reserved function field does not decode. -/
def Obligations.WrittenOutWordsDecode : Prop :=
  decode 0b000000_00001_00010_00011_00000_100001#32 = .ok (.addu 1 2 3) ∧
  decode 0b100011_00100_00101_0000000000001000#32 = .ok (.lw 4 5 8) ∧
  decode 0b000100_00001_00010_1111111111111111#32 = .ok (.beq 1 2 0xFFFF) ∧
  decode 0b000011_00000000000000010000000001#32 = .ok (.jal 0x401) ∧
  decode 0b000000_00110_00111_0000000000_011000#32 = .ok (.mult 6 7) ∧
  decode 0b000000_00000000000000000101_001100#32 = .ok (.syscall 5) ∧
  decode 0b010001_10000_00010_00100_00110_000000#32 = .ok (.addS 2 4 6) ∧
  decode 0b010001_10001_00010_00100_101_00_111100#32 = .ok (.cLtD 2 4 5) ∧
  decode 0b010001_01000_011_11_0000000000000100#32 = .ok (.bc1tl 3 4) ∧
  decode 0b010011_00001_00010_00011_00100_100001#32 = .ok (.maddD 1 2 3 4) ∧
  decode 0b000000_00001_00010_00011_00000_000101#32 = .error .reservedCpu

/-- When the run has not ended, no exception waits for the environment's own handler, no nullified slot and no event
stands at the boundary, EndPC is not reached, the bytes at pc are fetched and decode to i, and no load delay of MIPS I
is broken, then step is exec of i; above MIPS I no load delay exists. -/
def Obligations.StepRunsTheDecodedInstruction : Prop :=
  ∀ (s : State) (bs rest : List Byte) (i : Instr),
  s.ended = false → s.trapped = false → s.delay ≠ .nullify → s.agenda = [] → s.atEnd = false →
  s.fetchBytes = .ok bs → decodeBytes s.env.bigEndianMem bs = .ok (i, rest) →
  (s.loadDelayBroken i = none → step s = exec i s) ∧ (s.env.archLevel ≠ 1 → step s = exec i s)

/-- With a nullified slot at pc a step moves pc to the next word, clears the pending nullification, and changes nothing
else at all: no exception, no register, no byte, not even the HI/LO read history, the trackers or whether the next
instruction counts as standing in a slot. Once the run has ended a step stops by the name runEnded; so does one at EndPC
with no delayed branch and no event, before it fetches. -/
def Obligations.StepsThatExecuteNoInstruction : Prop :=
  (∀ s : State, s.ended = false → s.trapped = false → s.delay = .nullify →
    step s = .next { s with pc := s.pcPlus4, delay := .none }) ∧
  (∀ s : State, s.ended = true → step s = .fault .runEnded) ∧
  ∀ s : State, s.ended = false → s.trapped = false → s.agenda = [] → s.delay = .none → s.env.endPC = some s.pc →
    step s = .fault .runEnded

/-- When pc is not a multiple of 4 the step raises Address Error for the fetch at pc, whatever memory holds; when the
translation of pc fails, or its word meets a bus error, it raises that exception; when the fetched word decodes to an
entry that the CPU tables mark reserved, the step raises Reserved Instruction. -/
def Obligations.FetchAndDecodeFaultsRaise : Prop :=
  ∀ s : State, s.ended = false → s.trapped = false → s.delay ≠ .nullify → s.agenda = [] → s.atEnd = false →
  (s.pc.toNat % 4 ≠ 0 → Raises s (step s) (.addressError .fetch s.pc)) ∧
  (∀ c, s.pc.toNat % 4 = 0 → s.translate .fetch s.pc = .error c → Raises s (step s) c) ∧
  (∀ pa ty, s.pc.toNat % 4 = 0 → s.translate .fetch s.pc = .ok (pa, ty) →
    s.busHits .fetch [pa, pa + 1, pa + 2, pa + 3] = true → Raises s (step s) (.busError .fetch s.pc)) ∧
  (∀ bs, s.fetchBytes = .ok bs → decodeBytes s.env.bigEndianMem bs = .error .reservedCpu →
    Raises s (step s) .reservedInstruction)

/-- For every word whose primary opcode is COP1, LWC1, LDC1, SWC1 or SDC1, at every level: if coprocessor 1 is not
usable, executing the word raises Coprocessor Unusable (1), whatever its other bits are. -/
def Obligations.CoprocessorUnusableComesBeforeTheDecode : Prop :=
  ∀ (s : State) (w : Word), s.fetchBytes = .ok (bytesOfWord s.env.bigEndianMem w) → s.usable 1 = false →
  w.extractLsb' 26 6 ∈ [0b010001#6, 0b110001#6, 0b110101#6, 0b111001#6, 0b111101#6] →
  Raises s (s.runWord exec) (.coprocessorUnusable 1)

/-- For every state whose memory lists its bytes at strictly rising addresses and lists no byte equal to what an
unlisted one reads as, every next state has such a memory. -/
def Obligations.EveryStepKeepsMemoryCanonical : Prop :=
  ∀ s t : State, s.MemCanonical → step s = .next t → t.MemCanonical

/-- For every state in which GPR[0] holds 0, it holds 0 in every next state; in every state a read of GPR[0], by the
first or the second source of an instruction, gives 0, and a read of another register what the register file holds, but
for the register that the instruction just before moved from the FPU below MIPS IV, which is any value to each source
(R824; that the two need not agree is the model's reading of U72, log entry 37); and for every state whose general
registers, HI, LO, pc and pending target hold values of GPRLEN bits in their containers (the container is the model's,
log entry 16), so do those of every next state. -/
def Obligations.EveryStepKeepsTheRegisterFile : Prop :=
  (∀ s t : State, s.ZeroIsZero → step s = .next t → t.ZeroIsZero) ∧ (∀ s : State, s.getGpr 0 = 0 ∧ s.getGpr2 0 = 0) ∧
  (∀ (s : State) (r : Reg), r ≠ 0 → s.hazards.moveGpr ≠ some r →
    s.getGpr r = regGet s.gpr r ∧ s.getGpr2 r = regGet s.gpr r) ∧
  ∀ s t : State, s.Contained → step s = .next t → t.Contained

/-- In every next state of a state with the same property: the FCSR has no bit outside those of its level (bits 22..18
are zero, the condition codes 7 to 1 below MIPS IV, FS below MIPS III); LLbit set means that a linked load was recorded;
a pending target means that the last executed instruction was a branch or jump; at MIPS IV no tracker of a lower level
is set. Each property is kept on its own. -/
def Obligations.EveryStepKeepsFcsrLinkBranchAndTrackers : Prop :=
  ∀ s t : State, step s = .next t →
  (s.FcsrLegal → t.FcsrLegal) ∧ (s.LinkRecorded → t.LinkRecorded) ∧ (s.PendingAfterBranch → t.PendingAfterBranch) ∧
  (s.NoTrackersAtFour → t.NoTrackersAtFour)

/-- Every next state has the same parameters, and its list of coming events is the old one or that without its first. -/
def Obligations.NoStepChangesTheEnvironment : Prop :=
  ∀ s t : State, step s = .next t → t.env = s.env ∧ (t.agenda = s.agenda ∨ ∃ e, s.agenda = e :: t.agenda)

/-- After reset GPR[0] is 0, no branch is pending, every FPR is uninterpreted, the HI/LO history, HiLoPending and the
trackers are empty, no floating-point trap is pending and no exception was taken. State.reset also meets all the
invariants; that LLbit is then clear, the FCSR 0, pc at its place and memory blank is the model's choice, not the spec's
(log entries 3, 5, 6 and 7). -/
def Obligations.ResetMeetsTheInvariantsAndTheSpec : Prop :=
  State.reset.Inv ∧ State.reset.getGpr 0 = 0 ∧ State.reset.delay = .none ∧
  (∀ n : Reg, regGet State.reset.fprTag n = .uninterpreted) ∧
  State.reset.recentMF = ⟨.none, .none⟩ ∧ State.reset.hiLoPending = false ∧ State.reset.hazards = Hazards.empty ∧
  State.reset.pendingFpTrap = false ∧ State.reset.exc = none

/-- Raising c records c with pc, whether the instruction is in a delay slot, the restart address (the branch when it is)
and the bad address; clears LLbit and the delayed branch; writes no register, no byte and no FPU state; then halts the
run, or continues at the handler in its mode with its usable bits, or leaves the rest to the environment's own handler.
That the replaced mode and usable bits are saved, and that a handler sets exactly pc, mode and usable bits, is the
model's choice (log entry 19): the spec specifies no status change. -/
def Obligations.TakingAnExceptionWritesTheRecord : Prop :=
  ∀ (s : State) (c : Cause), let t := s.raise c
  (∃ e, t.exc = some e ∧ e.cause = c ∧ e.pc = s.pc ∧
    (e.inDelaySlot = true ↔ s.afterBranch = true ∨ ∃ x, s.delay = .target x) ∧
    e.restart = (if e.inDelaySlot then s.norm (s.pc - 4) else s.pc) ∧
    (∀ k a, (c = .addressError k a ∨ c = .tlbRefill k a ∨ c = .tlbInvalid k a ∨ c = .busError k a) → e.badVAddr = some a) ∧
    (∀ a, c = .tlbModified a → e.badVAddr = some a)) ∧
  t.llbit = false ∧ t.delay = .none ∧
  t.gpr = s.gpr ∧ t.hi = s.hi ∧ t.lo = s.lo ∧ t.fgrLo = s.fgrLo ∧ t.fgrHi = s.fgrHi ∧ t.fprTag = s.fprTag ∧
  t.fcr0 = s.fcr0 ∧ t.fcsr = s.fcsr ∧ t.cop2Gen = s.cop2Gen ∧ t.llRecord = s.llRecord ∧
  (∀ a, memRead t.mem a = memRead s.mem a) ∧ t.saved = ⟨s.mode, s.cu⟩ :: s.saved ∧
  (s.env.trapEntry = .halt → t.ended = true ∧ t.mode = s.mode ∧ t.cu = s.cu) ∧
  (∀ p m u, s.env.trapEntry = .handler p m u → t.pc = s.norm p ∧ t.mode = m ∧ t.cu = u ∧ t.ended = s.ended ∧
    t.trapped = s.trapped) ∧
  (s.env.trapEntry = .specific → t.trapped = true ∧ t.pc = s.pc ∧ t.mode = s.mode ∧ t.cu = s.cu ∧ t.ended = s.ended)

/-- An interrupt at a boundary where the slot of a taken branch is next records the slot as pc, the branch, one word
before, as the restart address, and drops the pending target. By the model's choice (log entries 19 and 20; the spec
defines no return), when the environment returns after an exception, the next state is at the recorded restart address,
with the mode and usable bits that the entry replaced, LLbit clear, no branch pending, and every register and byte
unchanged. -/
def Obligations.InterruptsAndReturnsKeepTheStream : Prop :=
  (∀ (s : State) (x : Dword) (l : List EnvEvent), s.ended = false → s.trapped = false → s.agenda = .interrupt :: l → s.delay = .target x →
    ∃ t e, step s = .next t ∧ t.exc = some e ∧ e.cause = .interrupt ∧ e.pc = s.pc ∧ e.inDelaySlot = true ∧
      e.restart = s.norm (s.pc - 4) ∧ t.delay = .none ∧ t.llbit = false ∧ t.agenda = l) ∧
  ∀ (s : State) (e : ExcRecord) (m : SavedMode) (ms : List SavedMode) (l : List EnvEvent),
    s.ended = false → s.trapped = false → s.delay ≠ .nullify → s.agenda = .excReturn :: l → s.exc = some e →
    s.saved = m :: ms →
    ∃ t, step s = .next t ∧ t.pc = s.norm e.restart ∧ t.mode = m.mode ∧ t.cu = m.cu ∧ t.saved = ms ∧ t.llbit = false ∧
      t.delay = .none ∧ t.gpr = s.gpr ∧ t.hi = s.hi ∧ t.lo = s.lo ∧ t.fgrLo = s.fgrLo ∧ t.fgrHi = s.fgrHi ∧
      t.fcsr = s.fcsr ∧ t.agenda = l ∧ (∀ a, memRead t.mem a = memRead s.mem a)

/-- At a boundary the event clearLink clears LLbit; a store by another agent changes its byte, and clears LLbit exactly
when it hits the block of the linked address; a pending floating-point trap is raised with the cause field, and with
none pending nothing happens. Only in a handler, that is with an exception entered and not returned from, do the other
events act: the return to an address it gives, the choice of the FPU register model (a change makes every FPR unknown),
and the change of access types. The environment's own handler answers an exception with a state, a pending branch among
it, which takes effect with the machine's parameters, the zero register and the widths of registers kept, with LLbit
clear, and with an executed linked load still recorded; or it ends the run. What events and handlers may be is the
model's choice (log entries 18, 19, 20 and 48). -/
def Obligations.EventsOfTheEnvironment : Prop :=
  ∀ (s : State) (l : List EnvEvent), s.ended = false →
  (s.trapped = false → s.delay ≠ .nullify →
    let r : State := { s with agenda := l }
    (s.agenda = .clearLink :: l → step s = .next { r with llbit := false }) ∧
    (∀ pa b, s.agenda = .externalStore pa b :: l → ∃ t, step s = .next t ∧ t.gpr = s.gpr ∧ t.pc = s.pc ∧ t.agenda = l ∧
      (∀ x, memRead t.mem x = if x = pa % 2 ^ s.env.psize then b else memRead s.mem x) ∧
      (t.llbit = true ↔ s.llbit = true ∧ ∀ k, s.llRecord = some k →
        pa % 2 ^ s.env.psize / s.env.llBlockSize ≠ k.paddr / s.env.llBlockSize)) ∧
    (s.agenda = .fpTrap :: l → step s = .next (if s.pendingFpTrap then
      State.raise { r with pendingFpTrap := false } (.floatingPoint (causeOf s.fcsr)) else r)) ∧
    (s.saved = [] → ∀ e, s.agenda = e :: l →
      (e = .excReturn ∨ (∃ pc, e = .excReturnTo pc) ∨ (∃ fr, e = .selectFR fr) ∨ e = .changeTypes) → step s = .next r) ∧
    (∀ m ms pc, s.saved = m :: ms → s.agenda = .excReturnTo pc :: l → ∃ t, step s = .next t ∧ t.pc = s.norm pc ∧
      t.mode = m.mode ∧ t.cu = m.cu ∧ t.saved = ms ∧ t.llbit = false ∧ t.delay = .none ∧ t.gpr = s.gpr ∧ t.mem = s.mem) ∧
    (∀ fr, s.saved ≠ [] → s.agenda = .selectFR fr :: l → ∃ t, step s = .next t ∧ t.gpr = s.gpr ∧ t.fcsr = s.fcsr ∧
      t.mem = s.mem ∧ t.pc = s.pc ∧ t.statusFR = (if s.env.is64 then fr else s.statusFR) ∧
      (s.env.is64 = true ∧ fr ≠ s.statusFR → ∀ n, regGet t.fprTag n = .unknown) ∧
      (s.env.is64 = false ∨ fr = s.statusFR → t.fgrLo = s.fgrLo ∧ t.fgrHi = s.fgrHi ∧ t.fprTag = s.fprTag)) ∧
    (s.saved ≠ [] → s.agenda = .changeTypes :: l → step s = .next { r with typed := [] })) ∧
  (∀ e, s.trapped = true → s.exc = some e → match Config.trapEntry e s with
    | none => step s = .next { s with trapped := false, ended := true }
    | some u => ∃ t, step s = .next t ∧ (∀ q, regGet t.gpr q = if q = 0 then 0 else s.norm (regGet u.gpr q)) ∧
        t.pc = s.norm u.pc ∧ t.mode = u.mode ∧ t.cu = u.cu ∧ t.fcsr = u.fcsr &&& s.fcsrMask ∧
        (Memory.wf u.mem → ∀ x, memRead t.mem x = memRead u.mem x) ∧ t.env = s.env ∧ t.agenda = s.agenda ∧
        t.llbit = false ∧ (s.llRecord.isSome = true → t.llRecord.isSome = true) ∧ t.trapped = false ∧ t.ended = false ∧
        (∀ x, u.delay = .target x → t.delay = .target (s.norm x) ∧ t.afterBranch = true) ∧
        ((∀ x, u.delay ≠ .target x) → t.delay = u.delay ∧ t.afterBranch = u.afterBranch))

/-- SYSCALL raises System Call and BREAK raises Breakpoint, in every state and whatever the code field. -/
def Obligations.SystemCallAndBreakpointTrap : Prop :=
  ∀ (s : State) (code : BitVec 20), Raises s (exec (.syscall code) s) .systemCall ∧
  Raises s (exec (.breakpoint code) s) .breakpoint

/-- Each of TGE, TGEU, TLT, TLTU, TEQ, TNE and their immediate forms raises Trap when its comparison of rs with rt, or
with the sign-extended immediate, holds, and otherwise goes on and changes nothing; below MIPS II each raises Reserved
Instruction. rs and rt stand for the values read: below MIPS IV the register that a move from the FPU has just written
reads as any value, each read its own (R824). -/
def Obligations.ConditionalTrapsTestAndTrap : Prop :=
  ∀ (s : State) (rs rt : Reg) (code : BitVec 10) (imm : BitVec 16),
  let traps : Out → Prop → Prop := fun out c =>
    Leveled s 2 out ((c → Raises s out .trap) ∧ (¬ c → Completes s out [] fun _ => True))
  traps (exec (.tge rs rt code) s) (¬ (s.getGpr rs).toInt < (s.getGpr2 rt).toInt) ∧
  traps (exec (.tgeu rs rt code) s) (¬ (s.getGpr rs).toNat < (s.getGpr2 rt).toNat) ∧
  traps (exec (.tlt rs rt code) s) ((s.getGpr rs).toInt < (s.getGpr2 rt).toInt) ∧
  traps (exec (.tltu rs rt code) s) ((s.getGpr rs).toNat < (s.getGpr2 rt).toNat) ∧
  traps (exec (.teq rs rt code) s) (s.getGpr rs = s.getGpr2 rt) ∧
  traps (exec (.tne rs rt code) s) (s.getGpr rs ≠ s.getGpr2 rt) ∧
  traps (exec (.tgei rs imm) s) (¬ (s.getGpr rs).toInt < imm.toInt) ∧
  traps (exec (.tgeiu rs imm) s) (¬ (s.getGpr rs).toNat < (imm.signExtend 64).toNat) ∧
  traps (exec (.tlti rs imm) s) ((s.getGpr rs).toInt < imm.toInt) ∧
  traps (exec (.tltiu rs imm) s) ((s.getGpr rs).toNat < (imm.signExtend 64).toNat) ∧
  traps (exec (.teqi rs imm) s) (s.getGpr rs = imm.signExtend 64) ∧
  traps (exec (.tnei rs imm) s) (s.getGpr rs ≠ imm.signExtend 64)

/-- Each writes to rt the value its rule gives (the sum sign-extended from 32 bits, the comparison, the logical result
with the zero-extended immediate, the shifted immediate, the 64-bit sum), nothing to register 0, and changes nothing
else. ADDIU of a register that is no word value still runs and writes rt alone (the spec's own decision D27, R262; log
entry 23). DADDIU is MIPS III. Below MIPS IV the register that a move from the FPU has just written reads as any value,
each read its own, and a result computed from such a register is any value (R824; what beside the result then follows
the value read, a trap or whether an operand is a word value, is the model's reading, log entry 37). -/
def Obligations.ImmediateInstructionsWriteRt : Prop :=
  ∀ (s : State) (rs rt : Reg) (imm : BitVec 16),
  let a := s.getGpr rs
  (s.isWord a → WritesResult s (exec (.addiu rs rt imm) s) [rs] rt (((a + imm.signExtend 64).setWidth 32).signExtend 64)) ∧
  (¬ s.isWord a → ∃ v, WritesGpr s (exec (.addiu rs rt imm) s) rt v) ∧
  WritesResult s (exec (.slti rs rt imm) s) [rs] rt (if a.toInt < imm.toInt then 1 else 0) ∧
  WritesResult s (exec (.sltiu rs rt imm) s) [rs] rt (if a.toNat < (imm.signExtend 64).toNat then 1 else 0) ∧
  WritesResult s (exec (.andi rs rt imm) s) [rs] rt (a &&& imm.setWidth 64) ∧
  WritesResult s (exec (.ori rs rt imm) s) [rs] rt (a ||| imm.setWidth 64) ∧
  WritesResult s (exec (.xori rs rt imm) s) [rs] rt (a ^^^ imm.setWidth 64) ∧
  WritesGpr s (exec (.lui rt imm) s) rt ((imm ++ 0#16).signExtend 64) ∧
  Leveled s 3 (exec (.daddiu rs rt imm) s) (WritesResult s (exec (.daddiu rs rt imm) s) [rs] rt (a + imm.signExtend 64))

/-- Each writes to rd the value its rule gives from rs and rt, nothing to register 0, and changes nothing else. ADDU and
SUBU of operands that are not word values still run and write rd alone (the spec's own decision D27, R262; log entry
23). DADDU and DSUBU are MIPS III. Below MIPS IV the register that a move from the FPU has just written reads as any
value, each read its own, and a result computed from such a register is any value (R824; what beside the result then
follows the value read, a trap or whether an operand is a word value, is the model's reading, log entry 37). -/
def Obligations.ThreeOperandInstructionsWriteRd : Prop :=
  ∀ (s : State) (rs rt rd : Reg),
  let a := s.getGpr rs
  let b := s.getGpr2 rt
  (s.isWord a → s.isWord b → WritesResult s (exec (.addu rs rt rd) s) [rs, rt] rd (((a + b).setWidth 32).signExtend 64)) ∧
  (s.isWord a → s.isWord b → WritesResult s (exec (.subu rs rt rd) s) [rs, rt] rd (((a - b).setWidth 32).signExtend 64)) ∧
  (∃ v w, WritesGpr s (exec (.addu rs rt rd) s) rd v ∧ WritesGpr s (exec (.subu rs rt rd) s) rd w) ∧
  WritesResult s (exec (.and rs rt rd) s) [rs, rt] rd (a &&& b) ∧
  WritesResult s (exec (.or rs rt rd) s) [rs, rt] rd (a ||| b) ∧
  WritesResult s (exec (.xor rs rt rd) s) [rs, rt] rd (a ^^^ b) ∧
  WritesResult s (exec (.nor rs rt rd) s) [rs, rt] rd (~~~(a ||| b)) ∧
  WritesResult s (exec (.slt rs rt rd) s) [rs, rt] rd (if a.toInt < b.toInt then 1 else 0) ∧
  WritesResult s (exec (.sltu rs rt rd) s) [rs, rt] rd (if a.toNat < b.toNat then 1 else 0) ∧
  Leveled s 3 (exec (.daddu rs rt rd) s) (WritesResult s (exec (.daddu rs rt rd) s) [rs, rt] rd (a + b)) ∧
  Leveled s 3 (exec (.dsubu rs rt rd) s) (WritesResult s (exec (.dsubu rs rt rd) s) [rs, rt] rd (a - b))

/-- With word operands (any operands for the doubleword forms) each writes the exact integer sum or difference when it
fits in 32 (64) bits of two's complement, and raises Integer Overflow, with the destination unchanged, when it does not.
With operands that are no word values ADD, ADDI and SUB still end in Integer Overflow or in some value in the
destination alone. The doubleword forms are MIPS III. Below MIPS IV the register that a move from the FPU has just
written reads as any value, each read its own, and a result computed from such a register is any value (R824; what
beside the result then follows the value read, a trap or whether an operand is a word value, is the model's reading, log
entry 37). -/
def Obligations.TrappingAdditionsTrapExactlyOnOverflow : Prop :=
  ∀ (s : State) (rs rt rd : Reg) (imm : BitVec 16),
  let a := s.getGpr rs
  let b := s.getGpr2 rt
  let checked : Out → List Reg → Reg → Nat → Int → Prop := fun out l r n i =>
    (fits n i → WritesResult s out l r (BitVec.ofInt 64 i)) ∧ (¬ fits n i → Raises s out .integerOverflow)
  let either : Out → Reg → Prop := fun out r => Raises s out .integerOverflow ∨ ∃ v, WritesGpr s out r v
  (s.isWord a → s.isWord b →
    checked (exec (.add rs rt rd) s) [rs, rt] rd 31 ((a.setWidth 32).toInt + (b.setWidth 32).toInt) ∧
    checked (exec (.sub rs rt rd) s) [rs, rt] rd 31 ((a.setWidth 32).toInt - (b.setWidth 32).toInt)) ∧
  (¬ (s.isWord a ∧ s.isWord b) → either (exec (.add rs rt rd) s) rd ∧ either (exec (.sub rs rt rd) s) rd) ∧
  (¬ s.isWord a → either (exec (.addi rs rt imm) s) rt) ∧
  (s.isWord a → checked (exec (.addi rs rt imm) s) [rs] rt 31 ((a.setWidth 32).toInt + imm.toInt)) ∧
  Leveled s 3 (exec (.dadd rs rt rd) s) (checked (exec (.dadd rs rt rd) s) [rs, rt] rd 63 (a.toInt + b.toInt)) ∧
  Leveled s 3 (exec (.daddi rs rt imm) s) (checked (exec (.daddi rs rt imm) s) [rs] rt 63 (a.toInt + imm.toInt)) ∧
  Leveled s 3 (exec (.dsub rs rt rd) s) (checked (exec (.dsub rs rt rd) s) [rs, rt] rd 63 (a.toInt - b.toInt))

/-- At MIPS IV MOVZ (MOVN) writes rs to rd when rt is (is not) zero, and MOVF (MOVT), with coprocessor 1 usable, when
FCC[cc] is 0 (1); otherwise each goes on and changes nothing. MOVF and MOVT with coprocessor 1 unusable raise
Coprocessor Unusable (1). Below MIPS IV all four raise Reserved Instruction. rs and rt stand for the values read: below
MIPS IV the register that a move from the FPU has just written reads as any value, each read its own (R824). -/
def Obligations.ConditionalMovesMoveOrKeep : Prop :=
  ∀ (s : State) (rs rt rd : Reg) (cc : BitVec 3),
  let moves : Out → Prop → Prop := fun out c =>
    (c → WritesGpr s out rd (s.getGpr rs)) ∧ (¬ c → Completes s out [] fun _ => True)
  let onCode : Out → Bool → Prop := fun out tf =>
    (s.usable 1 = false → Raises s out (.coprocessorUnusable 1)) ∧
    (s.usable 1 = true → s.hazards.ctc = false → moves out (fccOf s.fcsr cc = tf))
  Leveled s 4 (exec (.movz rs rt rd) s) (moves (exec (.movz rs rt rd) s) (s.getGpr2 rt = 0)) ∧
  Leveled s 4 (exec (.movn rs rt rd) s) (moves (exec (.movn rs rt rd) s) (s.getGpr2 rt ≠ 0)) ∧
  Leveled s 4 (exec (.movf rs cc rd) s) (onCode (exec (.movf rs cc rd) s) false) ∧
  Leveled s 4 (exec (.movt rs cc rd) s) (onCode (exec (.movt rs cc rd) s) true)

/-- SLL and SLLV shift the low word of rt left by sa or by the low five bits of rs and sign-extend the word; SRL, SRLV,
SRA and SRAV shift right, emptied bits zero or the sign, when rt is a word value, and with another rt still run. The
MIPS III shifts by sa, by sa + 32 and by the low six bits of rs write rt times a power of two, divided by it as a
natural number, or divided by it as an integer rounded down; below MIPS III each raises Reserved Instruction. Only rd is
written, and register 0 is not. Below MIPS IV the register that a move from the FPU has just written reads as any value,
each read its own, and a result computed from such a register is any value (R824; what beside the result then follows
the value read, a trap or whether an operand is a word value, is the model's reading, log entry 37). -/
def Obligations.ShiftsWriteRd : Prop :=
  ∀ (s : State) (rs rt rd : Reg) (sa : BitVec 5),
  let b : Word := (s.getGpr rt).setWidth 32
  let n := (s.getGpr2 rs).toNat % 2 ^ 5
  let m := sa.toNat
  let d := s.getGpr rt
  let isSext : Out → List Reg → Word → Prop := fun out l w => WritesResult s out l rd (w.signExtend 64)
  let n6 := (s.getGpr2 rs).toNat % 2 ^ 6
  let writes : Out → List Reg → Dword → Prop := fun out l v => Leveled s 3 out (WritesResult s out l rd v)
  (isSext (exec (.sll rt rd sa) s) [rt] (b * BitVec.ofNat 32 (2 ^ m)) ∧
   isSext (exec (.sllv rs rt rd) s) [rt, rs] (b * BitVec.ofNat 32 (2 ^ n)) ∧
   (s.isWord d →
     isSext (exec (.srl rt rd sa) s) [rt] (BitVec.ofNat 32 (b.toNat / 2 ^ m)) ∧
     isSext (exec (.srlv rs rt rd) s) [rt, rs] (BitVec.ofNat 32 (b.toNat / 2 ^ n)) ∧
     isSext (exec (.sra rt rd sa) s) [rt] (BitVec.ofInt 32 (b.toInt / 2 ^ m)) ∧
     isSext (exec (.srav rs rt rd) s) [rt, rs] (BitVec.ofInt 32 (b.toInt / 2 ^ n))) ∧
   (¬ s.isWord d → ∃ v1 v2 v3 v4, WritesGpr s (exec (.srl rt rd sa) s) rd v1 ∧
     WritesGpr s (exec (.srlv rs rt rd) s) rd v2 ∧ WritesGpr s (exec (.sra rt rd sa) s) rd v3 ∧
     WritesGpr s (exec (.srav rs rt rd) s) rd v4)) ∧
  writes (exec (.dsll rt rd sa) s) [rt] (d * BitVec.ofNat 64 (2 ^ m)) ∧
  writes (exec (.dsll32 rt rd sa) s) [rt] (d * BitVec.ofNat 64 (2 ^ (m + 32))) ∧
  writes (exec (.dsrl rt rd sa) s) [rt] (BitVec.ofNat 64 (d.toNat / 2 ^ m)) ∧
  writes (exec (.dsrl32 rt rd sa) s) [rt] (BitVec.ofNat 64 (d.toNat / 2 ^ (m + 32))) ∧
  writes (exec (.dsra rt rd sa) s) [rt] (BitVec.ofInt 64 (d.toInt / 2 ^ m)) ∧
  writes (exec (.dsra32 rt rd sa) s) [rt] (BitVec.ofInt 64 (d.toInt / 2 ^ (m + 32))) ∧
  writes (exec (.dsllv rs rt rd) s) [rt, rs] (d * BitVec.ofNat 64 (2 ^ n6)) ∧
  writes (exec (.dsrlv rs rt rd) s) [rt, rs] (BitVec.ofNat 64 (d.toNat / 2 ^ n6)) ∧
  writes (exec (.dsrav rs rt rd) s) [rt, rs] (BitVec.ofInt 64 (d.toInt / 2 ^ n6))

/-- When neither of the two preceding instructions read HI or LO: with word operands MULT and MULTU leave in LO and HI
the sign-extended halves of the 64-bit product; DMULT and DMULTU (MIPS III) the halves of the 128-bit product. With
other operands MULT and MULTU still run. HiLoPending becomes 1 and nothing else changes. Below MIPS IV the register that
a move from the FPU has just written reads as any value, each read its own, and a result computed from such a register
is any value (R824; what beside the result then follows the value read, a trap or whether an operand is a word value, is
the model's reading, log entry 37). -/
def Obligations.MultipliesGiveTheWholeProduct : Prop :=
  ∀ (s : State) (rs rt : Reg), s.mayWriteHiLo true true →
  let a := s.getGpr rs
  let b := s.getGpr2 rt
  let leaves : Out → (Dword → Dword → Prop) → Prop := fun out p =>
    Completes s out [.hi, .lo, .pendingHiLo] fun t => t.hiLoPending = true ∧ (s.movedGpr [rs, rt] = false → p t.hi t.lo)
  (s.isWord a → s.isWord b →
    leaves (exec (.mult rs rt) s) (fun hi lo => ∃ h l : Word, hi = s.norm (h.signExtend 64) ∧ lo = s.norm (l.signExtend 64) ∧
      h ++ l = BitVec.ofInt (32 + 32) ((a.setWidth 32).toInt * (b.setWidth 32).toInt)) ∧
    leaves (exec (.multu rs rt) s) (fun hi lo => ∃ h l : Word, hi = s.norm (h.signExtend 64) ∧ lo = s.norm (l.signExtend 64) ∧
      h ++ l = BitVec.ofNat (32 + 32) ((a.setWidth 32).toNat * (b.setWidth 32).toNat))) ∧
  (¬ (s.isWord a ∧ s.isWord b) →
    leaves (exec (.mult rs rt) s) (fun _ _ => True) ∧ leaves (exec (.multu rs rt) s) (fun _ _ => True)) ∧
  Leveled s 3 (exec (.dmult rs rt) s)
    (leaves (exec (.dmult rs rt) s) fun hi lo => ∃ h l : Dword, hi = s.norm h ∧ lo = s.norm l ∧
      h ++ l = BitVec.ofInt (64 + 64) (a.toInt * b.toInt)) ∧
  Leveled s 3 (exec (.dmultu rs rt) s)
    (leaves (exec (.dmultu rs rt) s) fun hi lo => ∃ h l : Dword, hi = s.norm h ∧ lo = s.norm l ∧
      h ++ l = BitVec.ofNat (64 + 64) (a.toNat * b.toNat))

/-- When neither of the two preceding instructions read HI or LO and the divisor is not zero: LO and HI get numbers q
and r with n = q d + r, the remainder smaller than the divisor and, in the signed forms, zero or of the dividend's sign
(the rounding toward zero is the spec's own choice, 43_cpu_muldiv.md R336; the overflow case is derived there,
notes/assumptions/24.md). With a zero divisor, or operands of DIV and DIVU that are not word values, the instruction
still runs and changes only HI, LO and HiLoPending. Below MIPS IV the register that a move from the FPU has just written
reads as any value, each read its own, and a result computed from such a register is any value (R824; what beside the
result then follows the value read, a trap or whether an operand is a word value, is the model's reading, log entry 37).
-/
def Obligations.DivisionsGiveQuotientAndRemainder : Prop :=
  ∀ (s : State) (rs rt : Reg), s.mayWriteHiLo true true →
  let a := s.getGpr rs
  let b := s.getGpr2 rt
  let leaves : Out → (Dword → Dword → Prop) → Prop := fun out p =>
    Completes s out [.hi, .lo, .pendingHiLo] fun t => t.hiLoPending = true ∧ (s.movedGpr [rs, rt] = false → p t.hi t.lo)
  let divides : Int → Int → Int → Int → Prop := fun n d q r =>
    n = q * d + r ∧ r.natAbs < d.natAbs ∧ (0 ≤ n → 0 ≤ r) ∧ (n ≤ 0 → r ≤ 0)
  (s.isWord a → s.isWord b → (b.setWidth 32 : Word) ≠ 0 →
    leaves (exec (.div rs rt) s) (fun hi lo => ∃ q r : Int,
      divides (a.setWidth 32 : Word).toInt (b.setWidth 32 : Word).toInt q r ∧
      lo = s.norm ((BitVec.ofInt 32 q).signExtend 64) ∧ hi = s.norm ((BitVec.ofInt 32 r).signExtend 64)) ∧
    leaves (exec (.divu rs rt) s) (fun hi lo => ∃ q r : Nat,
      divides (a.setWidth 32 : Word).toNat (b.setWidth 32 : Word).toNat q r ∧
      lo = s.norm ((BitVec.ofNat 32 q).signExtend 64) ∧ hi = s.norm ((BitVec.ofNat 32 r).signExtend 64))) ∧
  (¬ (s.isWord a ∧ s.isWord b) ∨ (b.setWidth 32 : Word) = 0 →
    leaves (exec (.div rs rt) s) (fun _ _ => True) ∧ leaves (exec (.divu rs rt) s) (fun _ _ => True)) ∧
  Leveled s 3 (exec (.ddiv rs rt) s)
    ((b ≠ 0 → leaves (exec (.ddiv rs rt) s) fun hi lo => ∃ q r : Int, divides a.toInt b.toInt q r ∧
      lo = s.norm (BitVec.ofInt 64 q) ∧ hi = s.norm (BitVec.ofInt 64 r)) ∧
     (b = 0 → leaves (exec (.ddiv rs rt) s) fun _ _ => True)) ∧
  Leveled s 3 (exec (.ddivu rs rt) s)
    ((b ≠ 0 → leaves (exec (.ddivu rs rt) s) fun hi lo => ∃ q r : Nat, divides a.toNat b.toNat q r ∧
      lo = s.norm (BitVec.ofNat 64 q) ∧ hi = s.norm (BitVec.ofNat 64 r)) ∧
     (b = 0 → leaves (exec (.ddivu rs rt) s) fun _ _ => True))

/-- MFHI (MFLO) writes HI (LO) to rd, clears HiLoPending and enters the read history. MTHI (MTLO), unless one of the two
preceding instructions read that register, writes rs to it and leaves the other one unchanged when no computed result is
pending; with one pending the other may change, and nothing else does. A move into a register read by one of the two
preceding instructions is refused by name, and so are MULT, MULTU, DIV, DIVU and, from MIPS III on, DMULT, DMULTU, DDIV
and DDIVU when one of the two read HI or LO (the spec leaves what is then read undefined, R338 and R822; the refusal is
U23, log entry 25). -/
def Obligations.HiLoMovesFollowTheOrderingRules : Prop :=
  ∀ (s : State) (r q : Reg),
  Completes s (exec (.mfhi r) s) [.gpr r, .pendingHiLo] (fun t =>
    regGet t.gpr r = (if r = 0 then regGet s.gpr 0 else s.norm s.hi) ∧ t.hiLoPending = false ∧
    (r ≠ 0 → t.recentMF.last = .hi r)) ∧
  Completes s (exec (.mflo r) s) [.gpr r, .pendingHiLo] (fun t =>
    regGet t.gpr r = (if r = 0 then regGet s.gpr 0 else s.norm s.lo) ∧ t.hiLoPending = false ∧
    (r ≠ 0 → t.recentMF.last = .lo r)) ∧
  (s.mayWriteHiLo true false → Completes s (exec (.mthi r) s) [.hi, .lo] fun t =>
    t.hi = s.norm (s.getGpr r) ∧ (s.hiLoPending = false → t.lo = s.lo)) ∧
  (s.mayWriteHiLo false true → Completes s (exec (.mtlo r) s) [.hi, .lo] fun t =>
    t.lo = s.norm (s.getGpr r) ∧ (s.hiLoPending = false → t.hi = s.hi)) ∧
  (¬ s.mayWriteHiLo true false → exec (.mthi r) s = .refused .hiLoReadWrite) ∧
  (¬ s.mayWriteHiLo false true → exec (.mtlo r) s = .refused .hiLoReadWrite) ∧
  (¬ s.mayWriteHiLo true true →
    (∀ out ∈ [exec (.mult r q) s, exec (.multu r q) s, exec (.div r q) s, exec (.divu r q) s],
      out = .refused .hiLoReadWrite) ∧
    (3 ≤ s.env.archLevel →
      ∀ out ∈ [exec (.dmult r q) s, exec (.dmultu r q) s, exec (.ddiv r q) s, exec (.ddivu r q) s],
        out = .refused .hiLoReadWrite))

/-- At an aligned address, with the offset restriction of MIPS IV kept and an access that goes through, each writes the
value of its bytes, sign- or zero-extended, to rt (nothing to register 0) and changes nothing else. LWU is MIPS III and
raises Reserved Instruction below; LD runs from MIPS III on. Below MIPS IV the register that a move from the FPU has
just written reads as any value, each read its own, and a result computed from such a register is any value (R824; what
beside the result then follows the value read, a trap or whether an operand is a word value, is the model's reading, log
entry 37). -/
def Obligations.AlignedLoadsExtendTheValue : Prop :=
  ∀ (s : State) (base rt : Reg) (offset : BitVec 16),
  let a := s.effAddr base offset
  let reads : Out → Nat → (Dword → Dword) → Prop := fun out n ext =>
    ∀ ps, alignedAt n a → s.offsetOk n offset → s.Reaches .load a 0 (2 ^ n) ps →
      WritesResult s out [base] rt (ext (s.memValue ps))
  reads (exec (.lb base rt offset) s) 0 (fun v => (v.setWidth 8).signExtend 64) ∧
  reads (exec (.lbu base rt offset) s) 0 (fun v => (v.setWidth 8).setWidth 64) ∧
  reads (exec (.lh base rt offset) s) 1 (fun v => (v.setWidth 16).signExtend 64) ∧
  reads (exec (.lhu base rt offset) s) 1 (fun v => (v.setWidth 16).setWidth 64) ∧
  reads (exec (.lw base rt offset) s) 2 (fun v => (v.setWidth 32).signExtend 64) ∧
  Leveled s 3 (exec (.lwu base rt offset) s) (reads (exec (.lwu base rt offset) s) 2 fun v => (v.setWidth 32).setWidth 64) ∧
  (3 ≤ s.env.archLevel → reads (exec (.ld base rt offset) s) 3 fun v => v)

/-- At an aligned address, with the offset restriction kept and an access that goes through, the addressed bytes read
afterwards as the low 1, 2, 4 or 8 bytes of rt in the data byte order, and every other byte and every register is
unchanged. SD runs from MIPS III on. Below MIPS IV the register that a move from the FPU has just written reads as any
value, as base and as rt each its own (R824). -/
def Obligations.AlignedStoresWriteTheirBytes : Prop :=
  ∀ (s : State) (base rt : Reg) (offset : BitVec 16),
  let a := s.effAddr base offset
  let stores : Out → Nat → Prop := fun out n =>
    ∀ ps, alignedAt n a → s.offsetOk n offset → s.Reaches .store a 0 (2 ^ n) ps →
      Completes s out (ps.map .byte) fun t =>
        ps.map (memRead t.mem) = splitBytes s.bigEndianCPU (2 ^ n) (s.getGpr2 rt)
  stores (exec (.sb base rt offset) s) 0 ∧ stores (exec (.sh base rt offset) s) 1 ∧
  stores (exec (.sw base rt offset) s) 2 ∧
  (3 ≤ s.env.archLevel → stores (exec (.sd base rt offset) s) 3)

/-- LB, LBU, LH, LHU, LW, SB, SH, SW (every level), LWU, LD, SD (MIPS III) at an address that is not a multiple of their
size raise Address Error, load or store, with that address; at MIPS IV a low offset bit is refused by name; else, when
the access to their bytes fails (the exception of the translation, the refusal of a byte used with another access type,
or Bus Error, in this order), exactly that is the outcome. So it is for the bytes that LWL, LWR, SWL, SWR, and LDL, LDR,
SDL, SDR (MIPS III), reach, which have no alignment test. One translation decides the bytes of an access, but the
doubleword of a 32-bit processor has one for each word (D13), and a failure reports the effective address. Where
locations have more than one access type, an access that completes notes the types of its bytes (LW and SW). That the
refusal (U43) comes after the translation and before Bus Error, and the record of noted types, are the model's choice,
not the spec's, which gives no such order (log entry 32); so is, for that doubleword, that its first word is translated
first and both before either is accessed (log entry 50). (Taking an exception changes no register and no byte.) -/
def Obligations.StoppedAccessesOfTheCpu : Prop :=
  ∀ (s : State) (base rt : Reg) (offset : BitVec 16),
  let a := s.effAddr base offset
  let be := s.bigEndianCPU
  let left : Nat → Nat × Nat := fun u => if be then (0, u - a.toNat % u) else (a.toNat % u, a.toNat % u + 1)
  let right : Nat → Nat × Nat := fun u => if be then (a.toNat % u, a.toNat % u + 1) else (0, u - a.toNat % u)
  let bytes : Nat → Nat → AccessType → List (Nat × AccessType) := fun p n ty => (List.range n).map fun i => (s.flip (p + i), ty)
  let ends : AccessKind → Dword → Nat → Nat → List (Nat × AccessType) → Prop := fun k x back n l =>
    ((∃ e ∈ s.typed, ∃ b ∈ l, b.1 = e.1 ∧ b.2 ≠ e.2) → s.dataBytes k x back n = .error (.refused .mixedAccess)) ∧
    ((∀ e ∈ s.typed, ∀ b ∈ l, b.1 = e.1 → b.2 = e.2) → s.dataBytes k x back n =
      if s.busHits k (l.map Prod.fst) then .error (.raised (.busError k x)) else .ok l)
  s.Guarded (exec (.lb base rt offset) s) .load 0 base offset ∧
  s.Guarded (exec (.lbu base rt offset) s) .load 0 base offset ∧
  s.Guarded (exec (.lh base rt offset) s) .load 1 base offset ∧
  s.Guarded (exec (.lhu base rt offset) s) .load 1 base offset ∧
  s.Guarded (exec (.lw base rt offset) s) .load 2 base offset ∧
  s.Guarded (exec (.sb base rt offset) s) .store 0 base offset ∧
  s.Guarded (exec (.sh base rt offset) s) .store 1 base offset ∧
  s.Guarded (exec (.sw base rt offset) s) .store 2 base offset ∧
  s.Stops (exec (.lwl base rt offset) s) .load a (left 4).1 (left 4).2 ∧
  s.Stops (exec (.lwr base rt offset) s) .load a (right 4).1 (right 4).2 ∧
  s.Stops (exec (.swl base rt offset) s) .store a (left 4).1 (left 4).2 ∧
  s.Stops (exec (.swr base rt offset) s) .store a (right 4).1 (right 4).2 ∧
  (3 ≤ s.env.archLevel → s.Guarded (exec (.lwu base rt offset) s) .load 2 base offset ∧
    s.Guarded (exec (.ld base rt offset) s) .load 3 base offset ∧
    s.Guarded (exec (.sd base rt offset) s) .store 3 base offset ∧
    s.Stops (exec (.ldl base rt offset) s) .load a (left 8).1 (left 8).2 ∧
    s.Stops (exec (.ldr base rt offset) s) .load a (right 8).1 (right 8).2 ∧
    s.Stops (exec (.sdl base rt offset) s) .store a (left 8).1 (left 8).2 ∧
    s.Stops (exec (.sdr base rt offset) s) .store a (right 8).1 (right 8).2) ∧
  (∀ k x back n, s.env.is64 = true ∨ back ≠ 0 ∨ n ≠ 8 → match s.translate k x with
    | .error c => s.dataBytes k x back n = .error (.raised c)
    | .ok (pa, ty) => ends k x back n (bytes (pa - back) n ty)) ∧
  (∀ k x, s.env.is64 = false → match s.translate k x, s.translateFor k x (s.norm (x + 4)) with
    | .error c, _ => s.dataBytes k x 0 8 = .error (.raised c)
    | .ok _, .error c => s.dataBytes k x 0 8 = .error (.raised c)
    | .ok (p, ty), .ok (q, tz) => ends k x 0 8 (bytes p 4 ty ++ bytes q 4 tz)) ∧
  (s.env.oneType = false → alignedAt 2 a → s.offsetOk 2 offset →
    (∀ ps, s.Reaches .load a 0 4 ps → ∃ t, exec (.lw base rt offset) s = .next t ∧ ∀ p ∈ ps, ∃ ty, (p, ty) ∈ t.typed) ∧
    (∀ ps, s.Reaches .store a 0 4 ps → ∃ t, exec (.sw base rt offset) s = .next t ∧ ∀ p ∈ ps, ∃ ty, (p, ty) ∈ t.typed))

/-- With their coprocessor usable, LWC1, SWC1, LWC2, SWC2 (coprocessor 2 present), LDC1, SDC1, LDC2, SDC2 (MIPS II)
raise Address Error at a misaligned address, refuse a low offset bit at MIPS IV, and otherwise end as what stops the
access; so do LWXC1, LDXC1, SWXC1, SDXC1 (MIPS IV), which refuse other region bits than those of base first. LL and SC
(MIPS II), LLD and SCD (MIPS III) do so at a cached location, SC and SCD only when they store; at a location that is not
cached all four are refused by name. -/
def Obligations.StoppedAccessesOfCoprocessorsAndLinks : Prop :=
  ∀ (s : State) (base index rt : Reg) (offset : BitVec 16),
  let a := s.effAddr base offset
  let linked : Out → AccessKind → Nat → Prop → Prop := fun out k n goes =>
    (a.toNat % 2 ^ n ≠ 0 → Raises s out (.addressError k a)) ∧
    (a.toNat % 2 ^ n = 0 → 4 ≤ s.env.archLevel ∧ offset.toNat % 2 ^ n ≠ 0 → out = .refused .offsetRestriction) ∧
    (a.toNat % 2 ^ n = 0 → (4 ≤ s.env.archLevel → offset.toNat % 2 ^ n = 0) → match s.translate k a with
      | .error c => Raises s out c
      | .ok (_, ty) => (ty.cached = false → out = .refused .uncachedLinked) ∧
        (ty.cached = true → goes → s.Stops out k a 0 (2 ^ n)))
  let stores : Prop := s.llbit = true ∨ s.llRecord = none
  (s.usable 1 = true →
    s.Guarded (exec (.lwc1 base rt offset) s) .load 2 base offset ∧
    s.Guarded (exec (.swc1 base rt offset) s) .store 2 base offset ∧
    (2 ≤ s.env.archLevel → s.Guarded (exec (.ldc1 base rt offset) s) .load 3 base offset ∧
      s.Guarded (exec (.sdc1 base rt offset) s) .store 3 base offset) ∧
    (4 ≤ s.env.archLevel → s.GuardedIndex (exec (.lwxc1 base index rt) s) .load 2 base index ∧
      s.GuardedIndex (exec (.ldxc1 base index rt) s) .load 3 base index ∧
      s.GuardedIndex (exec (.swxc1 base index rt) s) .store 2 base index ∧
      s.GuardedIndex (exec (.sdxc1 base index rt) s) .store 3 base index)) ∧
  (s.usable 2 = true → s.env.cop2Present = true → 1 ≤ s.env.archLevel →
    s.Guarded (exec (.lwc2 base rt offset) s) .load 2 base offset ∧
    s.Guarded (exec (.swc2 base rt offset) s) .store 2 base offset ∧
    (2 ≤ s.env.archLevel → s.Guarded (exec (.ldc2 base rt offset) s) .load 3 base offset ∧
      s.Guarded (exec (.sdc2 base rt offset) s) .store 3 base offset)) ∧
  (2 ≤ s.env.archLevel → linked (exec (.ll base rt offset) s) .load 2 True ∧
    linked (exec (.sc base rt offset) s) .store 2 stores) ∧
  (3 ≤ s.env.archLevel → linked (exec (.lld base rt offset) s) .load 3 True ∧
    linked (exec (.scd base rt offset) s) .store 3 stores)

/-- In a plain environment an access of n bytes at a reaches the bytes a, a+1, .... In every environment translation
keeps the low three address bits (R110), and an access that goes through reaches the bytes from its physical address on
(the doubleword of a 32-bit processor from those of its two words, D13), each with its low three address bits (two with
32-bit registers) inverted when the RE bit is set in user mode; the data byte order is that of memory, reversed then. Up
to eight bytes form a value, zero-extended: with big-endian order the last byte is the least significant, with little-
endian order the first; a store takes the bytes of its value in the same order; four bytes are written out. -/
def Obligations.AccessesReachTheirBytesInTheDataByteOrder : Prop :=
  (∀ (s : State) (k : AccessKind) (a : Dword) (n : Nat), s.Plain →
    s.dataBytes k a 0 n = .ok ((List.range n).map fun i => (a.toNat + i, s.env.typeOf s.env.accessType))) ∧
  (∀ (s : State) (k : AccessKind) (a v : Dword) (pa : Nat) (ty : AccessType),
    s.translateFor k a v = .ok (pa, ty) → pa % 8 = v.toNat % 8) ∧
  (∀ (s : State) (k : AccessKind) (a : Dword) (pa : Nat) (ty : AccessType),
    s.translate k a = .ok (pa, ty) → s.typed = [] → s.env.busErrors = [] →
    let turn : Nat → Nat := fun p =>
      if s.env.reBit = true ∧ s.mode = .user then p ^^^ (if s.env.is64 then 7 else 3) else p
    (∀ back n, s.env.is64 = true ∨ back ≠ 0 ∨ n ≠ 8 →
      s.dataBytes k a back n = .ok ((List.range n).map fun i => (turn (pa - back + i), ty))) ∧
    ∀ q tz, s.env.is64 = false → s.translateFor k a (s.norm (a + 4)) = .ok (q, tz) →
      s.dataBytes k a 0 8 = .ok ((List.range 4).map (fun i => (turn (pa + i), ty)) ++
        (List.range 4).map fun i => (turn (q + i), tz))) ∧
  (∀ s : State, s.bigEndianCPU = true ↔ (s.env.bigEndianMem = true ↔ ¬ (s.env.reBit = true ∧ s.mode = .user))) ∧
  (∀ (s : State) (ps : List Nat), ps.length ≤ 8 → (s.memValue ps).toNat < 2 ^ (8 * ps.length) ∧
    ∀ i < ps.length, ps[if s.bigEndianCPU then ps.length - 1 - i else i]?.map (memRead s.mem) =
      some ((s.memValue ps).extractLsb' (8 * i) 8)) ∧
  (∀ (be : Bool) (v : Dword) (n : Nat), (splitBytes be n v).length = n ∧
    ∀ i < n, (splitBytes be n v)[if be then n - 1 - i else i]? = some (v.extractLsb' (8 * i) 8)) ∧
  ∀ (s : State) (p q r u : Nat),
    (s.bigEndianCPU = true → s.memValue [p, q, r, u] =
      (memRead s.mem p ++ memRead s.mem q ++ memRead s.mem r ++ memRead s.mem u : BitVec (8 + 8 + 8 + 8)).setWidth 64) ∧
    (s.bigEndianCPU = false → s.memValue [p, q, r, u] =
      (memRead s.mem u ++ memRead s.mem r ++ memRead s.mem q ++ memRead s.mem p : BitVec (8 + 8 + 8 + 8)).setWidth 64)

/-- When the access to the bytes between the effective address and the end of its unit goes through, each writes to rt
the old value with those bytes over its most (left) or least (right) significant bytes, sign-extended from 32 bits by
LWL and by an LWR that loaded the whole word, and changes nothing else. After another LWR of 64-bit registers bits
63..32 are those of before, or the sign of bit 31, as LwrUpperBits says. With big-endian order a left instruction
reaches from the address to the end of the unit, a right one from its start to the address; with little-endian order it
is the other way round. LDL and LDR are MIPS III. Below MIPS IV the register that a move from the FPU has just written
reads as any value, each read its own, and a result computed from such a register is any value (R824; what beside the
result then follows the value read, a trap or whether an operand is a word value, is the model's reading, log entry 37).
-/
def Obligations.UnalignedLoadsMergeIntoRt : Prop :=
  ∀ (s : State) (base rt : Reg) (offset : BitVec 16),
  let a := s.effAddr base offset
  let old := s.getGpr2 rt
  let be := s.bigEndianCPU
  let reads : Out → Nat × Nat → (Dword → Dword) → Prop := fun out span f =>
    ∀ ps, s.Reaches .load a span.1 span.2 ps → WritesResult s out [base, rt] rt (f (s.memValue ps))
  let left : Nat → Nat × Nat := fun u => if be then (0, u - a.toNat % u) else (a.toNat % u, a.toNat % u + 1)
  let right : Nat → Nat × Nat := fun u => if be then (a.toNat % u, a.toNat % u + 1) else (0, u - a.toNat % u)
  let l4 := left 4
  let r4 := right 4
  let l8 := left 8
  let r8 := right 8
  let onto : Nat → Dword → Dword := fun n v => ((old >>> (8 * n)) <<< (8 * n)) ||| v
  reads (exec (.lwl base rt offset) s) l4 (fun v =>
    (((v <<< (8 * (4 - l4.2))) ||| (old &&& (2 ^ (8 * (4 - l4.2)) - 1))).setWidth 32).signExtend 64) ∧
  (r4.2 = 4 → reads (exec (.lwr base rt offset) s) r4 fun v => (v.setWidth 32).signExtend 64) ∧
  (r4.2 ≠ 4 → s.env.is64 = true ∧ s.env.lwrUpper = .keep → reads (exec (.lwr base rt offset) s) r4 (onto r4.2)) ∧
  (r4.2 ≠ 4 → s.env.is64 = false ∨ s.env.lwrUpper = .signExtend →
    reads (exec (.lwr base rt offset) s) r4 fun v => ((onto r4.2 v).setWidth 32).signExtend 64) ∧
  Leveled s 3 (exec (.ldl base rt offset) s) (reads (exec (.ldl base rt offset) s) l8 fun v =>
    (v <<< (8 * (8 - l8.2))) ||| (old &&& (2 ^ (8 * (8 - l8.2)) - 1))) ∧
  Leveled s 3 (exec (.ldr base rt offset) s) (reads (exec (.ldr base rt offset) s) r8 (onto r8.2))

/-- When the access goes through, the reached bytes read afterwards as the most (left) or least (right) significant
bytes of the low word (SWL, SWR) or of rt (SDL, SDR) in the data byte order; every other byte and every register is
unchanged. SDL and SDR are MIPS III. Below MIPS IV the register that a move from the FPU has just written reads as any
value, as base and as rt each its own (R824). -/
def Obligations.UnalignedStoresWriteTheirBytes : Prop :=
  ∀ (s : State) (base rt : Reg) (offset : BitVec 16),
  let a := s.effAddr base offset
  let v := s.getGpr2 rt
  let be := s.bigEndianCPU
  let left : Nat → Nat × Nat := fun u => if be then (0, u - a.toNat % u) else (a.toNat % u, a.toNat % u + 1)
  let right : Nat → Nat × Nat := fun u => if be then (a.toNat % u, a.toNat % u + 1) else (0, u - a.toNat % u)
  let stores : Out → Nat × Nat → (Nat → Dword) → Prop := fun out span pick =>
    ∀ ps, s.Reaches .store a span.1 span.2 ps → Completes s out (ps.map .byte) fun t =>
      ps.map (memRead t.mem) = splitBytes be span.2 (pick span.2)
  stores (exec (.swl base rt offset) s) (left 4) (fun n => (v &&& 0xFFFFFFFF) >>> (32 - 8 * n)) ∧
  stores (exec (.swr base rt offset) s) (right 4) (fun _ => v) ∧
  Leveled s 3 (exec (.sdl base rt offset) s)
    (stores (exec (.sdl base rt offset) s) (left 8) fun n => v >>> (64 - 8 * n)) ∧
  Leveled s 3 (exec (.sdr base rt offset) s)
    (stores (exec (.sdr base rt offset) s) (right 8) fun _ => v)

/-- In a plain big-endian environment, for every base register, every offset and every rt other than base and 0: LWL
with the offset, then LWR with the offset plus 3, both complete, and leave in rt the sign-extended word of the four
bytes from the effective address on, whatever its alignment; every byte of memory is unchanged. -/
def Obligations.LwlThenLwrLoadsAnUnalignedWord : Prop :=
  ∀ (s : State) (base rt : Reg) (offset : BitVec 16), s.Plain → rt ≠ 0 → rt ≠ base →
  let a := s.effAddr base offset
  a.toNat + 3 < 2 ^ 64 → offset.toInt + 3 < 2 ^ 15 →
  ∃ t u, exec (.lwl base rt offset) s = .next t ∧ exec (.lwr base rt (offset + 3)) t = .next u ∧
    regGet u.gpr rt = (memRead s.mem a.toNat ++ memRead s.mem (a.toNat + 1) ++ memRead s.mem (a.toNat + 2) ++
      memRead s.mem (a.toNat + 3) : BitVec (8 + 8 + 8 + 8)).signExtend 64 ∧
    ∀ x, memRead u.mem x = memRead s.mem x

/-- At an aligned cached address that is reached, LL (MIPS II) writes the sign-extended word, LLD (MIPS III) the
doubleword, to rt; LLbit becomes 1 and the link records the address, its translation and the width; nothing else
changes. Below MIPS IV the register that a move from the FPU has just written reads as any value, each read its own, and
a result computed from such a register is any value (R824; what beside the result then follows the value read, a trap or
whether an operand is a word value, is the model's reading, log entry 37). -/
def Obligations.LinkedLoadsBeginASequence : Prop :=
  ∀ (s : State) (base rt : Reg) (offset : BitVec 16),
  let a := s.effAddr base offset
  let links : Out → Nat → (Dword → Dword) → Prop := fun out n ext =>
    ∀ ps pa ty, alignedAt n a → s.offsetOk n offset → s.translate .load a = .ok (pa, ty) → ty.cached = true →
      s.Reaches .load a 0 (2 ^ n) ps →
      Completes s out [.gpr rt, .link] fun t =>
        (s.movedGpr [base] = false →
          regGet t.gpr rt = (if rt = 0 then regGet s.gpr 0 else s.norm (ext (s.memValue ps)))) ∧ t.llbit = true ∧
        t.llRecord = some ⟨a, pa, ty, decide (n = 3)⟩
  Leveled s 2 (exec (.ll base rt offset) s) (links (exec (.ll base rt offset) s) 2 fun v => (v.setWidth 32).signExtend 64) ∧
  Leveled s 3 (exec (.lld base rt offset) s) (links (exec (.lld base rt offset) s) 3 fun v => v)

/-- After a linked load, at an aligned cached address: with LLbit 1 and the link for this address and width, the bytes
of rt are stored and rt becomes 1; with LLbit 0 no byte changes and rt becomes 0. With no linked load yet, or LLbit 1
and another link, the instruction still runs and changes only rt, those bytes and LLbit. LLbit is 0 afterwards. Below
MIPS IV the register that a move from the FPU has just written reads as any value, as base and as rt each its own
(R824). That the success value is not any value then is the model's reading (log entry 37). -/
def Obligations.StoreConditionalsStoreOnlyWithTheLink : Prop :=
  ∀ (s : State) (base rt : Reg) (offset : BitVec 16),
  let a := s.effAddr base offset
  let conditional : Out → Nat → Prop := fun out n =>
    ∀ pa ty, alignedAt n a → s.offsetOk n offset → s.translate .store a = .ok (pa, ty) → ty.cached = true →
      let link : LinkRecord := ⟨a, pa, ty, decide (n = 3)⟩
      (∀ ps, s.llbit = true → s.llRecord = some link → s.Reaches .store a 0 (2 ^ n) ps →
        Completes s out (.gpr rt :: .link :: ps.map .byte) fun t =>
          ps.map (memRead t.mem) = splitBytes s.bigEndianCPU (2 ^ n) (s.getGpr2 rt) ∧
          regGet t.gpr rt = (if rt = 0 then regGet s.gpr 0 else s.norm 1) ∧ t.llbit = false) ∧
      (s.llbit = false → s.llRecord ≠ none →
        Completes s out [.gpr rt, .link] fun t =>
          regGet t.gpr rt = (if rt = 0 then regGet s.gpr 0 else s.norm 0) ∧ t.llbit = false) ∧
      (∀ ps, (s.llRecord = none ∨ (s.llbit = true ∧ s.llRecord ≠ some link)) → s.Reaches .store a 0 (2 ^ n) ps →
        Completes s out (.gpr rt :: .link :: ps.map .byte) fun t => t.llbit = false)
  Leveled s 2 (exec (.sc base rt offset) s) (conditional (exec (.sc base rt offset) s) 2) ∧
  Leveled s 3 (exec (.scd base rt offset) s) (conditional (exec (.scd base rt offset) s) 3)

/-- In a plain environment, for an aligned address, a base other than rt, a ru other than rt and 0: LL rt then SC ru
both complete, ru becomes 1 and the word of ru is stored; but when another agent stores into the linked block between
them, ru becomes 0 and the memory is as that agent left it. That the block is aligned to its own size is the spec's own
choice (D24, R232). -/
def Obligations.LlThenScIsAtomic : Prop :=
  ∀ (s : State) (base rt ru : Reg) (offset : BitVec 16) (pa : Nat) (b : Byte), s.Plain →
  let a := s.effAddr base offset
  alignedAt 2 a → offset.toNat % 4 = 0 → rt ≠ base → ru ≠ 0 → rt ≠ ru →
  ∃ t, exec (.ll base rt offset) s = .next t ∧
    (∃ u, exec (.sc base ru offset) t = .next u ∧ regGet u.gpr ru = 1 ∧
      ∀ i < 4, memRead u.mem (a.toNat + i) = (s.getGpr ru).extractLsb' (24 - 8 * i) 8) ∧
    (pa < 2 ^ 64 → pa / s.env.llBlockSize = a.toNat / s.env.llBlockSize →
      ∃ u, exec (.sc base ru offset) (t.externalStore pa b) = .next u ∧ regGet u.gpr ru = 0 ∧
        ∀ x, memRead u.mem x = if x = pa then b else memRead s.mem x)

/-- With coprocessor 2 usable and present: with its usual action the loads put the word into the low half of, or the
doubleword into, the named register of coprocessor 2, and the stores write its low bytes to the addressed bytes; with
another action the unit's registers become what it makes of the value, or the stores write what it supplies; nothing
else changes. Unusable, each raises Coprocessor Unusable (2); usable but absent, each is refused by name. LDC2 and SDC2
are MIPS II: below it, Reserved Instruction. Below MIPS IV the register that a move from the FPU has just written reads
as any value, each read its own, and a result computed from such a register is any value (R824; what beside the result
then follows the value read, a trap or whether an operand is a word value, is the model's reading, log entry 37). -/
def Obligations.CoprocessorTwoTransfersMoveData : Prop :=
  ∀ (s : State) (base rt : Reg) (offset : BitVec 16), 1 ≤ s.env.archLevel →
  let a := s.effAddr base offset
  let lw := exec (.lwc2 base rt offset) s
  let sw := exec (.swc2 base rt offset) s
  let ld := exec (.ldc2 base rt offset) s
  let sd := exec (.sdc2 base rt offset) s
  let c2 := regGet s.cop2Gen rt
  let loads : Out → Nat → Prop := fun out n => ∀ ps, alignedAt n a → s.offsetOk n offset →
    s.Reaches .load a 0 (2 ^ n) ps →
    ∃ v, (s.movedGpr [base] = false → v = s.memValue ps) ∧
    (s.env.cop2Usual = true → Completes s out [.cop2 rt] fun t =>
      if n = 3 then regGet t.cop2Gen rt = v else (regGet t.cop2Gen rt).setWidth 32 = v.setWidth 32) ∧
    (s.env.cop2Usual = false → Completes s out [.cop2Unit] fun t =>
      t.cop2Regs = Config.cop2Load s.free (n == 3) rt v s.cop2Regs)
  let stores : Out → Nat → Prop := fun out n => ∀ ps, alignedAt n a → s.offsetOk n offset →
    s.Reaches .store a 0 (2 ^ n) ps →
    (s.env.cop2Usual = true → Completes s out (ps.map .byte) fun t =>
      ps.map (memRead t.mem) = splitBytes s.bigEndianCPU (2 ^ n) c2) ∧
    (s.env.cop2Usual = false → Completes s out (.cop2Unit :: ps.map .byte) fun t =>
      let u := Config.cop2Store s.free (n == 3) rt s.cop2Regs
      ps.map (memRead t.mem) = splitBytes s.bigEndianCPU (2 ^ n) u.1 ∧ t.cop2Regs = u.2)
  (s.usable 2 = false → ∀ out ∈ [lw, sw, ld, sd], Raises s out (.coprocessorUnusable 2)) ∧
  (s.usable 2 = true → s.env.archLevel < 2 → Raises s ld .reservedInstruction ∧ Raises s sd .reservedInstruction) ∧
  (s.usable 2 = true → s.env.cop2Present = false →
    lw = .refused .unimplementedCoprocessor ∧ sw = .refused .unimplementedCoprocessor ∧
    (2 ≤ s.env.archLevel → ld = .refused .unimplementedCoprocessor ∧ sd = .refused .unimplementedCoprocessor)) ∧
  (s.usable 2 = true → s.env.cop2Present = true → loads lw 2 ∧ stores sw 2 ∧
    (2 ≤ s.env.archLevel → loads ld 3 ∧ stores sd 3))

/-- Unusable, COP0 and COP2 raise Coprocessor Unusable. With coprocessor 0 usable COP0 has the effect of the parameter
Cop0Op: an exception, or the general register, the mode, the usable bits, the FPU register model, the condition signal
and the flow of control that it names, LLbit clear after a return, memory and every other register unchanged; where no
Cop0Op is given it is refused by name (D30). With coprocessor 2 usable and present COP2 has the effect of the parameter
Cop2: an exception, or the unit's registers, a general register and the flow of control that it names, and nothing else
changed; with it absent it is refused by name. Control goes on, or to an address at once, or the operation is a branch,
whose slot is next, and which in the slot of a taken branch is refused by name. The form of the two parameters is the
model's (log entry 36). -/
def Obligations.CoprocessorOperations : Prop :=
  ∀ (s : State) (f : BitVec 26),
  let flows : CopFlow → State → Prop := fun w t => match w with
    | .next => t.pc = s.nextPc ∧ t.delay = .none ∧ t.afterBranch = false
    | .goto p => t.pc = s.norm p ∧ t.delay = .none ∧ t.afterBranch = false
    | .taken x => t.pc = s.pcPlus4 ∧ t.delay = .target (s.norm x) ∧ t.afterBranch = true
    | .notTaken => t.pc = s.pcPlus4 ∧ t.delay = .none ∧ t.afterBranch = true
    | .nullify => t.pc = s.pcPlus4 ∧ t.delay = .nullify ∧ t.afterBranch = false
  let answers : Out → Option Cause → CopFlow → (State → Prop) → Prop := fun out raises w post =>
    (∀ c, raises = some c → Raises s out c) ∧
    (raises = none → w.isBranch = true → ¬ s.notInTakenSlot → out = .refused .branchInDelaySlot) ∧
    (raises = none → w.isBranch = false ∨ s.notInTakenSlot → ∃ t, out = .next t ∧ flows w t ∧ post t)
  let writes : Option (Reg × Dword) → State → Prop := fun g t => ∀ q, regGet t.gpr q = match g with
    | some (r, v) => if q = r ∧ q ≠ 0 then s.norm v else regGet s.gpr q
    | none => regGet s.gpr q
  (s.usable 0 = false → Raises s (exec (.cop0 f) s) (.coprocessorUnusable 0)) ∧
  (s.usable 0 = true → s.env.cop0Given = false → exec (.cop0 f) s = .refused .cop0Operation) ∧
  (s.usable 0 = true → s.env.cop0Given = true → exec (.cop0 f) s = s.applyCop0 (Config.cop0Op false f s) ∧
    (s.notInTakenSlot → ∃ t, exec (.cop0 f) s = .next t)) ∧
  (∀ e : Cop0Effect, answers (s.applyCop0 e) e.raises e.flow fun t => writes e.gpr t ∧
      t.mode = e.mode ∧ t.cu = e.cu ∧ t.coc0 = e.coc0 ∧
      (t.llbit = true ↔ s.llbit = true ∧ e.unlink = false ∧ e.returns = false) ∧ t.llRecord = s.llRecord ∧
      t.statusFR = (if s.env.is64 then e.statusFR else s.statusFR) ∧
      t.saved = (if e.returns then s.saved.tail else s.saved) ∧
      t.hi = s.hi ∧ t.lo = s.lo ∧ t.fcsr = s.fcsr ∧ t.fcr0 = s.fcr0 ∧ t.cop2Regs = s.cop2Regs ∧ t.exc = s.exc ∧
      (s.env.is64 = false ∨ e.statusFR = s.statusFR → t.fgrLo = s.fgrLo ∧ t.fgrHi = s.fgrHi ∧ t.fprTag = s.fprTag) ∧
      ∀ x, memRead t.mem x = memRead s.mem x) ∧
  (s.usable 2 = false → Raises s (exec (.cop2 f) s) (.coprocessorUnusable 2)) ∧
  (s.usable 2 = true → 1 ≤ s.env.archLevel → s.env.cop2Present = true →
    exec (.cop2 f) s = s.applyCop2 (Config.cop2Op f s) ∧ (s.notInTakenSlot → ∃ t, exec (.cop2 f) s = .next t)) ∧
  (∀ e : Cop2Effect, answers (s.applyCop2 e) e.raises e.flow fun t => writes e.gpr t ∧ t.cop2Regs = e.regs ∧
      Frame s t (.cop2Unit :: match e.gpr with | some (r, _) => [.gpr r] | none => [])) ∧
  (s.usable 2 = true → 1 ≤ s.env.archLevel → s.env.cop2Present = false →
    exec (.cop2 f) s = .refused .unimplementedCoprocessor)

/-- PREF at MIPS IV, SYNC from MIPS II and PREFX at MIPS IV with coprocessor 1 usable and the region bits kept complete
and change no register and no byte; no prefetch raises an addressing exception. -/
def Obligations.HintsAndSyncOnlyAdvance : Prop :=
  ∀ (s : State) (base index : Reg) (hint stype : BitVec 5) (offset : BitVec 16),
  (4 ≤ s.env.archLevel → Completes s (exec (.pref base hint offset) s) [] fun _ => True) ∧
  Leveled s 2 (exec (.sync stype) s) (Completes s (exec (.sync stype) s) [] fun _ => True) ∧
  Cop1xLeveled s (exec (.prefx base index hint) s) (s.regionOk (s.indexedAddr base index) base →
    Completes s (exec (.prefx base index hint) s) [] fun _ => True)

/-- Outside the slot of a taken branch each of BEQ, BNE, BLEZ, BGTZ, BLTZ, BGEZ and their likely forms (MIPS II) makes
the slot next, sets the target pc + 4 + 4 * offset pending exactly when its comparison holds, nullifies the slot when a
likely form is not taken, and changes nothing else. rs and rt stand for the values read: below MIPS IV the register that
a move from the FPU has just written reads as any value, each read its own (R824). -/
def Obligations.ConditionalBranchesTestAndBranch : Prop :=
  ∀ (s : State) (rs rt : Reg) (offset : BitVec 16), s.notInTakenSlot →
  let target := s.norm (s.pcPlus4 + BitVec.ofInt 64 (4 * offset.toInt))
  Branches s (exec (.beq rs rt offset) s) [] (decide (s.getGpr rs = s.getGpr2 rt)) false target fun _ => True ∧
  Leveled s 2 (exec (.beql rs rt offset) s)
    (Branches s (exec (.beql rs rt offset) s) [] (decide (s.getGpr rs = s.getGpr2 rt)) true target fun _ => True) ∧
  Branches s (exec (.bne rs rt offset) s) [] (decide (s.getGpr rs ≠ s.getGpr2 rt)) false target fun _ => True ∧
  Leveled s 2 (exec (.bnel rs rt offset) s)
    (Branches s (exec (.bnel rs rt offset) s) [] (decide (s.getGpr rs ≠ s.getGpr2 rt)) true target fun _ => True) ∧
  Branches s (exec (.blez rs offset) s) [] (decide ((s.getGpr rs).toInt ≤ 0)) false target fun _ => True ∧
  Leveled s 2 (exec (.blezl rs offset) s)
    (Branches s (exec (.blezl rs offset) s) [] (decide ((s.getGpr rs).toInt ≤ 0)) true target fun _ => True) ∧
  Branches s (exec (.bgtz rs offset) s) [] (decide (0 < (s.getGpr rs).toInt)) false target fun _ => True ∧
  Leveled s 2 (exec (.bgtzl rs offset) s)
    (Branches s (exec (.bgtzl rs offset) s) [] (decide (0 < (s.getGpr rs).toInt)) true target fun _ => True) ∧
  Branches s (exec (.bltz rs offset) s) [] (decide ((s.getGpr rs).toInt < 0)) false target fun _ => True ∧
  Leveled s 2 (exec (.bltzl rs offset) s)
    (Branches s (exec (.bltzl rs offset) s) [] (decide ((s.getGpr rs).toInt < 0)) true target fun _ => True) ∧
  Branches s (exec (.bgez rs offset) s) [] (decide (0 ≤ (s.getGpr rs).toInt)) false target fun _ => True ∧
  Leveled s 2 (exec (.bgezl rs offset) s)
    (Branches s (exec (.bgezl rs offset) s) [] (decide (0 ≤ (s.getGpr rs).toInt)) true target fun _ => True)

/-- Outside the slot of a taken branch J and JAL go to the instruction index in the 256 MB region of the slot, JR and
JALR to the register; JAL links in register 31 and JALR, when rd is not rs, in rd, the address pc + 8; JALR with rs = rd
is refused by name. Below MIPS IV rs reads as any value right after a move from the FPU to it (R824); that the link is
pc + 8 even then is the model's reading (log entry 37). -/
def Obligations.JumpsAndLinksGoToTheirTargets : Prop :=
  ∀ (s : State) (rs rd : Reg) (index : BitVec 26), s.notInTakenSlot →
  let region : Dword := (s.pcPlus4 &&& ~~~0xFFFFFFF#64) ||| (index.setWidth 64 <<< 2)
  Branches s (exec (.j index) s) [] true false region (fun _ => True) ∧
  Branches s (exec (.jal index) s) [.gpr 31] true false region
    (fun t => regGet t.gpr 31 = s.norm (s.pc + 8)) ∧
  Branches s (exec (.jr rs) s) [] true false (s.getGpr rs) (fun _ => True) ∧
  (rs ≠ rd → Branches s (exec (.jalr rs rd) s) [.gpr rd] true false (s.getGpr rs)
    (fun t => regGet t.gpr rd = if rd = 0 then regGet s.gpr 0 else s.norm (s.pc + 8))) ∧
  (rs = rd → exec (.jalr rs rd) s = .refused .linkRestriction)

/-- Outside the slot of a taken branch and with rs not register 31, each writes pc + 8 to register 31 whether it
branches or not, and branches exactly when its comparison holds; with rs = 31 it is refused by name. The likely forms
are MIPS II. Below MIPS IV rs reads as any value right after a move from the FPU to it (R824); that the link is pc + 8
even then is the model's reading (log entry 37). -/
def Obligations.LinkingBranchesLinkTakenOrNot : Prop :=
  ∀ (s : State) (rs : Reg) (offset : BitVec 16), s.notInTakenSlot →
  let target := s.norm (s.pcPlus4 + BitVec.ofInt 64 (4 * offset.toInt))
  let links : Out → Bool → Bool → Prop := fun out taken likely =>
    (rs ≠ 31 → Branches s out [.gpr 31] taken likely target fun t => regGet t.gpr 31 = s.norm (s.pc + 8)) ∧
    (rs = 31 → out = .refused .linkRestriction)
  links (exec (.bltzal rs offset) s) (decide ((s.getGpr rs).toInt < 0)) false ∧
  Leveled s 2 (exec (.bltzall rs offset) s) (links (exec (.bltzall rs offset) s) (decide ((s.getGpr rs).toInt < 0)) true) ∧
  links (exec (.bgezal rs offset) s) (decide (0 ≤ (s.getGpr rs).toInt)) false ∧
  Leveled s 2 (exec (.bgezall rs offset) s) (links (exec (.bgezall rs offset) s) (decide (0 ≤ (s.getGpr rs).toInt)) true)

/-- For a BEQ whose registers are equal, outside the slot of a taken branch, followed by any instruction whose execution
in the slot advances: pc is then exactly the branch target; and for the BEQL whose registers differ the step over the
slot leaves every register and byte as they were and pc two words on. rs and rt stand for the values read: below MIPS IV
the register that a move from the FPU has just written reads as any value, each read its own (R824). -/
def Obligations.TheSlotRunsBeforeTheTarget : Prop :=
  ∀ (s : State) (rs rt : Reg) (offset : BitVec 16), s.notInTakenSlot → s.ended = false → s.trapped = false →
  (s.getGpr rs = s.getGpr2 rt → ∃ t, exec (.beq rs rt offset) s = .next t ∧
    ∀ (i : Instr) (w : List Part) (post : State → Prop), Completes t (exec i t) w post →
      ∃ u, exec i t = .next u ∧ u.pc = s.branchTarget offset ∧ u.delay = .none) ∧
  (2 ≤ s.env.archLevel → s.getGpr rs ≠ s.getGpr2 rt → ∃ t u, exec (.beql rs rt offset) s = .next t ∧ step t = .next u ∧
    Frame s u [] ∧ u.pc = s.norm (s.pc + 8) ∧ u.delay = .none)

/-- The spec leaves a branch or jump in such a slot undefined; the model refuses each of the jumps and branches there by
name, the likely ones from MIPS II on, the FPU ones with coprocessor 1 usable, the branch implemented and the condition
code 0 below MIPS IV. -/
def Obligations.BranchesInATakenSlotAreRefused : Prop :=
  ∀ (s : State) (target : Dword) (rs rt : Reg) (index : BitVec 26) (offset : BitVec 16) (cc : BitVec 3),
  s.delay = .target target →
  (∀ out ∈ [exec (.j index) s,
    exec (.jal index) s,
    exec (.jr rs) s,
    exec (.jalr rs rt) s,
    exec (.beq rs rt offset) s,
    exec (.bne rs rt offset) s,
    exec (.blez rs offset) s,
    exec (.bgtz rs offset) s,
    exec (.bltz rs offset) s,
    exec (.bgez rs offset) s,
    exec (.bltzal rs offset) s,
    exec (.bgezal rs offset) s], out = .refused .branchInDelaySlot) ∧
  (2 ≤ s.env.archLevel → ∀ out ∈ [exec (.beql rs rt offset) s,
    exec (.bnel rs rt offset) s,
    exec (.blezl rs offset) s,
    exec (.bgtzl rs offset) s,
    exec (.bltzl rs offset) s,
    exec (.bgezl rs offset) s,
    exec (.bltzall rs offset) s,
    exec (.bgezall rs offset) s],
    out = .refused .branchInDelaySlot) ∧
  (s.usable 1 = true → 1 ≤ s.env.archLevel → (s.env.archLevel < 4 → cc = 0) →
    (∀ i, s.fpTrapped i [] = false) →
    exec (.bc1f cc offset) s = .refused .branchInDelaySlot ∧ exec (.bc1t cc offset) s = .refused .branchInDelaySlot ∧
    (2 ≤ s.env.archLevel → exec (.bc1fl cc offset) s = .refused .branchInDelaySlot ∧
      exec (.bc1tl cc offset) s = .refused .branchInDelaySlot))

/-- With coprocessor 1 usable, each raises Reserved Instruction for a condition code other than 0 below MIPS IV, and
Unimplemented Operation where the implementation has no such branch. Otherwise, outside a taken slot and not right after
a compare or CTC1 of a lower level, each goes to its target exactly when the code is false (true); right after one the
branch still completes, one way or the other. The likely forms are MIPS II. Unimplemented Operation leaves E alone in
the cause field, but right after a CTC1 below MIPS IV any value there (R827; for a branch the model's reading, and that
the exception names E its choice, log entry 37). That such a word raises Reserved Instruction is the model's choice
under D4 (the spec leaves it undefined, R188 and R169; log entries 34 and 49). -/
def Obligations.FloatingPointBranchesTestTheConditionCode : Prop :=
  ∀ (s : State) (cc : BitVec 3) (offset : BitVec 16),
  let target := s.norm (s.pcPlus4 + BitVec.ofInt 64 (4 * offset.toInt))
  let badCode := s.env.archLevel < 4 ∧ cc ≠ 0
  let tests : Instr → Nat → Bool → Bool → Prop := fun i level tf likely =>
    let out := exec i s
    FpLeveled s level out
      ((badCode → Raises s out .reservedInstruction) ∧
       (¬ badCode → s.fpTrapped i [] = true → Unimplemented s out) ∧
       (¬ badCode → s.fpTrapped i [] = false → s.notInTakenSlot →
         (s.hazards.compare = false → s.hazards.ctc = false →
           Branches s out [] (fccOf s.fcsr cc == tf) likely target fun _ => True) ∧
         (s.hazards.compare = true ∨ s.hazards.ctc = true →
           ∃ taken, Branches s out [] taken likely target fun _ => True)))
  tests (.bc1f cc offset) 1 false false ∧ tests (.bc1t cc offset) 1 true false ∧
  tests (.bc1fl cc offset) 2 false true ∧ tests (.bc1tl cc offset) 2 true true

/-- Below their level the COP1X instructions and PREF, and LD and SD, are coprocessor 3 encodings at MIPS I and II:
unusable they raise Coprocessor Unusable (3), usable they are refused by name, but LD and SD at MIPS I raise Reserved
Instruction; on processors of MIPS III and up they raise Reserved Instruction, as they do at the other levels below;
opcode 111011 is such an encoding too, and raises Reserved Instruction at every level from MIPS III on. LDC1 and SDC1
below MIPS II raise Reserved Instruction. SQRT.S, RECIP.S and DMFC1 words with a required-zero field that is not zero
raise, with coprocessor 1 usable, the exception of a reserved FPU encoding below the level of the instruction, and
Reserved Instruction from it on. Opcode 101111: Reserved Instruction below MIPS II or when it is not used, Coprocessor
Unusable (0) in user mode without coprocessor 0, else a coprocessor 0 operation. Three of these are the model's choices,
not the spec's: Reserved Instruction for a required-zero field that is not zero, from the level on (D4; the source
raises none there, R705 and R169; log entry 34), the refusal of a usable coprocessor 3 (U11, log entry 36), and Reserved
Instruction for the LD and SD words of a usable coprocessor 3 at MIPS I (the table of R173 and U4, where the last
sentence of R173 says implementation specific; log entry 36). -/
def Obligations.EncodingsOfOtherLevels : Prop :=
  ∀ (s : State) (base index rt fd : Reg) (hint : BitVec 5) (offset : BitVec 16),
  let cop3 : Nat → Out → Prop := fun first out =>
    (s.env.procLevel ≤ 2 → s.usable 3 = false → Raises s out (.coprocessorUnusable 3)) ∧
    (s.env.procLevel ≤ 2 → s.usable 3 = true → s.env.archLevel < first → Raises s out .reservedInstruction) ∧
    (s.env.procLevel ≤ 2 → s.usable 3 = true → first ≤ s.env.archLevel → out = .refused .cop3Operation) ∧
    (2 < s.env.procLevel → Raises s out .reservedInstruction)
  let former : Nat → Nat → Out → Prop := fun first now out => s.env.archLevel < now →
    (s.env.archLevel ≤ 2 → cop3 first out) ∧ (2 < s.env.archLevel → Raises s out .reservedInstruction)
  former 1 4 (exec (.lwxc1 base index rt) s) ∧
  former 1 4 (exec (.ldxc1 base index rt) s) ∧
  former 1 4 (exec (.swxc1 base index rt) s) ∧
  former 1 4 (exec (.sdxc1 base index rt) s) ∧
  former 1 4 (exec (.maddS rt base index fd) s) ∧
  former 1 4 (exec (.maddD rt base index fd) s) ∧
  former 1 4 (exec (.msubS rt base index fd) s) ∧
  former 1 4 (exec (.msubD rt base index fd) s) ∧
  former 1 4 (exec (.nmaddS rt base index fd) s) ∧
  former 1 4 (exec (.nmaddD rt base index fd) s) ∧
  former 1 4 (exec (.nmsubS rt base index fd) s) ∧
  former 1 4 (exec (.nmsubD rt base index fd) s) ∧
  former 1 4 (exec (.prefx base index hint) s) ∧
  former 1 4 (exec (.pref base hint offset) s) ∧
  former 2 3 (exec (.ld base rt offset) s) ∧
  former 2 3 (exec (.sd base rt offset) s) ∧
  (s.usable 1 = true → s.env.archLevel < 2 → Raises s (exec (.ldc1 base rt offset) s) .reservedInstruction ∧
    Raises s (exec (.sdc1 base rt offset) s) .reservedInstruction) ∧
  (s.usable 1 = false → Raises s (exec (.ldc1 base rt offset) s) (.coprocessorUnusable 1) ∧
    Raises s (exec (.sdc1 base rt offset) s) (.coprocessorUnusable 1)) ∧
  ∀ w : Word, s.fetchBytes = .ok (bytesOfWord s.env.bigEndianMem w) →
    let out := s.runWord exec
    let op := w.extractLsb' 26 6
    let fmt := w.extractLsb' 21 5
    let fn := w.extractLsb' 0 6
    let zeroField : Nat → Prop := fun n => s.usable 1 = true →
      (s.env.archLevel < n → out = .next s.raiseReservedFpu) ∧ (n ≤ s.env.archLevel → Raises s out .reservedInstruction)
    (op = 0b111011#6 → (s.env.archLevel ≤ 2 → cop3 1 out) ∧
      (2 < s.env.archLevel → s.env.archLevel < 5 → Raises s out .reservedInstruction)) ∧
    (op = 0b010001#6 → fmt = 0b10000#5 → fn = 0b000100#6 → w.extractLsb' 16 5 ≠ 0#5 → zeroField 2) ∧
    (op = 0b010001#6 → fmt = 0b10000#5 → fn = 0b010101#6 → w.extractLsb' 16 5 ≠ 0#5 → zeroField 4) ∧
    (op = 0b010001#6 → fmt = 0b00001#5 → w.extractLsb' 0 11 ≠ 0#11 → zeroField 3) ∧
    (op = 0b101111#6 →
      (s.env.archLevel < 2 ∨ s.env.opcode2FUsed = false → Raises s out .reservedInstruction) ∧
      (2 ≤ s.env.archLevel → s.env.opcode2FUsed = true →
        (s.usable 0 = false → s.mode = .user → Raises s out (.coprocessorUnusable 0)) ∧
        (s.usable 0 = true ∨ s.mode ≠ .user →
          (s.env.cop0Given = false → out = .refused .cop0Operation) ∧
          (s.env.cop0Given = true → out = s.applyCop0 (Config.cop0Op true (w.extractLsb' 0 26) s)))))

/-- At an aligned address that is reached: the word forms put the word into the low half of the FGR, the doubleword
forms the doubleword into the FPR (an even register in the 32-bit model; with an odd one they still run and change only
the pair); the format state becomes uninterpreted; nothing else changes. LDC1 is MIPS II; the indexed forms are MIPS IV
and need the region bits of base. Below MIPS IV the register that a move from the FPU has just written reads as any
value, each read its own, and a result computed from such a register is any value (R824; what beside the result then
follows the value read, a trap or whether an operand is a word value, is the model's reading, log entry 37). -/
def Obligations.FpuLoadsFillTheFgr : Prop :=
  ∀ (s : State) (base index n : Reg) (offset : BitVec 16),
  let word : Out → List Reg → Dword → Prop := fun out l a => ∀ ps, s.Reaches .load a 0 4 ps →
    Completes s out (s.wordParts n) fun t =>
      (s.movedGpr l = false → regGet t.fgrLo n = (s.memValue ps).setWidth 32) ∧ t.tagOf n = .uninterpreted
  let dword : Out → List Reg → Dword → Prop := fun out l a => ∀ ps, s.Reaches .load a 0 8 ps →
    Completes s out (s.fprParts n) fun t =>
      (s.badFpr [n] = false → s.movedGpr l = false → t.pairBits n = s.memValue ps) ∧ t.tagOf n = .uninterpreted
  let a := s.effAddr base offset
  let x := s.indexedAddr base index
  FpLeveled s 0 (exec (.lwc1 base n offset) s)
    (alignedAt 2 a → s.offsetOk 2 offset → word (exec (.lwc1 base n offset) s) [base] a) ∧
  (s.usable 1 = true → 2 ≤ s.env.archLevel → alignedAt 3 a → s.offsetOk 3 offset → dword (exec (.ldc1 base n offset) s) [base] a) ∧
  Cop1xLeveled s (exec (.lwxc1 base index n) s)
    (s.regionOk x base → alignedAt 2 x → word (exec (.lwxc1 base index n) s) [base, index] x) ∧
  Cop1xLeveled s (exec (.ldxc1 base index n) s)
    (s.regionOk x base → alignedAt 3 x → dword (exec (.ldxc1 base index n) s) [base, index] x)

/-- At an aligned address that is reached, the addressed bytes read afterwards as the low word of the FGR, or the
doubleword of the FPR, when its format is known, no move to it just preceded below MIPS IV, and (for a doubleword) the
register names an FPR; otherwise the store still runs. Every other byte and all registers are unchanged. -/
def Obligations.FpuStoresWriteTheFgrBytes : Prop :=
  ∀ (s : State) (base index n : Reg) (offset : BitVec 16),
  let stores : Out → Dword → Nat → Prop → Dword → Prop := fun out a c known v => ∀ ps, s.Reaches .store a 0 c ps →
    Completes s out (ps.map .byte) fun t => known → ps.map (memRead t.mem) = splitBytes s.bigEndianCPU c v
  let w : Dword := (regGet s.fgrLo n).setWidth 64
  let a := s.effAddr base offset
  let x := s.indexedAddr base index
  let known := s.tagOf n ≠ .unknown ∧ s.hazards.moveFpr = []
  FpLeveled s 0 (exec (.swc1 base n offset) s)
    (alignedAt 2 a → s.offsetOk 2 offset → stores (exec (.swc1 base n offset) s) a 4 known w) ∧
  (s.usable 1 = true → 2 ≤ s.env.archLevel → alignedAt 3 a → s.offsetOk 3 offset →
    stores (exec (.sdc1 base n offset) s) a 8 (known ∧ s.badFpr [n] = false) (s.pairBits n)) ∧
  Cop1xLeveled s (exec (.swxc1 base index n) s)
    (s.regionOk x base → alignedAt 2 x → stores (exec (.swxc1 base index n) s) x 4 known w) ∧
  Cop1xLeveled s (exec (.sdxc1 base index n) s)
    (s.regionOk x base → alignedAt 3 x →
      stores (exec (.sdxc1 base index n) s) x 8 (known ∧ s.badFpr [n] = false) (s.pairBits n))

/-- With coprocessor 1 usable: MFC1 writes the sign-extended word of the FGR to rt and DMFC1 (MIPS III) the doubleword
of the FPR, when its format is known and no move to it just preceded; MTC1 puts the low word of rt into the FGR and
DMTC1 (MIPS III) rt into the FPR, which becomes uninterpreted. Otherwise they still run. Nothing else changes. -/
def Obligations.MovesBetweenCpuAndFpu : Prop :=
  ∀ (s : State) (rt n : Reg),
  let known := s.tagOf n ≠ .unknown ∧ s.hazards.moveFpr = []
  FpLeveled s 0 (exec (.mfc1 rt n) s)
    ((known → WritesGpr s (exec (.mfc1 rt n) s) rt ((regGet s.fgrLo n).signExtend 64)) ∧
     ∃ v, WritesGpr s (exec (.mfc1 rt n) s) rt v) ∧
  FpLeveled s 3 (exec (.dmfc1 rt n) s)
    ((known → s.badFpr [n] = false → WritesGpr s (exec (.dmfc1 rt n) s) rt (s.pairBits n)) ∧
     ∃ v, WritesGpr s (exec (.dmfc1 rt n) s) rt v) ∧
  FpLeveled s 0 (exec (.mtc1 rt n) s)
    (Completes s (exec (.mtc1 rt n) s) (s.wordParts n) fun t =>
      regGet t.fgrLo n = (s.getGpr rt).setWidth 32 ∧ t.tagOf n = .uninterpreted) ∧
  FpLeveled s 3 (exec (.dmtc1 rt n) s)
    (Completes s (exec (.dmtc1 rt n) s) (s.fprParts n) fun t =>
      (s.badFpr [n] = false → t.rawPair n = s.getGpr rt) ∧ t.tagOf n = .uninterpreted)

/-- With coprocessor 1 usable: CFC1 writes the FCSR (not right after a CTC1 below MIPS IV; in imprecise mode with any
cause field) or FCR0 to rt and still runs for a register that does not exist; CTC1 writes to the FCSR the bits of rt
that its level has, in imprecise mode each cause bit written also sets its flag, and when that sets cause E, or a cause
bit with its enable, raises Floating Point with the register written; CTC1 to register 0 changes at most FCR0; to a
register that does not exist it is refused by name. -/
def Obligations.ControlMovesReadAndWriteTheFcsr : Prop :=
  ∀ (s : State) (rt n : Reg),
  let w : Word := (s.getGpr rt).setWidth 32 &&& s.fcsrMask
  let v : Word := match s.env.fpMode with
    | .precise => w
    | .imprecise => w ||| ((w.extractLsb' 12 5).setWidth 32 <<< 2)
  let traps : Prop := v.getLsbD 17 = true ∨ (v.extractLsb' 12 5 &&& v.extractLsb' 7 5) ≠ 0
  FpLeveled s 0 (exec (.cfc1 rt n) s)
    ((n = 31 → s.hazards.ctc = false → s.env.fpMode = .precise →
      WritesGpr s (exec (.cfc1 rt n) s) rt (s.fcsr.signExtend 64)) ∧
     (n = 31 → s.hazards.ctc = false → s.env.fpMode = .imprecise →
      ∃ cause, WritesGpr s (exec (.cfc1 rt n) s) rt ((withCause s.fcsr cause).signExtend 64)) ∧
     (n = 0 → WritesGpr s (exec (.cfc1 rt n) s) rt (s.fcr0.setWidth 64)) ∧
     ∃ x, WritesGpr s (exec (.cfc1 rt n) s) rt x) ∧
  FpLeveled s 0 (exec (.ctc1 rt n) s)
    ((n = 31 → ¬ traps → Completes s (exec (.ctc1 rt n) s) [.fcsr] fun t => t.fcsr = v) ∧
     (n = 31 → traps → exec (.ctc1 rt n) s = .next (State.raise { s with fcsr := v } (.floatingPoint (causeOf v)))) ∧
     (n = 0 → Completes s (exec (.ctc1 rt n) s) [.fcr0] fun _ => True) ∧
     (n ≠ 0 → n ≠ 31 → exec (.ctc1 rt n) s = .refused .noSuchControlRegister))

/-- Each, in S and D, with its operands readable (SQRT from MIPS II; RECIP, RSQRT and the multiply-accumulates at MIPS
IV), delivers the result of its operation on the operand values, a denormalized one flushed where the implementation
does so, in the rounding mode of the FCSR (a NaN result first when an operand is a NaN). In precise mode it sets the
cause field and adds the flags, or with an enabled condition raises Floating Point and writes neither the destination
nor a flag; in imprecise mode it completes, its cause field without meaning, and an enabled condition makes a trap
pending. Nothing else changes but the format states it settles. A register that names no FPR leaves the destination
unknown; an operand with no value in the format leaves it unknown or takes a trap; an operation not implemented for its
operands, or a denormalized result left to software, raises Unimplemented Operation. Which trap an operand without a
value takes, in precise mode Floating Point at once, in imprecise mode Unimplemented Operation at once or a pending one,
is the model's choice (log entry 39; R523 and D31 leave open whether a trap is taken). Right after a move to a source
below MIPS IV the result is any value (R825); that the conditions are those of the operand values read, each read any
value, is the model's reading (log entry 37). Right after a CTC1 below MIPS IV the FCSR that the instruction sees is
any, and so are the cause field and the flags it leaves (R827); that its exception then names the conditions computed, E
for an unimplemented operation, is the model's choice (log entry 37), as it is that with a register that names no FPR
the format states of the other sources stay (log entry 38). -/
def Obligations.FloatingPointArithmeticDelivers : Prop :=
  ∀ (s : State) (fr ft fs fd : Reg),
  let z := flushOperand s.env
  let binary : FpFmt → Instr → (FpFmt → Word → Dword → Dword → Rounded) → Prop := fun fmt i g =>
    FpLeveled s 0 (exec i s) ((∀ a b, s.FpReady i fmt [fs, ft] [fd] [a, b] →
      FpResult s (exec i s) fmt [fs, ft] (.fpr fd fmt) false fun f =>
        nanFirst s.env fmt [z fmt f a, z fmt f b] (g fmt f (z fmt f a) (z fmt f b))) ∧
      FpAside s (exec i s) i fmt [fs, ft] (.fpr fd fmt))
  let unary : FpFmt → Nat → Instr → (FpFmt → Word → Dword → Rounded) → Prop := fun fmt n i g =>
    FpLeveled s n (exec i s) ((∀ a, s.FpReady i fmt [fs] [fd] [a] →
      FpResult s (exec i s) fmt [fs] (.fpr fd fmt) false fun f =>
        nanFirst s.env fmt [z fmt f a] (g fmt f (z fmt f a))) ∧
      FpAside s (exec i s) i fmt [fs] (.fpr fd fmt))
  let ternary : FpFmt → Instr → Bool → Bool → Prop := fun fmt i sub neg =>
    Cop1xLeveled s (exec i s) ((∀ a b c, s.FpReady i fmt [fs, ft, fr] [fd] [a, b, c] →
      FpResult s (exec i s) fmt [fs, ft, fr] (.fpr fd fmt) false fun f =>
        nanFirst s.env fmt [z fmt f a, z fmt f b, z fmt f c]
          (fpMulAcc s.env fmt f sub neg (z fmt f a) (z fmt f b) (z fmt f c))) ∧
      FpAside s (exec i s) i fmt [fs, ft, fr] (.fpr fd fmt))
  binary .S (.addS ft fs fd) fpAdd ∧
  binary .D (.addD ft fs fd) fpAdd ∧
  binary .S (.subS ft fs fd) fpSub ∧
  binary .D (.subD ft fs fd) fpSub ∧
  binary .S (.mulS ft fs fd) fpMul ∧
  binary .D (.mulD ft fs fd) fpMul ∧
  binary .S (.divS ft fs fd) fpDiv ∧
  binary .D (.divD ft fs fd) fpDiv ∧
  unary .S 2 (.sqrtS fs fd) fpSqrt ∧
  unary .D 2 (.sqrtD fs fd) fpSqrt ∧
  unary .S 0 (.absS fs fd) (fun f _ a => fpAbs f a) ∧
  unary .D 0 (.absD fs fd) (fun f _ a => fpAbs f a) ∧
  unary .S 0 (.negS fs fd) (fun f _ a => fpNeg f a) ∧
  unary .D 0 (.negD fs fd) (fun f _ a => fpNeg f a) ∧
  unary .S 4 (.recipS fs fd) fpRecip ∧
  unary .D 4 (.recipD fs fd) fpRecip ∧
  unary .S 4 (.rsqrtS fs fd) fpRsqrt ∧
  unary .D 4 (.rsqrtD fs fd) fpRsqrt ∧
  ternary .S (.maddS fr ft fs fd) false false ∧
  ternary .D (.maddD fr ft fs fd) false false ∧
  ternary .S (.msubS fr ft fs fd) true false ∧
  ternary .D (.msubD fr ft fs fd) true false ∧
  ternary .S (.nmaddS fr ft fs fd) false true ∧
  ternary .D (.nmaddD fr ft fs fd) false true ∧
  ternary .S (.nmsubS fr ft fs fd) true true ∧
  ternary .D (.nmsubD fr ft fs fd) true true

/-- A condition code other than 0 below MIPS IV raises Reserved Instruction. Otherwise, with the operands readable, each
C.cond.fmt sets FCC[cc] to (less and bit 2) or (equal and bit 1) or (unordered and bit 0) of its condition, where
unordered holds exactly when an operand is a NaN; the cause field and flags get Invalid Operation exactly when an
operand is a signaling NaN, or unordered holds and bit 3 is set; enabled, that raises Floating Point instead in precise
mode, and makes a trap pending in imprecise mode, where Invalid Operation sets no flag. Nothing else changes. An operand
with no value in the format leaves the condition code undefined or takes a trap. That a word with such a code raises
Reserved Instruction is the model's choice under D4 (the spec leaves it undefined, R188 and R169; log entries 34 and
49). Which trap an operand without a value takes, in precise mode Floating Point at once, in imprecise mode
Unimplemented Operation at once or a pending one, is the model's choice (log entry 39; R523 and D31 leave open whether a
trap is taken). Right after a move to a source below MIPS IV the result is any value (R825); that the conditions are
those of the operand values read, each read any value, is the model's reading (log entry 37). Right after a CTC1 below
MIPS IV the FCSR that the instruction sees is any, and so are the cause field and the flags it leaves (R827); that its
exception then names the conditions computed, E for an unimplemented operation, is the model's choice (log entry 37), as
it is that with a register that names no FPR the format states of the other sources stay (log entry 38). -/
def Obligations.ComparesSetTheConditionCode : Prop :=
  ∀ (s : State) (ft fs : Reg) (cc : BitVec 3),
  let badCode := s.env.archLevel < 4 ∧ cc ≠ 0
  let compares : FpFmt → Nat → Instr → Prop := fun fmt k i =>
    FpLeveled s 0 (exec i s) ((badCode → Raises s (exec i s) .reservedInstruction) ∧ (¬ badCode →
      FpAside s (exec i s) i fmt [fs, ft] (.cond cc) ∧
      ∀ x y, s.FpReady i fmt [fs, ft] [] [x, y] → FpResult s (exec i s) fmt [fs, ft] (.cond cc) true fun f =>
      let a := flushOperand s.env fmt f x
      let b := flushOperand s.env fmt f y
      let unordered := isNaN fmt a || isNaN fmt b
      let holds := (k.testBit 2 && !unordered && decide (orderKey fmt a < orderKey fmt b)) ||
        (k.testBit 1 && !unordered && decide (orderKey fmt a = orderKey fmt b)) || (k.testBit 0 && unordered)
      let invalidOp := isSNaN fmt a || isSNaN fmt b || (unordered && k.testBit 3)
      ⟨if invalidOp then condV else 0, (BitVec.ofBool holds).setWidth 64⟩))
  compares .S 0 (.cFS ft fs cc) ∧
  compares .D 0 (.cFD ft fs cc) ∧
  compares .S 1 (.cUnS ft fs cc) ∧
  compares .D 1 (.cUnD ft fs cc) ∧
  compares .S 2 (.cEqS ft fs cc) ∧
  compares .D 2 (.cEqD ft fs cc) ∧
  compares .S 3 (.cUeqS ft fs cc) ∧
  compares .D 3 (.cUeqD ft fs cc) ∧
  compares .S 4 (.cOltS ft fs cc) ∧
  compares .D 4 (.cOltD ft fs cc) ∧
  compares .S 5 (.cUltS ft fs cc) ∧
  compares .D 5 (.cUltD ft fs cc) ∧
  compares .S 6 (.cOleS ft fs cc) ∧
  compares .D 6 (.cOleD ft fs cc) ∧
  compares .S 7 (.cUleS ft fs cc) ∧
  compares .D 7 (.cUleD ft fs cc) ∧
  compares .S 8 (.cSfS ft fs cc) ∧
  compares .D 8 (.cSfD ft fs cc) ∧
  compares .S 9 (.cNgleS ft fs cc) ∧
  compares .D 9 (.cNgleD ft fs cc) ∧
  compares .S 10 (.cSeqS ft fs cc) ∧
  compares .D 10 (.cSeqD ft fs cc) ∧
  compares .S 11 (.cNglS ft fs cc) ∧
  compares .D 11 (.cNglD ft fs cc) ∧
  compares .S 12 (.cLtS ft fs cc) ∧
  compares .D 12 (.cLtD ft fs cc) ∧
  compares .S 13 (.cNgeS ft fs cc) ∧
  compares .D 13 (.cNgeD ft fs cc) ∧
  compares .S 14 (.cLeS ft fs cc) ∧
  compares .D 14 (.cLeD ft fs cc) ∧
  compares .S 15 (.cNgtS ft fs cc) ∧
  compares .D 15 (.cNgtD ft fs cc)

/-- For all finite single or double patterns, one is below the other in the order the compares use exactly when its
numeric value, as a rational, is below; in particular the two zeros are equal. Minus infinity is below every number and
below plus infinity, every number is below plus infinity, and two infinities of one sign are equal. -/
def Obligations.TheOrderKeyIsTheNumericOrder : Prop :=
  ∀ (fmt : FpFmt) (a b : Dword), fmt = .S ∨ fmt = .D →
  ((fpVal fmt a).finite = true → (fpVal fmt b).finite = true →
    (orderKey fmt a < orderKey fmt b ↔ (fpVal fmt a).toRat < (fpVal fmt b).toRat) ∧
    (orderKey fmt a = orderKey fmt b ↔ (fpVal fmt a).toRat = (fpVal fmt b).toRat)) ∧
  (fpVal fmt a = .inf true → (fpVal fmt b).finite = true ∨ fpVal fmt b = .inf false → orderKey fmt a < orderKey fmt b) ∧
  ((fpVal fmt a).finite = true → fpVal fmt b = .inf false → orderKey fmt a < orderKey fmt b) ∧
  ∀ neg, fpVal fmt a = .inf neg → fpVal fmt b = .inf neg → orderKey fmt a = orderKey fmt b

/-- Dropping k bits of a magnitude gives a multiple at most half a unit away, the even one of two, in mode RN; drops the
bits in RZ; rounds the signed value up and down in RP and RM; and is inexact exactly when a dropped bit was set.
RoundResult of any nonzero number (a magnitude m * 2^e with a sign, plus less than one unit of m when it is marked so)
delivers that number rounded once: in range with Inexact when it differs, the overflow defaults of Table B-4 with
Overflow, or the denormalized rounding, flushed by FS, with Underflow. A normalized number of the format is delivered as
itself, without a condition. That a flushed result is a zero of the same sign with Underflow and Inexact, in every mode,
is the spec's own decision D34 and no text of the source (log entry 42): what a proof takes from FS = 1 depends on it.
-/
def Obligations.ResultsAreRoundedOnce : Prop :=
  (∀ (neg : Bool) (m k : Nat),
    let rn := roundShift 0 neg m false k
    let rz := roundShift 1 neg m false k
    let rp := roundShift 2 neg m false k
    let rm := roundShift 3 neg m false k
    (2 * (rn.1 * 2 ^ k) ≤ 2 * m + 2 ^ k ∧ 2 * m ≤ 2 * (rn.1 * 2 ^ k) + 2 ^ k) ∧
    ((2 * (rn.1 * 2 ^ k) = 2 * m + 2 ^ k ∨ 2 * m = 2 * (rn.1 * 2 ^ k) + 2 ^ k) → rn.1 % 2 = 0) ∧
    (rz.1 * 2 ^ k ≤ m ∧ m < (rz.1 + 1) * 2 ^ k) ∧
    (if neg then rp = rz else m ≤ rp.1 * 2 ^ k ∧ rp.1 * 2 ^ k < m + 2 ^ k) ∧
    (if neg then m ≤ rm.1 * 2 ^ k ∧ rm.1 * 2 ^ k < m + 2 ^ k else rm = rz) ∧
    (rn.2 = true ↔ m % 2 ^ k ≠ 0) ∧ rz.2 = rn.2 ∧ rp.2 = rn.2 ∧ rm.2 = rn.2) ∧
  ∀ (fmt : FpFmt) (f : Word) (neg : Bool) (m : Nat) (e : Int), fmt = .S ∨ fmt = .D →
    (0 < m → RoundedOnce fmt f neg ((if neg then -1 else 1) * m * 2 ^ e) (roundResult fmt f neg m e false)) ∧
    (∀ θ : ℝ, 0 < θ → θ < 1 → 2 ^ (precOf fmt + 2) ≤ m →
      RoundedOnce fmt f neg ((if neg then -1 else 1) * (m + θ) * 2 ^ e) (roundResult fmt f neg m e true)) ∧
    (2 ^ (precOf fmt - 1) ≤ m → m < 2 ^ precOf fmt →
      eminOf fmt ≤ e + (precOf fmt - 1 : Nat) → e + (precOf fmt - 1 : Nat) ≤ emaxOf fmt →
      ∃ b, roundResult fmt f neg m e false = ⟨0, b⟩ ∧ fpVal fmt b = .num neg m e)

/-- For all single or double patterns: of two finite numbers with an exact sum, difference, product or quotient that is
not zero, and of a number above zero with its exact root, the operation delivers that real number rounded once. An exact
zero has the sign of both operands, or of the product, and, where two of opposite sign cancel, minus in RM only.
Division of a nonzero number by zero is Division by Zero with an infinity; the operations with infinities give an
infinity, a zero, or Invalid Operation with the new QNaN, by their tables. With a NaN operand the result is one of the
quiet ones, or the new QNaN where there is none, and Invalid Operation arises exactly for a signaling one; with no NaN
operand the rule of the NaNs leaves the result of the operation as it is. ABS delivers the operand with its sign bit
cleared, NEG with its sign bit inverted, without a condition. An operand is taken as a zero of its sign exactly when it
is denormalized, FS is set and the implementation flushes operands. -/
def Obligations.ArithmeticRoundsTheExactResult : Prop :=
  ∀ (fmt : FpFmt) (f : Word) (a b : Dword), fmt = .S ∨ fmt = .D →
  let x : ℝ := (fpVal fmt a).toRat
  let y : ℝ := (fpVal fmt b).toRat
  let sa := signField fmt a
  let sb := signField fmt b
  let once : ℝ → Rounded → Prop := fun v o => ∃ neg, RoundedOnce fmt f neg v o
  let zero : Bool → Rounded → Prop := fun neg o => o.conds = 0 ∧ fpVal fmt o.bits = .zero neg
  let inf : Bool → Rounded → Prop := fun neg o => o.conds = 0 ∧ fpVal fmt o.bits = .inf neg
  let bad : Rounded → Prop := fun o => o = ⟨condV, newQNaN fmt⟩
  let finA := (fpVal fmt a).finite = true
  let finB := (fpVal fmt b).finite = true
  let infA := fpVal fmt a = .inf sa
  let infB := fpVal fmt b = .inf sb
  let sums : Bool → ℝ → Rounded → Prop := fun tb v o =>
    (finA → finB → v ≠ 0 → once v o) ∧
    (finA → finB → v = 0 → zero (if sa = tb then sa else decide (rmOf f = 3)) o) ∧
    (infA → finB → inf sa o) ∧ (finA → infB → inf tb o) ∧
    (infA → infB → if sa = tb then inf sa o else bad o)
  sums sb (x + y) (fpAdd fmt f a b) ∧
  sums (!sb) (x - y) (fpSub fmt f a b) ∧
  (let o := fpMul fmt f a b;
    (finA → finB → x * y ≠ 0 → once (x * y) o) ∧ (finA → finB → x * y = 0 → zero (sa ^^ sb) o) ∧
    (infA → infB ∨ (finB ∧ y ≠ 0) → inf (sa ^^ sb) o) ∧ (infB → finA ∧ x ≠ 0 → inf (sa ^^ sb) o) ∧
    ((infA ∧ finB ∧ y = 0) ∨ (infB ∧ finA ∧ x = 0) → bad o)) ∧
  (let o := fpDiv fmt f a b;
    (finA → finB → x ≠ 0 → y ≠ 0 → once (x / y) o) ∧ (finA → x = 0 → infB ∨ (finB ∧ y ≠ 0) → zero (sa ^^ sb) o) ∧
    (finA → x ≠ 0 → finB → y = 0 → o.conds = condZ ∧ fpVal fmt o.bits = .inf (sa ^^ sb)) ∧
    (infA → finB → inf (sa ^^ sb) o) ∧ (finA → infB → zero (sa ^^ sb) o) ∧
    ((infA ∧ infB) ∨ (finA ∧ x = 0 ∧ finB ∧ y = 0) → bad o)) ∧
  (let o := fpSqrt fmt f a;
    (finA → 0 < x → once (Real.sqrt x) o) ∧ (finA → x = 0 → zero sa o) ∧ (finA → x < 0 → bad o) ∧
    (infA → if sa then bad o else inf false o)) ∧
  (let o := fpAbs fmt a;
    o.conds = 0 ∧ signField fmt o.bits = false ∧ ∀ i, i ≠ signPos fmt → o.bits.getLsbD i = a.getLsbD i) ∧
  (let o := fpNeg fmt a;
    o.conds = 0 ∧ signField fmt o.bits = !sa ∧ ∀ i, i ≠ signPos fmt → o.bits.getLsbD i = a.getLsbD i) ∧
  (∀ env : Env, let tiny := finA ∧ x ≠ 0 ∧ |x| < 2 ^ eminOf fmt
    (env.fsOperandFlush = true ∧ fsOf f = true ∧ tiny → fpVal fmt (flushOperand env fmt f a) = .zero sa) ∧
    (¬ (env.fsOperandFlush = true ∧ fsOf f = true ∧ tiny) → flushOperand env fmt f a = a)) ∧
  ∀ (env : Env) (l : List Dword) (r : Rounded),
    (l.any (isNaN fmt) = false → nanFirst env fmt l r = r) ∧
    (l.any (isNaN fmt) = true →
    let o := nanFirst env fmt l r
    o.conds = (if l.any (isSNaN fmt) then condV else 0) ∧
    ((o.bits ∈ l ∧ fpVal fmt o.bits = .nan false) ∨ (o.bits = newQNaN fmt ∧ ∀ c ∈ l, isNaN fmt c = true → isSNaN fmt c = true)))

/-- In the unrounded model the multiply-accumulates of three finite numbers deliver fs * ft plus or minus fr rounded
once, its sign then inverted for the negated ones; an exact zero as the addition has it; zero times an infinity, and an
infinite product with the opposite infinity to add, are Invalid Operation with the new QNaN; another infinity, of the
product or to add, is delivered without a condition, its sign inverted for the negated ones. In the rounded model they
deliver, for numbers and infinities, the sum of the rounded product and fr, with the conditions of both, the product's
alone when it is invalid, or when in precise mode it has an enabled condition. CVT between S and D delivers the number
rounded once, a zero or infinity as itself, a NaN as a quiet NaN with Invalid Operation exactly when it is signaling;
CVT of an integer delivers it rounded once. In the rounded model the union of the conditions of both steps, the stop at
an enabled condition of the product, and that a NaN result is not negated, are the spec's own choice D37 (R596; log
entry 44). -/
def Obligations.MultiplyAccumulateAndConversionsRoundTheExactResult : Prop :=
  ∀ (fmt : FpFmt) (f : Word) (env : Env), fmt = .S ∨ fmt = .D →
  (∀ (sub neg : Bool) (a b c : Dword), isNaN fmt a = false → isNaN fmt b = false → isNaN fmt c = false →
    let o := fpMulAcc env fmt f sub neg a b c
    let fin : Dword → Prop := fun y => (fpVal fmt y).finite = true
    let inf : Dword → Prop := fun y => fpVal fmt y = .inf (signField fmt y)
    let nil : Dword → Prop := fun y => fpVal fmt y = .zero (signField fmt y)
    let bad := o = ⟨condV, newQNaN fmt⟩
    let infinite : Bool → Prop := fun sign => o.conds = 0 ∧ fpVal fmt o.bits = .inf (sign ^^ neg)
    let turned : Bool → Dword → Dword := fun turn v => if turn then fpNegate fmt v else v
    let v : ℝ := (fpVal fmt a).toRat * (fpVal fmt b).toRat +
      (if sub then -1 else 1) * (fpVal fmt c).toRat
    let sp := signField fmt a ^^ signField fmt b
    let sc := signField fmt c ^^ sub
    let p := fpMul fmt f a b
    let q := fpAdd fmt f p.bits (turned sub c)
    (env.maddModel = .unrounded →
      (fin a → fin b → fin c → v ≠ 0 → ∃ sign, RoundedOnce fmt f sign v ⟨o.conds, turned neg o.bits⟩) ∧
      (fin a → fin b → fin c → v = 0 →
        o.conds = 0 ∧ fpVal fmt o.bits = .zero ((if sp = sc then sp else decide (rmOf f = 3)) ^^ neg)) ∧
      ((nil a ∧ inf b) ∨ (inf a ∧ nil b) → bad) ∧
      ((inf a ∧ ¬ nil b) ∨ (inf b ∧ ¬ nil a) →
        (inf c ∧ sc ≠ sp → bad) ∧ (fin c ∨ sc = sp → infinite sp)) ∧
      (fin a → fin b → inf c → infinite sc)) ∧
    (env.maddModel = .rounded →
      (p.conds &&& condV ≠ 0 → bad) ∧
      (p.conds &&& condV = 0 → env.fpMode = .precise ∧ p.conds &&& enablesOf f ≠ 0 → o.conds = p.conds) ∧
      (p.conds &&& condV = 0 → env.fpMode ≠ .precise ∨ p.conds &&& enablesOf f = 0 →
        o = ⟨p.conds ||| q.conds, turned (neg && !isNaN fmt q.bits) q.bits⟩))) ∧
  (∀ (src : FpFmt) (a : Dword), src = .S ∨ src = .D →
    let o := fpConvert env src fmt f a
    ((fpVal src a).finite = true → ((fpVal src a).toRat : ℝ) ≠ 0 → ∃ sign, RoundedOnce fmt f sign ((fpVal src a).toRat : ℝ) o) ∧
    (∀ sign, fpVal src a = .zero sign → o.conds = 0 ∧ fpVal fmt o.bits = .zero sign) ∧
    (∀ sign, fpVal src a = .inf sign → o.conds = 0 ∧ fpVal fmt o.bits = .inf sign) ∧
    (∀ signaling, fpVal src a = .nan signaling →
      o.conds = (if signaling then condV else 0) ∧ fpVal fmt o.bits = .nan false)) ∧
  ∀ i : Int, (i ≠ 0 → ∃ sign, RoundedOnce fmt f sign (i : ℝ) (fromInt fmt f i)) ∧
    (i = 0 → (fromInt fmt f i).conds = 0 ∧ fpVal fmt (fromInt fmt f i).bits = .zero false)

/-- For every single or double number other than zero RECIP, and for every one above zero RSQRT, delivers, unless the
rounded result overflows or is flushed by FS (then that rounded result), a number of the right sign that differs by no
more than one (two) units in its last place from the exact result, and from the exact result rounded once; without
Inexact it is the exact one; no other condition than Overflow, Underflow and Inexact arises. Of zero they give an
infinity of its sign with Division by Zero; RECIP of an infinity gives a zero of its sign, RSQRT of plus infinity plus
zero, RSQRT of anything below zero Invalid Operation. Which of these results is delivered is free (U79, log entry 43).
Two clauses are the model's by log entry 43, not the spec's, whose bound speaks of neither: that a rounded result which
overflows, or is flushed by FS, is delivered exactly (its DESIGN CHOICE), and that the unit in the last place is taken
at the delivered number (its reading). -/
def Obligations.ReciprocalsAreWithinTheirUlps : Prop :=
  ∀ (fmt : FpFmt) (f : Word) (a : Dword), fmt = .S ∨ fmt = .D →
  let x : ℝ := (fpVal fmt a).toRat
  let sign := signField fmt a
  let within : ℝ → ℝ → Rounded → Prop := fun n v o =>
    ∃ once, RoundedOnce fmt f sign v once ∧
      (once.conds &&& condO ≠ 0 ∨ (fsOf f = true ∧ once.conds &&& condU ≠ 0) → o = once) ∧
      (once.conds &&& condO = 0 → ¬ (fsOf f = true ∧ once.conds &&& condU ≠ 0) →
        let w : ℝ := (fpVal fmt o.bits).toRat
        let ulp : ℝ := 2 ^ ulpExp fmt o.bits
        (fpVal fmt o.bits).finite = true ∧ signField fmt o.bits = sign ∧
        |w - v| ≤ n * ulp ∧ |w - ((fpVal fmt once.bits).toRat : ℝ)| ≤ n * ulp ∧
        (o.conds &&& condI = 0 → w = v) ∧ o.conds &&& ~~~(condO ||| condU ||| condI) = 0)
  ((fpVal fmt a).finite = true → x ≠ 0 → within 1 (1 / x) (fpRecip fmt f a)) ∧
  ((fpVal fmt a).finite = true → 0 < x → within 2 (1 / Real.sqrt x) (fpRsqrt fmt f a)) ∧
  (fpVal fmt a = .zero sign → fpRecip fmt f a = ⟨condZ, fpInf fmt sign⟩ ∧ fpRsqrt fmt f a = ⟨condZ, fpInf fmt sign⟩) ∧
  (fpVal fmt a = .inf sign → fpRecip fmt f a = ⟨0, fpZero fmt sign⟩) ∧
  (fpVal fmt a = .inf false → fpRsqrt fmt f a = ⟨0, fpZero fmt false⟩) ∧
  ((fpVal fmt a).finite = true → x < 0 → fpRsqrt fmt f a = ⟨condV, newQNaN fmt⟩) ∧
  (fpVal fmt a = .inf true → fpRsqrt fmt f a = ⟨condV, newQNaN fmt⟩)

/-- For every single or double number and every rounding mode: the number rounded once to an integer (to the nearest, of
two to the even one; toward zero; up; down) is delivered in the fixed format when it fits there, with Inexact exactly
when it differs; when it does not fit, and for infinities and NaNs, Invalid Operation with the largest fixed-point
number. -/
def Obligations.FixedPointConversionRounds : Prop :=
  ∀ (fmt : FpFmt) (mode : BitVec 2) (n : Nat) (a : Dword), fmt = .S ∨ fmt = .D → n = 31 ∨ n = 63 →
  let r := toFixed fmt mode n a
  let x : ℝ := (fpVal fmt a).toRat
  ((fpVal fmt a).finite = true → ∃ i : Int, RoundsTo mode 1 x i ∧
    (fits n i → r.bits = (BitVec.ofInt (n + 1) i).setWidth 64 ∧ ((i : ℝ) = x → r.conds = 0) ∧
      ((i : ℝ) ≠ x → r.conds = condI)) ∧
    (¬ fits n i → r = ⟨condV, BitVec.ofNat 64 (2 ^ n - 1)⟩)) ∧
  ((fpVal fmt a).finite = false → r = ⟨condV, BitVec.ofNat 64 (2 ^ n - 1)⟩)

/-- With the operand readable, each conversion from S or D to W or L delivers the value rounded in its own mode (RN, RZ,
RP, RM) or, for CVT, in that of the FCSR, with Invalid Operation when it does not fit; CVT.S.D and CVT.D.S deliver the
converted number, infinity, zero or NaN, and CVT from W (the signed low word) and L the rounded integer; in precise mode
all set cause and flags and change nothing else, or with an enabled condition raise Floating Point; in imprecise mode
they complete, with an enabled condition leave a trap pending, and conversions to W and L set no flag for Invalid
Operation. A register that names no FPR, an operand with no value in the format, and an unimplemented operation end as
in the arithmetic. The W forms other than CVT are MIPS II, the L forms MIPS III. Which trap an operand without a value
takes, in precise mode Floating Point at once, in imprecise mode Unimplemented Operation at once or a pending one, is
the model's choice (log entry 39; R523 and D31 leave open whether a trap is taken). With 32-bit FGRs an even register
holds an L operand or result, by R511 and R620; U65 lists L there as not valid, and following the rules instead is the
model's choice (log entry 38). Right after a move to a source below MIPS IV the result is any value (R825); that the
conditions are those of the operand values read, each read any value, is the model's reading (log entry 37). Right after
a CTC1 below MIPS IV the FCSR that the instruction sees is any, and so are the cause field and the flags it leaves
(R827); that its exception then names the conditions computed, E for an unimplemented operation, is the model's choice
(log entry 37), as it is that with a register that names no FPR the format states of the other sources stay (log entry
38). -/
def Obligations.ConversionsDeliver : Prop :=
  ∀ (s : State) (fs fd : Reg),
  let converts : FpFmt → FpFmt → Nat → Instr → Bool → (Word → Dword → Rounded) → Prop := fun src dst n i pageV g =>
    FpLeveled s n (exec i s) (FpAside s (exec i s) i src [fs] (.fpr fd dst) ∧
      ∀ a, s.FpReady i src [fs] [fd] [a] →
        FpResult s (exec i s) src [fs] (.fpr fd dst) pageV fun f => g f (flushOperand s.env src f a))
  let fixed : FpFmt → FpFmt → Nat → Instr → (Word → BitVec 2) → Prop := fun src dst n i mode =>
    converts src dst n i true fun f => toFixed src (mode f) (if dst = .W then 31 else 63)
  fixed .S .W 2 (.roundWS fs fd) (fun _ => 0) ∧
  fixed .D .W 2 (.roundWD fs fd) (fun _ => 0) ∧
  fixed .S .L 3 (.roundLS fs fd) (fun _ => 0) ∧
  fixed .D .L 3 (.roundLD fs fd) (fun _ => 0) ∧
  fixed .S .W 2 (.truncWS fs fd) (fun _ => 1) ∧
  fixed .D .W 2 (.truncWD fs fd) (fun _ => 1) ∧
  fixed .S .L 3 (.truncLS fs fd) (fun _ => 1) ∧
  fixed .D .L 3 (.truncLD fs fd) (fun _ => 1) ∧
  fixed .S .W 2 (.ceilWS fs fd) (fun _ => 2) ∧
  fixed .D .W 2 (.ceilWD fs fd) (fun _ => 2) ∧
  fixed .S .L 3 (.ceilLS fs fd) (fun _ => 2) ∧
  fixed .D .L 3 (.ceilLD fs fd) (fun _ => 2) ∧
  fixed .S .W 2 (.floorWS fs fd) (fun _ => 3) ∧
  fixed .D .W 2 (.floorWD fs fd) (fun _ => 3) ∧
  fixed .S .L 3 (.floorLS fs fd) (fun _ => 3) ∧
  fixed .D .L 3 (.floorLD fs fd) (fun _ => 3) ∧
  fixed .S .W 0 (.cvtWS fs fd) rmOf ∧
  fixed .D .W 0 (.cvtWD fs fd) rmOf ∧
  fixed .S .L 3 (.cvtLS fs fd) rmOf ∧
  fixed .D .L 3 (.cvtLD fs fd) rmOf ∧
  converts .D .S 0 (.cvtSD fs fd) false (fpConvert s.env .D .S) ∧
  converts .S .D 0 (.cvtDS fs fd) false (fpConvert s.env .S .D) ∧
  converts .W .S 0 (.cvtSW fs fd) false (fun f a => fromInt .S f (a.setWidth 32).toInt) ∧
  converts .W .D 0 (.cvtDW fs fd) false (fun f a => fromInt .D f (a.setWidth 32).toInt) ∧
  converts .L .S 3 (.cvtSL fs fd) false (fun f a => fromInt .S f a.toInt) ∧
  converts .L .D 3 (.cvtDL fs fd) false (fun f a => fromInt .D f a.toInt)

/-- With coprocessor 1 usable: a register that names no FPR leaves the destination unknown; a move that is not
implemented raises Unimplemented Operation. Otherwise the destination then holds, in the format, the value of fs when
the condition holds, else its own old value; no exception condition arises, and everything but the two FPRs is
unchanged, the FCSR too. A source with no value in the format leaves the destination, the cause field and the flags
undefined or takes a trap (R523, D31, U66); which trap that may be is the model's choice (log entry 39). The value is
the bits of the FPR in the format when its format state is that format or uninterpreted, and the operands of arithmetic
are read so one after the other; right after a move to the register below MIPS IV it is any value (R825). The
conditional forms are MIPS IV. In a state with a CTC1 just before, which no run of MIPS IV has, MOVF and MOVT take
either way (R827). Unimplemented Operation leaves E alone in the cause field, but right after a CTC1 below MIPS IV any
value there (for a move the model's reading of R827, and that the exception names E its choice, log entry 37). That with
a register that names no FPR the format state of the source stays is the model's choice (log entry 38). -/
def Obligations.FormattedMovesMoveOrKeep : Prop :=
  ∀ (s : State) (cc : BitVec 3) (rt fs fd : Reg),
  let moves : FpFmt → Nat → Instr → List Dword → Bool → Prop := fun fmt n i tested cond =>
    let out := exec i s
    let src := if cond then fs else fd
    let named := s.badFpr [fs, fd] = false
    let trapped := s.fpTrapped i (s.fprBits src fmt :: tested)
    FpLeveled s n out (
      (¬ named → Completes s out (s.fprParts fd) fun t => t.tagOf fd = .unknown) ∧
      (named → trapped = true → Unimplemented s out) ∧
      (∀ v, named → trapped = false → (s.readFpr src fmt).1 = some v →
        Completes s out (s.fprParts fd ++ s.sourceTags [src]) fun t => t.fprBits fd fmt = v ∧ t.tagOf fd = .value fmt) ∧
      (named → trapped = false → (s.readFpr src fmt).1 = none → FpUnreadable s out (s.fprParts src) (.fpr fd fmt)))
  let onCode : FpFmt → Instr → Bool → Prop := fun fmt i tf =>
    ∃ c, (s.hazards.ctc = false → c = (fccOf s.fcsr cc == tf)) ∧ moves fmt 4 i [] c
  moves .S 0 (.movS fs fd) [] true ∧
  onCode .S (.movfS cc fs fd) false ∧
  onCode .S (.movtS cc fs fd) true ∧
  moves .S 4 (.movzS rt fs fd) [s.getGpr rt] (decide (s.getGpr rt = 0)) ∧
  moves .S 4 (.movnS rt fs fd) [s.getGpr rt] (decide (s.getGpr rt ≠ 0)) ∧
  moves .D 0 (.movD fs fd) [] true ∧
  onCode .D (.movfD cc fs fd) false ∧
  onCode .D (.movtD cc fs fd) true ∧
  moves .D 4 (.movzD rt fs fd) [s.getGpr rt] (decide (s.getGpr rt = 0)) ∧
  moves .D 4 (.movnD rt fs fd) [s.getGpr rt] (decide (s.getGpr rt ≠ 0)) ∧
  (s.hazards.moveFpr = [] → ∀ (n : Reg) (fmt : FpFmt),
    let bits := if isWordFmt fmt then (regGet s.fgrLo n).setWidth 64 else s.rawPair n
    (s.readFpr n fmt).1 = match s.tagOf n with
      | .uninterpreted => some bits
      | .value g => if g = fmt then some bits else none
      | .unknown => none) ∧
  (s.hazards.moveFpr = [] → ∀ (n : Reg) (l : List Reg) (fmt : FpFmt),
    (s.readFprs fmt (n :: l)).1 = match (s.readFpr n fmt).1, ((s.readFpr n fmt).2.readFprs fmt l).1 with
      | some v, some vs => some (v :: vs)
      | _, _ => none)

/-- At MIPS I each of LB, LBU, LH, LHU, LW, LWL and LWR to a register other than 0, LWC1, and LWC2 of a present
coprocessor 2, leaves its register marked when it completes; and any instruction that the bytes at pc decode to, and
that uses a marked register, makes the step refuse by name. With a register marked by a CPU load ADDU, SW, BEQ, JR, MTC1
and LW through it as base use it, but an LWL or LWR into it does not, even with that register as base (the model's
reading of the merge, log entry 37); with one marked by LWC1, ADD.S and SWC1 use it; with one marked by LWC2, SWC2.
Without a mark, and above MIPS I, nothing is refused so. -/
def Obligations.LoadDelaySlotUseIsRefused : Prop :=
  (∀ (s : State) (base rt : Reg) (offset : BitVec 16) (ps : List Nat), s.env.archLevel = 1 →
    let a := s.effAddr base offset
    let be := s.bigEndianCPU
    let k := a.toNat % 4
    let marks : Out → Prop := fun out => rt ≠ 0 → ∃ t, out = .next t ∧ t.hazards.loadGpr = some rt
    (s.Reaches .load a 0 1 ps → marks (exec (.lb base rt offset) s) ∧ marks (exec (.lbu base rt offset) s)) ∧
    (alignedAt 1 a → s.Reaches .load a 0 2 ps →
      marks (exec (.lh base rt offset) s) ∧ marks (exec (.lhu base rt offset) s)) ∧
    (alignedAt 2 a → s.Reaches .load a 0 4 ps → marks (exec (.lw base rt offset) s) ∧
      (s.usable 1 = true → ∃ t, exec (.lwc1 base rt offset) s = .next t ∧ t.hazards.loadFpr = some rt) ∧
      (s.usable 2 = true → s.env.cop2Present = true →
        ∃ t, exec (.lwc2 base rt offset) s = .next t ∧ t.hazards.loadCop2 = some rt)) ∧
    ((if be then s.Reaches .load a 0 (4 - k) ps else s.Reaches .load a k (k + 1) ps) →
      marks (exec (.lwl base rt offset) s)) ∧
    ((if be then s.Reaches .load a k (k + 1) ps else s.Reaches .load a 0 (4 - k) ps) →
      marks (exec (.lwr base rt offset) s))) ∧
  (∀ (s : State) (bs rest : List Byte) (i : Instr) (r : Refusal), s.ended = false → s.trapped = false →
    s.delay ≠ .nullify → s.agenda = [] → s.atEnd = false → s.fetchBytes = .ok bs →
    decodeBytes s.env.bigEndianMem bs = .ok (i, rest) → s.loadDelayBroken i = some r → step s = .refused r) ∧
  ∀ (s : State) (r q u : Reg) (offset : BitVec 16), s.env.archLevel = 1 →
    (s.hazards = { Hazards.empty with loadGpr := some r } →
      (∀ i ∈ [Instr.addu r q u, .addu q r u, .sw r q offset, .sw q r offset, .beq r q offset, .beq q r offset, .jr r,
        .lw r q offset], s.loadDelayBroken i = some .loadDelay) ∧
      (s.usable 1 = true → s.loadDelayBroken (.mtc1 r q) = some .loadDelay) ∧
      ∀ i ∈ [Instr.lwl q r offset, .lwr q r offset], s.loadDelayBroken i = none) ∧
    (s.hazards = { Hazards.empty with loadFpr := some r } → s.usable 1 = true →
      ∀ i ∈ [Instr.addS q r u, .addS r q u, .swc1 q r offset], s.loadDelayBroken i = some .fpLoadDelay) ∧
    (s.hazards = { Hazards.empty with loadCop2 := some r } → s.usable 2 = true →
      s.loadDelayBroken (.swc2 q r offset) = some .cop2LoadDelay) ∧
    (s.hazards = Hazards.empty → ∀ i, s.loadDelayBroken i = none)
end

