-- ==== Sys2Proof/Laws/Memory.lean ====
section
/-! SUPPORT. Memory and register files: read after write, and the canonical form of memory is kept. -/

namespace Sys2Proof.Machine

/-! ### Register files -/

@[simp] theorem regGet_regSet_same {α : Type} (v : Vector α 32) (r : Reg) (x : α) : regGet (regSet v r x) r = x := by
  simp [regGet, regSet]

theorem regGet_regSet_other {α : Type} (v : Vector α 32) (r q : Reg) (x : α) (h : q ≠ r) :
    regGet (regSet v r x) q = regGet v q := by
  have : r.toNat ≠ q.toNat := fun e => h (BitVec.eq_of_toNat_eq e.symm)
  simp [regGet, regSet, Vector.getElem_set_ne, this]

theorem regGet_regSet {α : Type} (v : Vector α 32) (r q : Reg) (x : α) :
    regGet (regSet v r x) q = if q = r then x else regGet v q := by
  split
  · next h => subst h; simp
  · next h => exact regGet_regSet_other v r q x h

@[simp] theorem regGet_replicate {α : Type} (x : α) (r : Reg) : regGet (Vector.replicate 32 x) r = x := by
  simp [regGet]

/-- Two register files that read alike are equal. -/
theorem regs_ext {α : Type} (v w : Vector α 32) (h : ∀ r, regGet v r = regGet w r) : v = w := by
  ext i hi
  have := h (BitVec.ofNat 5 i)
  simpa [regGet, Nat.mod_eq_of_lt hi] using this

/-! ### One byte -/

theorem memRead_memInsert (m : List Host.Cell) (a b : Nat) (v : Byte) :
    memRead (memInsert m a v) b = if b = a then v else memRead m b := by
  induction m with
  | nil => simp [memInsert, memRead]
  | cons c m ih =>
    obtain ⟨k, u⟩ := c
    simp only [memInsert]
    split
    · simp [memRead]
    · split
      · subst k; simp only [memRead]; split <;> rfl
      · simp only [memRead, ih]; split
        · split
          · omega
          · rfl
        · rfl

theorem memRead_filter (m : List Host.Cell) (a b : Nat) :
    memRead (m.filter (fun c => c.1 != a)) b = if b = a then blankByte else memRead m b := by
  induction m with
  | nil => simp [memRead]
  | cons c m ih =>
    obtain ⟨k, u⟩ := c
    by_cases hk : k = a
    · subst k; simp only [List.filter, bne_self_eq_false, ih, memRead]; split <;> rfl
    · have : (k != a) = true := by simpa using hk
      simp only [List.filter, this, memRead, ih]
      split
      · next h => subst h; simp [hk]
      · rfl

/-- Read after write, at every address. -/
theorem memRead_memWrite (m : List Host.Cell) (a b : Nat) (v : Byte) :
    memRead (memWrite m a v) b = if b = a then v else memRead m b := by
  unfold memWrite
  split
  · next h => rw [memRead_filter, h]
  · exact memRead_memInsert m a b v

/-! ### The canonical form -/

theorem memInsert_mem {m : List Host.Cell} {a : Nat} {v : Byte} {c : Host.Cell} (h : c ∈ memInsert m a v) :
    c = (a, v) ∨ c ∈ m := by
  induction m with
  | nil => simpa [memInsert] using h
  | cons d m ih =>
    obtain ⟨k, u⟩ := d
    simp only [memInsert] at h
    split at h
    · simpa using h
    · split at h
      · rcases List.mem_cons.mp h with h | h
        · exact .inl h
        · exact .inr (List.mem_cons_of_mem _ h)
      · rcases List.mem_cons.mp h with h | h
        · exact .inr (h ▸ List.mem_cons_self)
        · rcases ih h with h | h
          · exact .inl h
          · exact .inr (List.mem_cons_of_mem _ h)

theorem memInsert_sorted {m : List Host.Cell} (a : Nat) (v : Byte) (h : m.Pairwise (fun c d => c.1 < d.1)) :
    (memInsert m a v).Pairwise (fun c d => c.1 < d.1) := by
  induction m with
  | nil => simp [memInsert]
  | cons d m ih =>
    obtain ⟨k, u⟩ := d
    obtain ⟨h1, h2⟩ := List.pairwise_cons.mp h
    simp only [memInsert]
    split
    · next hk =>
      refine List.pairwise_cons.mpr ⟨fun c hc => ?_, h⟩
      rcases List.mem_cons.mp hc with rfl | hc
      · exact hk
      · have := h1 c hc; simp only at this ⊢; omega
    · split
      · next hk => subst hk; exact List.pairwise_cons.mpr ⟨h1, h2⟩
      · next hk hk' =>
        refine List.pairwise_cons.mpr ⟨fun c hc => ?_, ih h2⟩
        rcases memInsert_mem hc with rfl | hc
        · simp only; omega
        · exact h1 c hc

/-- A write keeps the canonical form. -/
theorem memWrite_wf {m : List Host.Cell} (a : Nat) (v : Byte) (h : Memory.wf m) : Memory.wf (memWrite m a v) := by
  unfold memWrite
  split
  · exact ⟨h.1.filter _, fun c hc => h.2 c (List.mem_filter.mp hc).1⟩
  · next hv =>
    refine ⟨memInsert_sorted a v h.1, fun c hc => ?_⟩
    rcases memInsert_mem hc with rfl | hc
    · exact hv
    · exact h.2 c hc

/-- Storing bytes keeps the canonical form. -/
theorem memWriteAll_wf {m : List Host.Cell} (l : List (Nat × Byte)) (h : Memory.wf m) : Memory.wf (memWriteAll m l) := by
  induction l generalizing m with
  | nil => exact h
  | cons c l ih => exact ih (memWrite_wf _ _ h)

/-- Memory in canonical form is determined by what its bytes read as. -/
theorem wf_ext {m n : List Host.Cell} (hm : Memory.wf m) (hn : Memory.wf n) (h : ∀ a, memRead m a = memRead n a) :
    m = n := by
  have below : ∀ (l : List Host.Cell) (k : Nat), (∀ c ∈ l, k < c.1) → memRead l k = blankByte := by
    intro l k hl
    induction l with
    | nil => rfl
    | cons c l ih =>
      obtain ⟨j, u⟩ := c
      have := hl (j, u) List.mem_cons_self
      simp only at this
      simp only [memRead, if_neg (by omega : ¬ k = j)]
      exact ih fun c hc => hl c (List.mem_cons_of_mem _ hc)
  induction m generalizing n with
  | nil =>
    cases n with
    | nil => rfl
    | cons c n => obtain ⟨k, u⟩ := c; have := h k; simp only [memRead, if_true] at this; exact absurd this.symm (hn.2 _ List.mem_cons_self)
  | cons c m ih =>
    obtain ⟨k, u⟩ := c
    obtain ⟨m1, m2⟩ := List.pairwise_cons.mp hm.1
    have hmw : Memory.wf m := ⟨m2, fun c hc => hm.2 c (List.mem_cons_of_mem _ hc)⟩
    cases n with
    | nil => have := h k; simp only [memRead, if_true] at this; exact absurd this (hm.2 _ List.mem_cons_self)
    | cons d n =>
      obtain ⟨j, w⟩ := d
      obtain ⟨n1, n2⟩ := List.pairwise_cons.mp hn.1
      have hnw : Memory.wf n := ⟨n2, fun c hc => hn.2 c (List.mem_cons_of_mem _ hc)⟩
      have hu := hm.2 _ List.mem_cons_self
      have hw := hn.2 _ List.mem_cons_self
      simp only at hu hw
      have hjk : j = k := by
        rcases Nat.lt_trichotomy k j with hlt | heq | hgt
        · exfalso
          have := h k
          rw [below ((j, w) :: n) k] at this
          · simp only [memRead, if_true] at this; exact hu this
          · intro c hc
            rcases List.mem_cons.mp hc with rfl | hc
            · exact hlt
            · have := n1 c hc; simp only at this; omega
        · exact heq.symm
        · exfalso
          have := h j
          rw [below ((k, u) :: m) j] at this
          · simp only [memRead, if_true] at this; exact hw this.symm
          · intro c hc
            rcases List.mem_cons.mp hc with rfl | hc
            · exact hgt
            · have := m1 c hc; simp only at this; omega
      subst hjk
      have huw : u = w := by have := h j; simpa [memRead] using this
      subst huw
      rw [ih hmw hnw]
      intro a
      by_cases ha : a = j
      · subst ha
        rw [below m a fun c hc => m1 c hc, below n a fun c hc => n1 c hc]
      · have := h a; simpa [memRead, ha] using this

/-! ### Several bytes -/

/-- A byte outside the places stored to reads as before. -/
theorem memRead_memWriteAll_other (m : List Host.Cell) (ps : List Nat) (bs : List Byte) (a : Nat) (h : a ∉ ps) :
    memRead (memWriteAll m (ps.zip bs)) a = memRead m a := by
  induction ps generalizing m bs with
  | nil => rfl
  | cons p ps ih =>
    cases bs with
    | nil => rfl
    | cons b bs =>
      rw [List.zip_cons_cons, memWriteAll, ih _ _ fun hm => h (List.mem_cons_of_mem _ hm), memRead_memWrite,
        if_neg (fun e : a = p => h (by subst e; exact List.mem_cons_self))]

/-- Bytes stored to distinct places read back. -/
theorem map_memRead_memWriteAll (m : List Host.Cell) (ps : List Nat) (bs : List Byte) (hp : ps.Nodup)
    (hl : ps.length = bs.length) : ps.map (memRead (memWriteAll m (ps.zip bs))) = bs := by
  induction ps generalizing m bs with
  | nil => cases bs with
    | nil => rfl
    | cons b bs => simp at hl
  | cons p ps ih =>
    cases bs with
    | nil => simp at hl
    | cons b bs =>
      obtain ⟨h1, h2⟩ := List.nodup_cons.mp hp
      rw [List.zip_cons_cons, memWriteAll, List.map_cons, ih _ _ h2 (by simpa using hl),
        memRead_memWriteAll_other _ _ _ _ h1, memRead_memWrite, if_pos rfl]

/-- The memory of a state after a store of `v` to the places `ps`, byte by byte outside them. -/
theorem State.storeBytes_other (s : State) (ps : List Nat) (v : Dword) (a : Nat) (h : a ∉ ps) :
    memRead (s.storeBytes ps v).mem a = memRead s.mem a := memRead_memWriteAll_other _ _ _ _ h

/-- Every store keeps the canonical form. -/
theorem State.storeBytes_wf (s : State) (ps : List Nat) (v : Dword) (h : Memory.wf s.mem) :
    Memory.wf (s.storeBytes ps v).mem := memWriteAll_wf _ h

/-- A store by another agent keeps it. -/
theorem State.externalStore_wf (s : State) (pa : Nat) (b : Byte) (h : Memory.wf s.mem) :
    Memory.wf (s.externalStore pa b).mem := memWrite_wf _ _ h

/-- Placing a word keeps it. -/
theorem State.placeWord_wf (s : State) (w : Word) (h : Memory.wf s.mem) : Memory.wf (s.placeWord w).mem := by
  unfold State.placeWord
  split
  · exact h
  · exact memWriteAll_wf _ h

/-- What the environment's handler leaves has it. -/
theorem State.legalise_wf (s t : State) : Memory.wf (s.legalise t).mem := memWriteAll_wf _ (by decide)

/-- The memory after reset has it. -/
theorem reset_mem_wf : Memory.wf State.reset.mem := by decide

@[simp] theorem splitBytes_length (be : Bool) (n : Nat) (v : Dword) : (splitBytes be n v).length = n := by
  unfold splitBytes; split <;> simp

end Sys2Proof.Machine
end

