-- ==== Sys2Proof/Laws/State.lean ====
section
/-! SUPPORT. What each state update does to each field: one lemma per field, so that no proof unfolds an update. -/

namespace Sys2Proof.Machine

/-! ### setGpr -/

@[simp] theorem State.setGpr_gpr (s : State) (r : Reg) (v : Dword) : (s.setGpr r v).gpr = if r = 0 then s.gpr else regSet s.gpr r (s.norm v) := by
  unfold State.setGpr; split <;> rfl
@[simp] theorem State.setGpr_hi (s : State) (r : Reg) (v : Dword) : (s.setGpr r v).hi = s.hi := by
  unfold State.setGpr; split <;> rfl
@[simp] theorem State.setGpr_lo (s : State) (r : Reg) (v : Dword) : (s.setGpr r v).lo = s.lo := by
  unfold State.setGpr; split <;> rfl
@[simp] theorem State.setGpr_pc (s : State) (r : Reg) (v : Dword) : (s.setGpr r v).pc = s.pc := by
  unfold State.setGpr; split <;> rfl
@[simp] theorem State.setGpr_delay (s : State) (r : Reg) (v : Dword) : (s.setGpr r v).delay = s.delay := by
  unfold State.setGpr; split <;> rfl
@[simp] theorem State.setGpr_afterBranch (s : State) (r : Reg) (v : Dword) : (s.setGpr r v).afterBranch = s.afterBranch := by
  unfold State.setGpr; split <;> rfl
@[simp] theorem State.setGpr_llbit (s : State) (r : Reg) (v : Dword) : (s.setGpr r v).llbit = s.llbit := by
  unfold State.setGpr; split <;> rfl
@[simp] theorem State.setGpr_llRecord (s : State) (r : Reg) (v : Dword) : (s.setGpr r v).llRecord = s.llRecord := by
  unfold State.setGpr; split <;> rfl
@[simp] theorem State.setGpr_fgrLo (s : State) (r : Reg) (v : Dword) : (s.setGpr r v).fgrLo = s.fgrLo := by
  unfold State.setGpr; split <;> rfl
@[simp] theorem State.setGpr_fgrHi (s : State) (r : Reg) (v : Dword) : (s.setGpr r v).fgrHi = s.fgrHi := by
  unfold State.setGpr; split <;> rfl
@[simp] theorem State.setGpr_fprTag (s : State) (r : Reg) (v : Dword) : (s.setGpr r v).fprTag = s.fprTag := by
  unfold State.setGpr; split <;> rfl
@[simp] theorem State.setGpr_fcr0 (s : State) (r : Reg) (v : Dword) : (s.setGpr r v).fcr0 = s.fcr0 := by
  unfold State.setGpr; split <;> rfl
@[simp] theorem State.setGpr_fcsr (s : State) (r : Reg) (v : Dword) : (s.setGpr r v).fcsr = s.fcsr := by
  unfold State.setGpr; split <;> rfl
@[simp] theorem State.setGpr_recentMF (s : State) (r : Reg) (v : Dword) : (s.setGpr r v).recentMF = s.recentMF := by
  unfold State.setGpr; split <;> rfl
@[simp] theorem State.setGpr_hiLoPending (s : State) (r : Reg) (v : Dword) : (s.setGpr r v).hiLoPending = s.hiLoPending := by
  unfold State.setGpr; split <;> rfl
@[simp] theorem State.setGpr_hazards (s : State) (r : Reg) (v : Dword) : (s.setGpr r v).hazards = s.hazards := by
  unfold State.setGpr; split <;> rfl
@[simp] theorem State.setGpr_pendingFpTrap (s : State) (r : Reg) (v : Dword) : (s.setGpr r v).pendingFpTrap = s.pendingFpTrap := by
  unfold State.setGpr; split <;> rfl
@[simp] theorem State.setGpr_exc (s : State) (r : Reg) (v : Dword) : (s.setGpr r v).exc = s.exc := by
  unfold State.setGpr; split <;> rfl
@[simp] theorem State.setGpr_saved (s : State) (r : Reg) (v : Dword) : (s.setGpr r v).saved = s.saved := by
  unfold State.setGpr; split <;> rfl
@[simp] theorem State.setGpr_trapped (s : State) (r : Reg) (v : Dword) : (s.setGpr r v).trapped = s.trapped := by
  unfold State.setGpr; split <;> rfl
@[simp] theorem State.setGpr_ended (s : State) (r : Reg) (v : Dword) : (s.setGpr r v).ended = s.ended := by
  unfold State.setGpr; split <;> rfl
@[simp] theorem State.setGpr_mode (s : State) (r : Reg) (v : Dword) : (s.setGpr r v).mode = s.mode := by
  unfold State.setGpr; split <;> rfl
@[simp] theorem State.setGpr_cu (s : State) (r : Reg) (v : Dword) : (s.setGpr r v).cu = s.cu := by
  unfold State.setGpr; split <;> rfl
@[simp] theorem State.setGpr_statusFR (s : State) (r : Reg) (v : Dword) : (s.setGpr r v).statusFR = s.statusFR := by
  unfold State.setGpr; split <;> rfl
@[simp] theorem State.setGpr_cop2Gen (s : State) (r : Reg) (v : Dword) : (s.setGpr r v).cop2Gen = s.cop2Gen := by
  unfold State.setGpr; split <;> rfl
@[simp] theorem State.setGpr_cop2Ctl (s : State) (r : Reg) (v : Dword) : (s.setGpr r v).cop2Ctl = s.cop2Ctl := by
  unfold State.setGpr; split <;> rfl
@[simp] theorem State.setGpr_coc0 (s : State) (r : Reg) (v : Dword) : (s.setGpr r v).coc0 = s.coc0 := by
  unfold State.setGpr; split <;> rfl
@[simp] theorem State.setGpr_coc2 (s : State) (r : Reg) (v : Dword) : (s.setGpr r v).coc2 = s.coc2 := by
  unfold State.setGpr; split <;> rfl
@[simp] theorem State.setGpr_coc3 (s : State) (r : Reg) (v : Dword) : (s.setGpr r v).coc3 = s.coc3 := by
  unfold State.setGpr; split <;> rfl
@[simp] theorem State.setGpr_mem (s : State) (r : Reg) (v : Dword) : (s.setGpr r v).mem = s.mem := by
  unfold State.setGpr; split <;> rfl
@[simp] theorem State.setGpr_typed (s : State) (r : Reg) (v : Dword) : (s.setGpr r v).typed = s.typed := by
  unfold State.setGpr; split <;> rfl
@[simp] theorem State.setGpr_env (s : State) (r : Reg) (v : Dword) : (s.setGpr r v).env = s.env := by
  unfold State.setGpr; split <;> rfl
@[simp] theorem State.setGpr_agenda (s : State) (r : Reg) (v : Dword) : (s.setGpr r v).agenda = s.agenda := by
  unfold State.setGpr; split <;> rfl
@[simp] theorem State.setGpr_free (s : State) (r : Reg) (v : Dword) : (s.setGpr r v).free = s.free := by
  unfold State.setGpr; split <;> rfl

/-! ### setHiLo -/

@[simp] theorem State.setHiLo_gpr (s : State) (hi lo : Dword) : (s.setHiLo hi lo).gpr = s.gpr := rfl
@[simp] theorem State.setHiLo_hi (s : State) (hi lo : Dword) : (s.setHiLo hi lo).hi = s.norm hi := rfl
@[simp] theorem State.setHiLo_lo (s : State) (hi lo : Dword) : (s.setHiLo hi lo).lo = s.norm lo := rfl
@[simp] theorem State.setHiLo_pc (s : State) (hi lo : Dword) : (s.setHiLo hi lo).pc = s.pc := rfl
@[simp] theorem State.setHiLo_delay (s : State) (hi lo : Dword) : (s.setHiLo hi lo).delay = s.delay := rfl
@[simp] theorem State.setHiLo_afterBranch (s : State) (hi lo : Dword) : (s.setHiLo hi lo).afterBranch = s.afterBranch := rfl
@[simp] theorem State.setHiLo_llbit (s : State) (hi lo : Dword) : (s.setHiLo hi lo).llbit = s.llbit := rfl
@[simp] theorem State.setHiLo_llRecord (s : State) (hi lo : Dword) : (s.setHiLo hi lo).llRecord = s.llRecord := rfl
@[simp] theorem State.setHiLo_fgrLo (s : State) (hi lo : Dword) : (s.setHiLo hi lo).fgrLo = s.fgrLo := rfl
@[simp] theorem State.setHiLo_fgrHi (s : State) (hi lo : Dword) : (s.setHiLo hi lo).fgrHi = s.fgrHi := rfl
@[simp] theorem State.setHiLo_fprTag (s : State) (hi lo : Dword) : (s.setHiLo hi lo).fprTag = s.fprTag := rfl
@[simp] theorem State.setHiLo_fcr0 (s : State) (hi lo : Dword) : (s.setHiLo hi lo).fcr0 = s.fcr0 := rfl
@[simp] theorem State.setHiLo_fcsr (s : State) (hi lo : Dword) : (s.setHiLo hi lo).fcsr = s.fcsr := rfl
@[simp] theorem State.setHiLo_recentMF (s : State) (hi lo : Dword) : (s.setHiLo hi lo).recentMF = s.recentMF := rfl
@[simp] theorem State.setHiLo_hiLoPending (s : State) (hi lo : Dword) : (s.setHiLo hi lo).hiLoPending = s.hiLoPending := rfl
@[simp] theorem State.setHiLo_hazards (s : State) (hi lo : Dword) : (s.setHiLo hi lo).hazards = s.hazards := rfl
@[simp] theorem State.setHiLo_pendingFpTrap (s : State) (hi lo : Dword) : (s.setHiLo hi lo).pendingFpTrap = s.pendingFpTrap := rfl
@[simp] theorem State.setHiLo_exc (s : State) (hi lo : Dword) : (s.setHiLo hi lo).exc = s.exc := rfl
@[simp] theorem State.setHiLo_saved (s : State) (hi lo : Dword) : (s.setHiLo hi lo).saved = s.saved := rfl
@[simp] theorem State.setHiLo_trapped (s : State) (hi lo : Dword) : (s.setHiLo hi lo).trapped = s.trapped := rfl
@[simp] theorem State.setHiLo_ended (s : State) (hi lo : Dword) : (s.setHiLo hi lo).ended = s.ended := rfl
@[simp] theorem State.setHiLo_mode (s : State) (hi lo : Dword) : (s.setHiLo hi lo).mode = s.mode := rfl
@[simp] theorem State.setHiLo_cu (s : State) (hi lo : Dword) : (s.setHiLo hi lo).cu = s.cu := rfl
@[simp] theorem State.setHiLo_statusFR (s : State) (hi lo : Dword) : (s.setHiLo hi lo).statusFR = s.statusFR := rfl
@[simp] theorem State.setHiLo_cop2Gen (s : State) (hi lo : Dword) : (s.setHiLo hi lo).cop2Gen = s.cop2Gen := rfl
@[simp] theorem State.setHiLo_cop2Ctl (s : State) (hi lo : Dword) : (s.setHiLo hi lo).cop2Ctl = s.cop2Ctl := rfl
@[simp] theorem State.setHiLo_coc0 (s : State) (hi lo : Dword) : (s.setHiLo hi lo).coc0 = s.coc0 := rfl
@[simp] theorem State.setHiLo_coc2 (s : State) (hi lo : Dword) : (s.setHiLo hi lo).coc2 = s.coc2 := rfl
@[simp] theorem State.setHiLo_coc3 (s : State) (hi lo : Dword) : (s.setHiLo hi lo).coc3 = s.coc3 := rfl
@[simp] theorem State.setHiLo_mem (s : State) (hi lo : Dword) : (s.setHiLo hi lo).mem = s.mem := rfl
@[simp] theorem State.setHiLo_typed (s : State) (hi lo : Dword) : (s.setHiLo hi lo).typed = s.typed := rfl
@[simp] theorem State.setHiLo_env (s : State) (hi lo : Dword) : (s.setHiLo hi lo).env = s.env := rfl
@[simp] theorem State.setHiLo_agenda (s : State) (hi lo : Dword) : (s.setHiLo hi lo).agenda = s.agenda := rfl
@[simp] theorem State.setHiLo_free (s : State) (hi lo : Dword) : (s.setHiLo hi lo).free = s.free := rfl

/-! ### storeBytes -/

@[simp] theorem State.storeBytes_gpr (s : State) (ps : List Nat) (v : Dword) : (s.storeBytes ps v).gpr = s.gpr := rfl
@[simp] theorem State.storeBytes_hi (s : State) (ps : List Nat) (v : Dword) : (s.storeBytes ps v).hi = s.hi := rfl
@[simp] theorem State.storeBytes_lo (s : State) (ps : List Nat) (v : Dword) : (s.storeBytes ps v).lo = s.lo := rfl
@[simp] theorem State.storeBytes_pc (s : State) (ps : List Nat) (v : Dword) : (s.storeBytes ps v).pc = s.pc := rfl
@[simp] theorem State.storeBytes_delay (s : State) (ps : List Nat) (v : Dword) : (s.storeBytes ps v).delay = s.delay := rfl
@[simp] theorem State.storeBytes_afterBranch (s : State) (ps : List Nat) (v : Dword) : (s.storeBytes ps v).afterBranch = s.afterBranch := rfl
@[simp] theorem State.storeBytes_llbit (s : State) (ps : List Nat) (v : Dword) : (s.storeBytes ps v).llbit = s.llbit := rfl
@[simp] theorem State.storeBytes_llRecord (s : State) (ps : List Nat) (v : Dword) : (s.storeBytes ps v).llRecord = s.llRecord := rfl
@[simp] theorem State.storeBytes_fgrLo (s : State) (ps : List Nat) (v : Dword) : (s.storeBytes ps v).fgrLo = s.fgrLo := rfl
@[simp] theorem State.storeBytes_fgrHi (s : State) (ps : List Nat) (v : Dword) : (s.storeBytes ps v).fgrHi = s.fgrHi := rfl
@[simp] theorem State.storeBytes_fprTag (s : State) (ps : List Nat) (v : Dword) : (s.storeBytes ps v).fprTag = s.fprTag := rfl
@[simp] theorem State.storeBytes_fcr0 (s : State) (ps : List Nat) (v : Dword) : (s.storeBytes ps v).fcr0 = s.fcr0 := rfl
@[simp] theorem State.storeBytes_fcsr (s : State) (ps : List Nat) (v : Dword) : (s.storeBytes ps v).fcsr = s.fcsr := rfl
@[simp] theorem State.storeBytes_recentMF (s : State) (ps : List Nat) (v : Dword) : (s.storeBytes ps v).recentMF = s.recentMF := rfl
@[simp] theorem State.storeBytes_hiLoPending (s : State) (ps : List Nat) (v : Dword) : (s.storeBytes ps v).hiLoPending = s.hiLoPending := rfl
@[simp] theorem State.storeBytes_hazards (s : State) (ps : List Nat) (v : Dword) : (s.storeBytes ps v).hazards = s.hazards := rfl
@[simp] theorem State.storeBytes_pendingFpTrap (s : State) (ps : List Nat) (v : Dword) : (s.storeBytes ps v).pendingFpTrap = s.pendingFpTrap := rfl
@[simp] theorem State.storeBytes_exc (s : State) (ps : List Nat) (v : Dword) : (s.storeBytes ps v).exc = s.exc := rfl
@[simp] theorem State.storeBytes_saved (s : State) (ps : List Nat) (v : Dword) : (s.storeBytes ps v).saved = s.saved := rfl
@[simp] theorem State.storeBytes_trapped (s : State) (ps : List Nat) (v : Dword) : (s.storeBytes ps v).trapped = s.trapped := rfl
@[simp] theorem State.storeBytes_ended (s : State) (ps : List Nat) (v : Dword) : (s.storeBytes ps v).ended = s.ended := rfl
@[simp] theorem State.storeBytes_mode (s : State) (ps : List Nat) (v : Dword) : (s.storeBytes ps v).mode = s.mode := rfl
@[simp] theorem State.storeBytes_cu (s : State) (ps : List Nat) (v : Dword) : (s.storeBytes ps v).cu = s.cu := rfl
@[simp] theorem State.storeBytes_statusFR (s : State) (ps : List Nat) (v : Dword) : (s.storeBytes ps v).statusFR = s.statusFR := rfl
@[simp] theorem State.storeBytes_cop2Gen (s : State) (ps : List Nat) (v : Dword) : (s.storeBytes ps v).cop2Gen = s.cop2Gen := rfl
@[simp] theorem State.storeBytes_cop2Ctl (s : State) (ps : List Nat) (v : Dword) : (s.storeBytes ps v).cop2Ctl = s.cop2Ctl := rfl
@[simp] theorem State.storeBytes_coc0 (s : State) (ps : List Nat) (v : Dword) : (s.storeBytes ps v).coc0 = s.coc0 := rfl
@[simp] theorem State.storeBytes_coc2 (s : State) (ps : List Nat) (v : Dword) : (s.storeBytes ps v).coc2 = s.coc2 := rfl
@[simp] theorem State.storeBytes_coc3 (s : State) (ps : List Nat) (v : Dword) : (s.storeBytes ps v).coc3 = s.coc3 := rfl
@[simp] theorem State.storeBytes_mem (s : State) (ps : List Nat) (v : Dword) : (s.storeBytes ps v).mem = memWriteAll s.mem (ps.zip (splitBytes s.bigEndianCPU ps.length v)) := rfl
@[simp] theorem State.storeBytes_typed (s : State) (ps : List Nat) (v : Dword) : (s.storeBytes ps v).typed = s.typed := rfl
@[simp] theorem State.storeBytes_env (s : State) (ps : List Nat) (v : Dword) : (s.storeBytes ps v).env = s.env := rfl
@[simp] theorem State.storeBytes_agenda (s : State) (ps : List Nat) (v : Dword) : (s.storeBytes ps v).agenda = s.agenda := rfl
@[simp] theorem State.storeBytes_free (s : State) (ps : List Nat) (v : Dword) : (s.storeBytes ps v).free = s.free := rfl

/-! ### retireWith -/

@[simp] theorem State.retireWith_gpr (s : State) (hz : Hazards) (mf : MfEntry) : (s.retireWith hz mf).gpr = s.gpr := rfl
@[simp] theorem State.retireWith_hi (s : State) (hz : Hazards) (mf : MfEntry) : (s.retireWith hz mf).hi = s.hi := rfl
@[simp] theorem State.retireWith_lo (s : State) (hz : Hazards) (mf : MfEntry) : (s.retireWith hz mf).lo = s.lo := rfl
@[simp] theorem State.retireWith_pc (s : State) (hz : Hazards) (mf : MfEntry) : (s.retireWith hz mf).pc = s.nextPc := rfl
@[simp] theorem State.retireWith_delay (s : State) (hz : Hazards) (mf : MfEntry) : (s.retireWith hz mf).delay = .none := rfl
@[simp] theorem State.retireWith_afterBranch (s : State) (hz : Hazards) (mf : MfEntry) : (s.retireWith hz mf).afterBranch = false := rfl
@[simp] theorem State.retireWith_llbit (s : State) (hz : Hazards) (mf : MfEntry) : (s.retireWith hz mf).llbit = s.llbit := rfl
@[simp] theorem State.retireWith_llRecord (s : State) (hz : Hazards) (mf : MfEntry) : (s.retireWith hz mf).llRecord = s.llRecord := rfl
@[simp] theorem State.retireWith_fgrLo (s : State) (hz : Hazards) (mf : MfEntry) : (s.retireWith hz mf).fgrLo = s.fgrLo := rfl
@[simp] theorem State.retireWith_fgrHi (s : State) (hz : Hazards) (mf : MfEntry) : (s.retireWith hz mf).fgrHi = s.fgrHi := rfl
@[simp] theorem State.retireWith_fprTag (s : State) (hz : Hazards) (mf : MfEntry) : (s.retireWith hz mf).fprTag = s.fprTag := rfl
@[simp] theorem State.retireWith_fcr0 (s : State) (hz : Hazards) (mf : MfEntry) : (s.retireWith hz mf).fcr0 = s.fcr0 := rfl
@[simp] theorem State.retireWith_fcsr (s : State) (hz : Hazards) (mf : MfEntry) : (s.retireWith hz mf).fcsr = s.fcsr := rfl
@[simp] theorem State.retireWith_recentMF (s : State) (hz : Hazards) (mf : MfEntry) : (s.retireWith hz mf).recentMF = ⟨mf, s.recentMF.last⟩ := rfl
@[simp] theorem State.retireWith_hiLoPending (s : State) (hz : Hazards) (mf : MfEntry) : (s.retireWith hz mf).hiLoPending = s.hiLoPending := rfl
@[simp] theorem State.retireWith_hazards (s : State) (hz : Hazards) (mf : MfEntry) : (s.retireWith hz mf).hazards = hz := rfl
@[simp] theorem State.retireWith_pendingFpTrap (s : State) (hz : Hazards) (mf : MfEntry) : (s.retireWith hz mf).pendingFpTrap = s.pendingFpTrap := rfl
@[simp] theorem State.retireWith_exc (s : State) (hz : Hazards) (mf : MfEntry) : (s.retireWith hz mf).exc = s.exc := rfl
@[simp] theorem State.retireWith_saved (s : State) (hz : Hazards) (mf : MfEntry) : (s.retireWith hz mf).saved = s.saved := rfl
@[simp] theorem State.retireWith_trapped (s : State) (hz : Hazards) (mf : MfEntry) : (s.retireWith hz mf).trapped = s.trapped := rfl
@[simp] theorem State.retireWith_ended (s : State) (hz : Hazards) (mf : MfEntry) : (s.retireWith hz mf).ended = s.ended := rfl
@[simp] theorem State.retireWith_mode (s : State) (hz : Hazards) (mf : MfEntry) : (s.retireWith hz mf).mode = s.mode := rfl
@[simp] theorem State.retireWith_cu (s : State) (hz : Hazards) (mf : MfEntry) : (s.retireWith hz mf).cu = s.cu := rfl
@[simp] theorem State.retireWith_statusFR (s : State) (hz : Hazards) (mf : MfEntry) : (s.retireWith hz mf).statusFR = s.statusFR := rfl
@[simp] theorem State.retireWith_cop2Gen (s : State) (hz : Hazards) (mf : MfEntry) : (s.retireWith hz mf).cop2Gen = s.cop2Gen := rfl
@[simp] theorem State.retireWith_cop2Ctl (s : State) (hz : Hazards) (mf : MfEntry) : (s.retireWith hz mf).cop2Ctl = s.cop2Ctl := rfl
@[simp] theorem State.retireWith_coc0 (s : State) (hz : Hazards) (mf : MfEntry) : (s.retireWith hz mf).coc0 = s.coc0 := rfl
@[simp] theorem State.retireWith_coc2 (s : State) (hz : Hazards) (mf : MfEntry) : (s.retireWith hz mf).coc2 = s.coc2 := rfl
@[simp] theorem State.retireWith_coc3 (s : State) (hz : Hazards) (mf : MfEntry) : (s.retireWith hz mf).coc3 = s.coc3 := rfl
@[simp] theorem State.retireWith_mem (s : State) (hz : Hazards) (mf : MfEntry) : (s.retireWith hz mf).mem = s.mem := rfl
@[simp] theorem State.retireWith_typed (s : State) (hz : Hazards) (mf : MfEntry) : (s.retireWith hz mf).typed = s.typed := rfl
@[simp] theorem State.retireWith_env (s : State) (hz : Hazards) (mf : MfEntry) : (s.retireWith hz mf).env = s.env := rfl
@[simp] theorem State.retireWith_agenda (s : State) (hz : Hazards) (mf : MfEntry) : (s.retireWith hz mf).agenda = s.agenda := rfl
@[simp] theorem State.retireWith_free (s : State) (hz : Hazards) (mf : MfEntry) : (s.retireWith hz mf).free = s.free + 1 := rfl

/-! ### retire -/

@[simp] theorem State.retire_gpr (s : State) : (s.retire).gpr = s.gpr := rfl
@[simp] theorem State.retire_hi (s : State) : (s.retire).hi = s.hi := rfl
@[simp] theorem State.retire_lo (s : State) : (s.retire).lo = s.lo := rfl
@[simp] theorem State.retire_pc (s : State) : (s.retire).pc = s.nextPc := rfl
@[simp] theorem State.retire_delay (s : State) : (s.retire).delay = .none := rfl
@[simp] theorem State.retire_afterBranch (s : State) : (s.retire).afterBranch = false := rfl
@[simp] theorem State.retire_llbit (s : State) : (s.retire).llbit = s.llbit := rfl
@[simp] theorem State.retire_llRecord (s : State) : (s.retire).llRecord = s.llRecord := rfl
@[simp] theorem State.retire_fgrLo (s : State) : (s.retire).fgrLo = s.fgrLo := rfl
@[simp] theorem State.retire_fgrHi (s : State) : (s.retire).fgrHi = s.fgrHi := rfl
@[simp] theorem State.retire_fprTag (s : State) : (s.retire).fprTag = s.fprTag := rfl
@[simp] theorem State.retire_fcr0 (s : State) : (s.retire).fcr0 = s.fcr0 := rfl
@[simp] theorem State.retire_fcsr (s : State) : (s.retire).fcsr = s.fcsr := rfl
@[simp] theorem State.retire_recentMF (s : State) : (s.retire).recentMF = ⟨.none, s.recentMF.last⟩ := rfl
@[simp] theorem State.retire_hiLoPending (s : State) : (s.retire).hiLoPending = s.hiLoPending := rfl
@[simp] theorem State.retire_hazards (s : State) : (s.retire).hazards = Hazards.empty := rfl
@[simp] theorem State.retire_pendingFpTrap (s : State) : (s.retire).pendingFpTrap = s.pendingFpTrap := rfl
@[simp] theorem State.retire_exc (s : State) : (s.retire).exc = s.exc := rfl
@[simp] theorem State.retire_saved (s : State) : (s.retire).saved = s.saved := rfl
@[simp] theorem State.retire_trapped (s : State) : (s.retire).trapped = s.trapped := rfl
@[simp] theorem State.retire_ended (s : State) : (s.retire).ended = s.ended := rfl
@[simp] theorem State.retire_mode (s : State) : (s.retire).mode = s.mode := rfl
@[simp] theorem State.retire_cu (s : State) : (s.retire).cu = s.cu := rfl
@[simp] theorem State.retire_statusFR (s : State) : (s.retire).statusFR = s.statusFR := rfl
@[simp] theorem State.retire_cop2Gen (s : State) : (s.retire).cop2Gen = s.cop2Gen := rfl
@[simp] theorem State.retire_cop2Ctl (s : State) : (s.retire).cop2Ctl = s.cop2Ctl := rfl
@[simp] theorem State.retire_coc0 (s : State) : (s.retire).coc0 = s.coc0 := rfl
@[simp] theorem State.retire_coc2 (s : State) : (s.retire).coc2 = s.coc2 := rfl
@[simp] theorem State.retire_coc3 (s : State) : (s.retire).coc3 = s.coc3 := rfl
@[simp] theorem State.retire_mem (s : State) : (s.retire).mem = s.mem := rfl
@[simp] theorem State.retire_typed (s : State) : (s.retire).typed = s.typed := rfl
@[simp] theorem State.retire_env (s : State) : (s.retire).env = s.env := rfl
@[simp] theorem State.retire_agenda (s : State) : (s.retire).agenda = s.agenda := rfl
@[simp] theorem State.retire_free (s : State) : (s.retire).free = s.free + 1 := rfl

/-! ### takeBranch -/

@[simp] theorem State.takeBranch_gpr (s : State) (t : Dword) : (s.takeBranch t).gpr = s.gpr := rfl
@[simp] theorem State.takeBranch_hi (s : State) (t : Dword) : (s.takeBranch t).hi = s.hi := rfl
@[simp] theorem State.takeBranch_lo (s : State) (t : Dword) : (s.takeBranch t).lo = s.lo := rfl
@[simp] theorem State.takeBranch_pc (s : State) (t : Dword) : (s.takeBranch t).pc = s.pcPlus4 := rfl
@[simp] theorem State.takeBranch_delay (s : State) (t : Dword) : (s.takeBranch t).delay = .target t := rfl
@[simp] theorem State.takeBranch_afterBranch (s : State) (t : Dword) : (s.takeBranch t).afterBranch = true := rfl
@[simp] theorem State.takeBranch_llbit (s : State) (t : Dword) : (s.takeBranch t).llbit = s.llbit := rfl
@[simp] theorem State.takeBranch_llRecord (s : State) (t : Dword) : (s.takeBranch t).llRecord = s.llRecord := rfl
@[simp] theorem State.takeBranch_fgrLo (s : State) (t : Dword) : (s.takeBranch t).fgrLo = s.fgrLo := rfl
@[simp] theorem State.takeBranch_fgrHi (s : State) (t : Dword) : (s.takeBranch t).fgrHi = s.fgrHi := rfl
@[simp] theorem State.takeBranch_fprTag (s : State) (t : Dword) : (s.takeBranch t).fprTag = s.fprTag := rfl
@[simp] theorem State.takeBranch_fcr0 (s : State) (t : Dword) : (s.takeBranch t).fcr0 = s.fcr0 := rfl
@[simp] theorem State.takeBranch_fcsr (s : State) (t : Dword) : (s.takeBranch t).fcsr = s.fcsr := rfl
@[simp] theorem State.takeBranch_recentMF (s : State) (t : Dword) : (s.takeBranch t).recentMF = ⟨.none, s.recentMF.last⟩ := rfl
@[simp] theorem State.takeBranch_hiLoPending (s : State) (t : Dword) : (s.takeBranch t).hiLoPending = s.hiLoPending := rfl
@[simp] theorem State.takeBranch_hazards (s : State) (t : Dword) : (s.takeBranch t).hazards = Hazards.empty := rfl
@[simp] theorem State.takeBranch_pendingFpTrap (s : State) (t : Dword) : (s.takeBranch t).pendingFpTrap = s.pendingFpTrap := rfl
@[simp] theorem State.takeBranch_exc (s : State) (t : Dword) : (s.takeBranch t).exc = s.exc := rfl
@[simp] theorem State.takeBranch_saved (s : State) (t : Dword) : (s.takeBranch t).saved = s.saved := rfl
@[simp] theorem State.takeBranch_trapped (s : State) (t : Dword) : (s.takeBranch t).trapped = s.trapped := rfl
@[simp] theorem State.takeBranch_ended (s : State) (t : Dword) : (s.takeBranch t).ended = s.ended := rfl
@[simp] theorem State.takeBranch_mode (s : State) (t : Dword) : (s.takeBranch t).mode = s.mode := rfl
@[simp] theorem State.takeBranch_cu (s : State) (t : Dword) : (s.takeBranch t).cu = s.cu := rfl
@[simp] theorem State.takeBranch_statusFR (s : State) (t : Dword) : (s.takeBranch t).statusFR = s.statusFR := rfl
@[simp] theorem State.takeBranch_cop2Gen (s : State) (t : Dword) : (s.takeBranch t).cop2Gen = s.cop2Gen := rfl
@[simp] theorem State.takeBranch_cop2Ctl (s : State) (t : Dword) : (s.takeBranch t).cop2Ctl = s.cop2Ctl := rfl
@[simp] theorem State.takeBranch_coc0 (s : State) (t : Dword) : (s.takeBranch t).coc0 = s.coc0 := rfl
@[simp] theorem State.takeBranch_coc2 (s : State) (t : Dword) : (s.takeBranch t).coc2 = s.coc2 := rfl
@[simp] theorem State.takeBranch_coc3 (s : State) (t : Dword) : (s.takeBranch t).coc3 = s.coc3 := rfl
@[simp] theorem State.takeBranch_mem (s : State) (t : Dword) : (s.takeBranch t).mem = s.mem := rfl
@[simp] theorem State.takeBranch_typed (s : State) (t : Dword) : (s.takeBranch t).typed = s.typed := rfl
@[simp] theorem State.takeBranch_env (s : State) (t : Dword) : (s.takeBranch t).env = s.env := rfl
@[simp] theorem State.takeBranch_agenda (s : State) (t : Dword) : (s.takeBranch t).agenda = s.agenda := rfl
@[simp] theorem State.takeBranch_free (s : State) (t : Dword) : (s.takeBranch t).free = s.free + 1 := rfl

/-! ### fallThrough -/

@[simp] theorem State.fallThrough_gpr (s : State) : (s.fallThrough).gpr = s.gpr := rfl
@[simp] theorem State.fallThrough_hi (s : State) : (s.fallThrough).hi = s.hi := rfl
@[simp] theorem State.fallThrough_lo (s : State) : (s.fallThrough).lo = s.lo := rfl
@[simp] theorem State.fallThrough_pc (s : State) : (s.fallThrough).pc = s.pcPlus4 := rfl
@[simp] theorem State.fallThrough_delay (s : State) : (s.fallThrough).delay = .none := rfl
@[simp] theorem State.fallThrough_afterBranch (s : State) : (s.fallThrough).afterBranch = true := rfl
@[simp] theorem State.fallThrough_llbit (s : State) : (s.fallThrough).llbit = s.llbit := rfl
@[simp] theorem State.fallThrough_llRecord (s : State) : (s.fallThrough).llRecord = s.llRecord := rfl
@[simp] theorem State.fallThrough_fgrLo (s : State) : (s.fallThrough).fgrLo = s.fgrLo := rfl
@[simp] theorem State.fallThrough_fgrHi (s : State) : (s.fallThrough).fgrHi = s.fgrHi := rfl
@[simp] theorem State.fallThrough_fprTag (s : State) : (s.fallThrough).fprTag = s.fprTag := rfl
@[simp] theorem State.fallThrough_fcr0 (s : State) : (s.fallThrough).fcr0 = s.fcr0 := rfl
@[simp] theorem State.fallThrough_fcsr (s : State) : (s.fallThrough).fcsr = s.fcsr := rfl
@[simp] theorem State.fallThrough_recentMF (s : State) : (s.fallThrough).recentMF = ⟨.none, s.recentMF.last⟩ := rfl
@[simp] theorem State.fallThrough_hiLoPending (s : State) : (s.fallThrough).hiLoPending = s.hiLoPending := rfl
@[simp] theorem State.fallThrough_hazards (s : State) : (s.fallThrough).hazards = Hazards.empty := rfl
@[simp] theorem State.fallThrough_pendingFpTrap (s : State) : (s.fallThrough).pendingFpTrap = s.pendingFpTrap := rfl
@[simp] theorem State.fallThrough_exc (s : State) : (s.fallThrough).exc = s.exc := rfl
@[simp] theorem State.fallThrough_saved (s : State) : (s.fallThrough).saved = s.saved := rfl
@[simp] theorem State.fallThrough_trapped (s : State) : (s.fallThrough).trapped = s.trapped := rfl
@[simp] theorem State.fallThrough_ended (s : State) : (s.fallThrough).ended = s.ended := rfl
@[simp] theorem State.fallThrough_mode (s : State) : (s.fallThrough).mode = s.mode := rfl
@[simp] theorem State.fallThrough_cu (s : State) : (s.fallThrough).cu = s.cu := rfl
@[simp] theorem State.fallThrough_statusFR (s : State) : (s.fallThrough).statusFR = s.statusFR := rfl
@[simp] theorem State.fallThrough_cop2Gen (s : State) : (s.fallThrough).cop2Gen = s.cop2Gen := rfl
@[simp] theorem State.fallThrough_cop2Ctl (s : State) : (s.fallThrough).cop2Ctl = s.cop2Ctl := rfl
@[simp] theorem State.fallThrough_coc0 (s : State) : (s.fallThrough).coc0 = s.coc0 := rfl
@[simp] theorem State.fallThrough_coc2 (s : State) : (s.fallThrough).coc2 = s.coc2 := rfl
@[simp] theorem State.fallThrough_coc3 (s : State) : (s.fallThrough).coc3 = s.coc3 := rfl
@[simp] theorem State.fallThrough_mem (s : State) : (s.fallThrough).mem = s.mem := rfl
@[simp] theorem State.fallThrough_typed (s : State) : (s.fallThrough).typed = s.typed := rfl
@[simp] theorem State.fallThrough_env (s : State) : (s.fallThrough).env = s.env := rfl
@[simp] theorem State.fallThrough_agenda (s : State) : (s.fallThrough).agenda = s.agenda := rfl
@[simp] theorem State.fallThrough_free (s : State) : (s.fallThrough).free = s.free + 1 := rfl

/-! ### nullifyNext -/

@[simp] theorem State.nullifyNext_gpr (s : State) : (s.nullifyNext).gpr = s.gpr := rfl
@[simp] theorem State.nullifyNext_hi (s : State) : (s.nullifyNext).hi = s.hi := rfl
@[simp] theorem State.nullifyNext_lo (s : State) : (s.nullifyNext).lo = s.lo := rfl
@[simp] theorem State.nullifyNext_pc (s : State) : (s.nullifyNext).pc = s.pcPlus4 := rfl
@[simp] theorem State.nullifyNext_delay (s : State) : (s.nullifyNext).delay = .nullify := rfl
@[simp] theorem State.nullifyNext_afterBranch (s : State) : (s.nullifyNext).afterBranch = false := rfl
@[simp] theorem State.nullifyNext_llbit (s : State) : (s.nullifyNext).llbit = s.llbit := rfl
@[simp] theorem State.nullifyNext_llRecord (s : State) : (s.nullifyNext).llRecord = s.llRecord := rfl
@[simp] theorem State.nullifyNext_fgrLo (s : State) : (s.nullifyNext).fgrLo = s.fgrLo := rfl
@[simp] theorem State.nullifyNext_fgrHi (s : State) : (s.nullifyNext).fgrHi = s.fgrHi := rfl
@[simp] theorem State.nullifyNext_fprTag (s : State) : (s.nullifyNext).fprTag = s.fprTag := rfl
@[simp] theorem State.nullifyNext_fcr0 (s : State) : (s.nullifyNext).fcr0 = s.fcr0 := rfl
@[simp] theorem State.nullifyNext_fcsr (s : State) : (s.nullifyNext).fcsr = s.fcsr := rfl
@[simp] theorem State.nullifyNext_recentMF (s : State) : (s.nullifyNext).recentMF = ⟨.none, s.recentMF.last⟩ := rfl
@[simp] theorem State.nullifyNext_hiLoPending (s : State) : (s.nullifyNext).hiLoPending = s.hiLoPending := rfl
@[simp] theorem State.nullifyNext_hazards (s : State) : (s.nullifyNext).hazards = Hazards.empty := rfl
@[simp] theorem State.nullifyNext_pendingFpTrap (s : State) : (s.nullifyNext).pendingFpTrap = s.pendingFpTrap := rfl
@[simp] theorem State.nullifyNext_exc (s : State) : (s.nullifyNext).exc = s.exc := rfl
@[simp] theorem State.nullifyNext_saved (s : State) : (s.nullifyNext).saved = s.saved := rfl
@[simp] theorem State.nullifyNext_trapped (s : State) : (s.nullifyNext).trapped = s.trapped := rfl
@[simp] theorem State.nullifyNext_ended (s : State) : (s.nullifyNext).ended = s.ended := rfl
@[simp] theorem State.nullifyNext_mode (s : State) : (s.nullifyNext).mode = s.mode := rfl
@[simp] theorem State.nullifyNext_cu (s : State) : (s.nullifyNext).cu = s.cu := rfl
@[simp] theorem State.nullifyNext_statusFR (s : State) : (s.nullifyNext).statusFR = s.statusFR := rfl
@[simp] theorem State.nullifyNext_cop2Gen (s : State) : (s.nullifyNext).cop2Gen = s.cop2Gen := rfl
@[simp] theorem State.nullifyNext_cop2Ctl (s : State) : (s.nullifyNext).cop2Ctl = s.cop2Ctl := rfl
@[simp] theorem State.nullifyNext_coc0 (s : State) : (s.nullifyNext).coc0 = s.coc0 := rfl
@[simp] theorem State.nullifyNext_coc2 (s : State) : (s.nullifyNext).coc2 = s.coc2 := rfl
@[simp] theorem State.nullifyNext_coc3 (s : State) : (s.nullifyNext).coc3 = s.coc3 := rfl
@[simp] theorem State.nullifyNext_mem (s : State) : (s.nullifyNext).mem = s.mem := rfl
@[simp] theorem State.nullifyNext_typed (s : State) : (s.nullifyNext).typed = s.typed := rfl
@[simp] theorem State.nullifyNext_env (s : State) : (s.nullifyNext).env = s.env := rfl
@[simp] theorem State.nullifyNext_agenda (s : State) : (s.nullifyNext).agenda = s.agenda := rfl
@[simp] theorem State.nullifyNext_free (s : State) : (s.nullifyNext).free = s.free + 1 := rfl

/-! ### skipSlot -/

@[simp] theorem State.skipSlot_gpr (s : State) : (s.skipSlot).gpr = s.gpr := rfl
@[simp] theorem State.skipSlot_hi (s : State) : (s.skipSlot).hi = s.hi := rfl
@[simp] theorem State.skipSlot_lo (s : State) : (s.skipSlot).lo = s.lo := rfl
@[simp] theorem State.skipSlot_pc (s : State) : (s.skipSlot).pc = s.pcPlus4 := rfl
@[simp] theorem State.skipSlot_delay (s : State) : (s.skipSlot).delay = .none := rfl
@[simp] theorem State.skipSlot_afterBranch (s : State) : (s.skipSlot).afterBranch = s.afterBranch := rfl
@[simp] theorem State.skipSlot_llbit (s : State) : (s.skipSlot).llbit = s.llbit := rfl
@[simp] theorem State.skipSlot_llRecord (s : State) : (s.skipSlot).llRecord = s.llRecord := rfl
@[simp] theorem State.skipSlot_fgrLo (s : State) : (s.skipSlot).fgrLo = s.fgrLo := rfl
@[simp] theorem State.skipSlot_fgrHi (s : State) : (s.skipSlot).fgrHi = s.fgrHi := rfl
@[simp] theorem State.skipSlot_fprTag (s : State) : (s.skipSlot).fprTag = s.fprTag := rfl
@[simp] theorem State.skipSlot_fcr0 (s : State) : (s.skipSlot).fcr0 = s.fcr0 := rfl
@[simp] theorem State.skipSlot_fcsr (s : State) : (s.skipSlot).fcsr = s.fcsr := rfl
@[simp] theorem State.skipSlot_recentMF (s : State) : (s.skipSlot).recentMF = s.recentMF := rfl
@[simp] theorem State.skipSlot_hiLoPending (s : State) : (s.skipSlot).hiLoPending = s.hiLoPending := rfl
@[simp] theorem State.skipSlot_hazards (s : State) : (s.skipSlot).hazards = s.hazards := rfl
@[simp] theorem State.skipSlot_pendingFpTrap (s : State) : (s.skipSlot).pendingFpTrap = s.pendingFpTrap := rfl
@[simp] theorem State.skipSlot_exc (s : State) : (s.skipSlot).exc = s.exc := rfl
@[simp] theorem State.skipSlot_saved (s : State) : (s.skipSlot).saved = s.saved := rfl
@[simp] theorem State.skipSlot_trapped (s : State) : (s.skipSlot).trapped = s.trapped := rfl
@[simp] theorem State.skipSlot_ended (s : State) : (s.skipSlot).ended = s.ended := rfl
@[simp] theorem State.skipSlot_mode (s : State) : (s.skipSlot).mode = s.mode := rfl
@[simp] theorem State.skipSlot_cu (s : State) : (s.skipSlot).cu = s.cu := rfl
@[simp] theorem State.skipSlot_statusFR (s : State) : (s.skipSlot).statusFR = s.statusFR := rfl
@[simp] theorem State.skipSlot_cop2Gen (s : State) : (s.skipSlot).cop2Gen = s.cop2Gen := rfl
@[simp] theorem State.skipSlot_cop2Ctl (s : State) : (s.skipSlot).cop2Ctl = s.cop2Ctl := rfl
@[simp] theorem State.skipSlot_coc0 (s : State) : (s.skipSlot).coc0 = s.coc0 := rfl
@[simp] theorem State.skipSlot_coc2 (s : State) : (s.skipSlot).coc2 = s.coc2 := rfl
@[simp] theorem State.skipSlot_coc3 (s : State) : (s.skipSlot).coc3 = s.coc3 := rfl
@[simp] theorem State.skipSlot_mem (s : State) : (s.skipSlot).mem = s.mem := rfl
@[simp] theorem State.skipSlot_typed (s : State) : (s.skipSlot).typed = s.typed := rfl
@[simp] theorem State.skipSlot_env (s : State) : (s.skipSlot).env = s.env := rfl
@[simp] theorem State.skipSlot_agenda (s : State) : (s.skipSlot).agenda = s.agenda := rfl
@[simp] theorem State.skipSlot_free (s : State) : (s.skipSlot).free = s.free := rfl

/-! ### setTag -/

@[simp] theorem State.setTag_gpr (s : State) (n : Reg) (t : FprTag) : (s.setTag n t).gpr = s.gpr := rfl
@[simp] theorem State.setTag_hi (s : State) (n : Reg) (t : FprTag) : (s.setTag n t).hi = s.hi := rfl
@[simp] theorem State.setTag_lo (s : State) (n : Reg) (t : FprTag) : (s.setTag n t).lo = s.lo := rfl
@[simp] theorem State.setTag_pc (s : State) (n : Reg) (t : FprTag) : (s.setTag n t).pc = s.pc := rfl
@[simp] theorem State.setTag_delay (s : State) (n : Reg) (t : FprTag) : (s.setTag n t).delay = s.delay := rfl
@[simp] theorem State.setTag_afterBranch (s : State) (n : Reg) (t : FprTag) : (s.setTag n t).afterBranch = s.afterBranch := rfl
@[simp] theorem State.setTag_llbit (s : State) (n : Reg) (t : FprTag) : (s.setTag n t).llbit = s.llbit := rfl
@[simp] theorem State.setTag_llRecord (s : State) (n : Reg) (t : FprTag) : (s.setTag n t).llRecord = s.llRecord := rfl
@[simp] theorem State.setTag_fgrLo (s : State) (n : Reg) (t : FprTag) : (s.setTag n t).fgrLo = s.fgrLo := rfl
@[simp] theorem State.setTag_fgrHi (s : State) (n : Reg) (t : FprTag) : (s.setTag n t).fgrHi = s.fgrHi := rfl
@[simp] theorem State.setTag_fprTag (s : State) (n : Reg) (t : FprTag) : (s.setTag n t).fprTag = regSet s.fprTag (s.tagReg n) t := rfl
@[simp] theorem State.setTag_fcr0 (s : State) (n : Reg) (t : FprTag) : (s.setTag n t).fcr0 = s.fcr0 := rfl
@[simp] theorem State.setTag_fcsr (s : State) (n : Reg) (t : FprTag) : (s.setTag n t).fcsr = s.fcsr := rfl
@[simp] theorem State.setTag_recentMF (s : State) (n : Reg) (t : FprTag) : (s.setTag n t).recentMF = s.recentMF := rfl
@[simp] theorem State.setTag_hiLoPending (s : State) (n : Reg) (t : FprTag) : (s.setTag n t).hiLoPending = s.hiLoPending := rfl
@[simp] theorem State.setTag_hazards (s : State) (n : Reg) (t : FprTag) : (s.setTag n t).hazards = s.hazards := rfl
@[simp] theorem State.setTag_pendingFpTrap (s : State) (n : Reg) (t : FprTag) : (s.setTag n t).pendingFpTrap = s.pendingFpTrap := rfl
@[simp] theorem State.setTag_exc (s : State) (n : Reg) (t : FprTag) : (s.setTag n t).exc = s.exc := rfl
@[simp] theorem State.setTag_saved (s : State) (n : Reg) (t : FprTag) : (s.setTag n t).saved = s.saved := rfl
@[simp] theorem State.setTag_trapped (s : State) (n : Reg) (t : FprTag) : (s.setTag n t).trapped = s.trapped := rfl
@[simp] theorem State.setTag_ended (s : State) (n : Reg) (t : FprTag) : (s.setTag n t).ended = s.ended := rfl
@[simp] theorem State.setTag_mode (s : State) (n : Reg) (t : FprTag) : (s.setTag n t).mode = s.mode := rfl
@[simp] theorem State.setTag_cu (s : State) (n : Reg) (t : FprTag) : (s.setTag n t).cu = s.cu := rfl
@[simp] theorem State.setTag_statusFR (s : State) (n : Reg) (t : FprTag) : (s.setTag n t).statusFR = s.statusFR := rfl
@[simp] theorem State.setTag_cop2Gen (s : State) (n : Reg) (t : FprTag) : (s.setTag n t).cop2Gen = s.cop2Gen := rfl
@[simp] theorem State.setTag_cop2Ctl (s : State) (n : Reg) (t : FprTag) : (s.setTag n t).cop2Ctl = s.cop2Ctl := rfl
@[simp] theorem State.setTag_coc0 (s : State) (n : Reg) (t : FprTag) : (s.setTag n t).coc0 = s.coc0 := rfl
@[simp] theorem State.setTag_coc2 (s : State) (n : Reg) (t : FprTag) : (s.setTag n t).coc2 = s.coc2 := rfl
@[simp] theorem State.setTag_coc3 (s : State) (n : Reg) (t : FprTag) : (s.setTag n t).coc3 = s.coc3 := rfl
@[simp] theorem State.setTag_mem (s : State) (n : Reg) (t : FprTag) : (s.setTag n t).mem = s.mem := rfl
@[simp] theorem State.setTag_typed (s : State) (n : Reg) (t : FprTag) : (s.setTag n t).typed = s.typed := rfl
@[simp] theorem State.setTag_env (s : State) (n : Reg) (t : FprTag) : (s.setTag n t).env = s.env := rfl
@[simp] theorem State.setTag_agenda (s : State) (n : Reg) (t : FprTag) : (s.setTag n t).agenda = s.agenda := rfl
@[simp] theorem State.setTag_free (s : State) (n : Reg) (t : FprTag) : (s.setTag n t).free = s.free := rfl

/-! ### setLow -/

@[simp] theorem State.setLow_gpr (s : State) (n : Reg) (w : Word) : (s.setLow n w).gpr = s.gpr := rfl
@[simp] theorem State.setLow_hi (s : State) (n : Reg) (w : Word) : (s.setLow n w).hi = s.hi := rfl
@[simp] theorem State.setLow_lo (s : State) (n : Reg) (w : Word) : (s.setLow n w).lo = s.lo := rfl
@[simp] theorem State.setLow_pc (s : State) (n : Reg) (w : Word) : (s.setLow n w).pc = s.pc := rfl
@[simp] theorem State.setLow_delay (s : State) (n : Reg) (w : Word) : (s.setLow n w).delay = s.delay := rfl
@[simp] theorem State.setLow_afterBranch (s : State) (n : Reg) (w : Word) : (s.setLow n w).afterBranch = s.afterBranch := rfl
@[simp] theorem State.setLow_llbit (s : State) (n : Reg) (w : Word) : (s.setLow n w).llbit = s.llbit := rfl
@[simp] theorem State.setLow_llRecord (s : State) (n : Reg) (w : Word) : (s.setLow n w).llRecord = s.llRecord := rfl
@[simp] theorem State.setLow_fgrLo (s : State) (n : Reg) (w : Word) : (s.setLow n w).fgrLo = regSet s.fgrLo n w := rfl
@[simp] theorem State.setLow_fgrHi (s : State) (n : Reg) (w : Word) : (s.setLow n w).fgrHi = s.fgrHi := rfl
@[simp] theorem State.setLow_fprTag (s : State) (n : Reg) (w : Word) : (s.setLow n w).fprTag = s.fprTag := rfl
@[simp] theorem State.setLow_fcr0 (s : State) (n : Reg) (w : Word) : (s.setLow n w).fcr0 = s.fcr0 := rfl
@[simp] theorem State.setLow_fcsr (s : State) (n : Reg) (w : Word) : (s.setLow n w).fcsr = s.fcsr := rfl
@[simp] theorem State.setLow_recentMF (s : State) (n : Reg) (w : Word) : (s.setLow n w).recentMF = s.recentMF := rfl
@[simp] theorem State.setLow_hiLoPending (s : State) (n : Reg) (w : Word) : (s.setLow n w).hiLoPending = s.hiLoPending := rfl
@[simp] theorem State.setLow_hazards (s : State) (n : Reg) (w : Word) : (s.setLow n w).hazards = s.hazards := rfl
@[simp] theorem State.setLow_pendingFpTrap (s : State) (n : Reg) (w : Word) : (s.setLow n w).pendingFpTrap = s.pendingFpTrap := rfl
@[simp] theorem State.setLow_exc (s : State) (n : Reg) (w : Word) : (s.setLow n w).exc = s.exc := rfl
@[simp] theorem State.setLow_saved (s : State) (n : Reg) (w : Word) : (s.setLow n w).saved = s.saved := rfl
@[simp] theorem State.setLow_trapped (s : State) (n : Reg) (w : Word) : (s.setLow n w).trapped = s.trapped := rfl
@[simp] theorem State.setLow_ended (s : State) (n : Reg) (w : Word) : (s.setLow n w).ended = s.ended := rfl
@[simp] theorem State.setLow_mode (s : State) (n : Reg) (w : Word) : (s.setLow n w).mode = s.mode := rfl
@[simp] theorem State.setLow_cu (s : State) (n : Reg) (w : Word) : (s.setLow n w).cu = s.cu := rfl
@[simp] theorem State.setLow_statusFR (s : State) (n : Reg) (w : Word) : (s.setLow n w).statusFR = s.statusFR := rfl
@[simp] theorem State.setLow_cop2Gen (s : State) (n : Reg) (w : Word) : (s.setLow n w).cop2Gen = s.cop2Gen := rfl
@[simp] theorem State.setLow_cop2Ctl (s : State) (n : Reg) (w : Word) : (s.setLow n w).cop2Ctl = s.cop2Ctl := rfl
@[simp] theorem State.setLow_coc0 (s : State) (n : Reg) (w : Word) : (s.setLow n w).coc0 = s.coc0 := rfl
@[simp] theorem State.setLow_coc2 (s : State) (n : Reg) (w : Word) : (s.setLow n w).coc2 = s.coc2 := rfl
@[simp] theorem State.setLow_coc3 (s : State) (n : Reg) (w : Word) : (s.setLow n w).coc3 = s.coc3 := rfl
@[simp] theorem State.setLow_mem (s : State) (n : Reg) (w : Word) : (s.setLow n w).mem = s.mem := rfl
@[simp] theorem State.setLow_typed (s : State) (n : Reg) (w : Word) : (s.setLow n w).typed = s.typed := rfl
@[simp] theorem State.setLow_env (s : State) (n : Reg) (w : Word) : (s.setLow n w).env = s.env := rfl
@[simp] theorem State.setLow_agenda (s : State) (n : Reg) (w : Word) : (s.setLow n w).agenda = s.agenda := rfl
@[simp] theorem State.setLow_free (s : State) (n : Reg) (w : Word) : (s.setLow n w).free = s.free := rfl

/-! ### setHigh -/

@[simp] theorem State.setHigh_gpr (s : State) (n : Reg) (w : Word) : (s.setHigh n w).gpr = s.gpr := rfl
@[simp] theorem State.setHigh_hi (s : State) (n : Reg) (w : Word) : (s.setHigh n w).hi = s.hi := rfl
@[simp] theorem State.setHigh_lo (s : State) (n : Reg) (w : Word) : (s.setHigh n w).lo = s.lo := rfl
@[simp] theorem State.setHigh_pc (s : State) (n : Reg) (w : Word) : (s.setHigh n w).pc = s.pc := rfl
@[simp] theorem State.setHigh_delay (s : State) (n : Reg) (w : Word) : (s.setHigh n w).delay = s.delay := rfl
@[simp] theorem State.setHigh_afterBranch (s : State) (n : Reg) (w : Word) : (s.setHigh n w).afterBranch = s.afterBranch := rfl
@[simp] theorem State.setHigh_llbit (s : State) (n : Reg) (w : Word) : (s.setHigh n w).llbit = s.llbit := rfl
@[simp] theorem State.setHigh_llRecord (s : State) (n : Reg) (w : Word) : (s.setHigh n w).llRecord = s.llRecord := rfl
@[simp] theorem State.setHigh_fgrLo (s : State) (n : Reg) (w : Word) : (s.setHigh n w).fgrLo = s.fgrLo := rfl
@[simp] theorem State.setHigh_fgrHi (s : State) (n : Reg) (w : Word) : (s.setHigh n w).fgrHi = regSet s.fgrHi n w := rfl
@[simp] theorem State.setHigh_fprTag (s : State) (n : Reg) (w : Word) : (s.setHigh n w).fprTag = s.fprTag := rfl
@[simp] theorem State.setHigh_fcr0 (s : State) (n : Reg) (w : Word) : (s.setHigh n w).fcr0 = s.fcr0 := rfl
@[simp] theorem State.setHigh_fcsr (s : State) (n : Reg) (w : Word) : (s.setHigh n w).fcsr = s.fcsr := rfl
@[simp] theorem State.setHigh_recentMF (s : State) (n : Reg) (w : Word) : (s.setHigh n w).recentMF = s.recentMF := rfl
@[simp] theorem State.setHigh_hiLoPending (s : State) (n : Reg) (w : Word) : (s.setHigh n w).hiLoPending = s.hiLoPending := rfl
@[simp] theorem State.setHigh_hazards (s : State) (n : Reg) (w : Word) : (s.setHigh n w).hazards = s.hazards := rfl
@[simp] theorem State.setHigh_pendingFpTrap (s : State) (n : Reg) (w : Word) : (s.setHigh n w).pendingFpTrap = s.pendingFpTrap := rfl
@[simp] theorem State.setHigh_exc (s : State) (n : Reg) (w : Word) : (s.setHigh n w).exc = s.exc := rfl
@[simp] theorem State.setHigh_saved (s : State) (n : Reg) (w : Word) : (s.setHigh n w).saved = s.saved := rfl
@[simp] theorem State.setHigh_trapped (s : State) (n : Reg) (w : Word) : (s.setHigh n w).trapped = s.trapped := rfl
@[simp] theorem State.setHigh_ended (s : State) (n : Reg) (w : Word) : (s.setHigh n w).ended = s.ended := rfl
@[simp] theorem State.setHigh_mode (s : State) (n : Reg) (w : Word) : (s.setHigh n w).mode = s.mode := rfl
@[simp] theorem State.setHigh_cu (s : State) (n : Reg) (w : Word) : (s.setHigh n w).cu = s.cu := rfl
@[simp] theorem State.setHigh_statusFR (s : State) (n : Reg) (w : Word) : (s.setHigh n w).statusFR = s.statusFR := rfl
@[simp] theorem State.setHigh_cop2Gen (s : State) (n : Reg) (w : Word) : (s.setHigh n w).cop2Gen = s.cop2Gen := rfl
@[simp] theorem State.setHigh_cop2Ctl (s : State) (n : Reg) (w : Word) : (s.setHigh n w).cop2Ctl = s.cop2Ctl := rfl
@[simp] theorem State.setHigh_coc0 (s : State) (n : Reg) (w : Word) : (s.setHigh n w).coc0 = s.coc0 := rfl
@[simp] theorem State.setHigh_coc2 (s : State) (n : Reg) (w : Word) : (s.setHigh n w).coc2 = s.coc2 := rfl
@[simp] theorem State.setHigh_coc3 (s : State) (n : Reg) (w : Word) : (s.setHigh n w).coc3 = s.coc3 := rfl
@[simp] theorem State.setHigh_mem (s : State) (n : Reg) (w : Word) : (s.setHigh n w).mem = s.mem := rfl
@[simp] theorem State.setHigh_typed (s : State) (n : Reg) (w : Word) : (s.setHigh n w).typed = s.typed := rfl
@[simp] theorem State.setHigh_env (s : State) (n : Reg) (w : Word) : (s.setHigh n w).env = s.env := rfl
@[simp] theorem State.setHigh_agenda (s : State) (n : Reg) (w : Word) : (s.setHigh n w).agenda = s.agenda := rfl
@[simp] theorem State.setHigh_free (s : State) (n : Reg) (w : Word) : (s.setHigh n w).free = s.free := rfl

/-! ### setPair -/

@[simp] theorem State.setPair_gpr (s : State) (n : Reg) (v : Dword) : (s.setPair n v).gpr = s.gpr := by
  unfold State.setPair; split <;> rfl
@[simp] theorem State.setPair_hi (s : State) (n : Reg) (v : Dword) : (s.setPair n v).hi = s.hi := by
  unfold State.setPair; split <;> rfl
@[simp] theorem State.setPair_lo (s : State) (n : Reg) (v : Dword) : (s.setPair n v).lo = s.lo := by
  unfold State.setPair; split <;> rfl
@[simp] theorem State.setPair_pc (s : State) (n : Reg) (v : Dword) : (s.setPair n v).pc = s.pc := by
  unfold State.setPair; split <;> rfl
@[simp] theorem State.setPair_delay (s : State) (n : Reg) (v : Dword) : (s.setPair n v).delay = s.delay := by
  unfold State.setPair; split <;> rfl
@[simp] theorem State.setPair_afterBranch (s : State) (n : Reg) (v : Dword) : (s.setPair n v).afterBranch = s.afterBranch := by
  unfold State.setPair; split <;> rfl
@[simp] theorem State.setPair_llbit (s : State) (n : Reg) (v : Dword) : (s.setPair n v).llbit = s.llbit := by
  unfold State.setPair; split <;> rfl
@[simp] theorem State.setPair_llRecord (s : State) (n : Reg) (v : Dword) : (s.setPair n v).llRecord = s.llRecord := by
  unfold State.setPair; split <;> rfl
@[simp] theorem State.setPair_fprTag (s : State) (n : Reg) (v : Dword) : (s.setPair n v).fprTag = s.fprTag := by
  unfold State.setPair; split <;> rfl
@[simp] theorem State.setPair_fcr0 (s : State) (n : Reg) (v : Dword) : (s.setPair n v).fcr0 = s.fcr0 := by
  unfold State.setPair; split <;> rfl
@[simp] theorem State.setPair_fcsr (s : State) (n : Reg) (v : Dword) : (s.setPair n v).fcsr = s.fcsr := by
  unfold State.setPair; split <;> rfl
@[simp] theorem State.setPair_recentMF (s : State) (n : Reg) (v : Dword) : (s.setPair n v).recentMF = s.recentMF := by
  unfold State.setPair; split <;> rfl
@[simp] theorem State.setPair_hiLoPending (s : State) (n : Reg) (v : Dword) : (s.setPair n v).hiLoPending = s.hiLoPending := by
  unfold State.setPair; split <;> rfl
@[simp] theorem State.setPair_hazards (s : State) (n : Reg) (v : Dword) : (s.setPair n v).hazards = s.hazards := by
  unfold State.setPair; split <;> rfl
@[simp] theorem State.setPair_pendingFpTrap (s : State) (n : Reg) (v : Dword) : (s.setPair n v).pendingFpTrap = s.pendingFpTrap := by
  unfold State.setPair; split <;> rfl
@[simp] theorem State.setPair_exc (s : State) (n : Reg) (v : Dword) : (s.setPair n v).exc = s.exc := by
  unfold State.setPair; split <;> rfl
@[simp] theorem State.setPair_saved (s : State) (n : Reg) (v : Dword) : (s.setPair n v).saved = s.saved := by
  unfold State.setPair; split <;> rfl
@[simp] theorem State.setPair_trapped (s : State) (n : Reg) (v : Dword) : (s.setPair n v).trapped = s.trapped := by
  unfold State.setPair; split <;> rfl
@[simp] theorem State.setPair_ended (s : State) (n : Reg) (v : Dword) : (s.setPair n v).ended = s.ended := by
  unfold State.setPair; split <;> rfl
@[simp] theorem State.setPair_mode (s : State) (n : Reg) (v : Dword) : (s.setPair n v).mode = s.mode := by
  unfold State.setPair; split <;> rfl
@[simp] theorem State.setPair_cu (s : State) (n : Reg) (v : Dword) : (s.setPair n v).cu = s.cu := by
  unfold State.setPair; split <;> rfl
@[simp] theorem State.setPair_statusFR (s : State) (n : Reg) (v : Dword) : (s.setPair n v).statusFR = s.statusFR := by
  unfold State.setPair; split <;> rfl
@[simp] theorem State.setPair_cop2Gen (s : State) (n : Reg) (v : Dword) : (s.setPair n v).cop2Gen = s.cop2Gen := by
  unfold State.setPair; split <;> rfl
@[simp] theorem State.setPair_cop2Ctl (s : State) (n : Reg) (v : Dword) : (s.setPair n v).cop2Ctl = s.cop2Ctl := by
  unfold State.setPair; split <;> rfl
@[simp] theorem State.setPair_coc0 (s : State) (n : Reg) (v : Dword) : (s.setPair n v).coc0 = s.coc0 := by
  unfold State.setPair; split <;> rfl
@[simp] theorem State.setPair_coc2 (s : State) (n : Reg) (v : Dword) : (s.setPair n v).coc2 = s.coc2 := by
  unfold State.setPair; split <;> rfl
@[simp] theorem State.setPair_coc3 (s : State) (n : Reg) (v : Dword) : (s.setPair n v).coc3 = s.coc3 := by
  unfold State.setPair; split <;> rfl
@[simp] theorem State.setPair_mem (s : State) (n : Reg) (v : Dword) : (s.setPair n v).mem = s.mem := by
  unfold State.setPair; split <;> rfl
@[simp] theorem State.setPair_typed (s : State) (n : Reg) (v : Dword) : (s.setPair n v).typed = s.typed := by
  unfold State.setPair; split <;> rfl
@[simp] theorem State.setPair_env (s : State) (n : Reg) (v : Dword) : (s.setPair n v).env = s.env := by
  unfold State.setPair; split <;> rfl
@[simp] theorem State.setPair_agenda (s : State) (n : Reg) (v : Dword) : (s.setPair n v).agenda = s.agenda := by
  unfold State.setPair; split <;> rfl
@[simp] theorem State.setPair_free (s : State) (n : Reg) (v : Dword) : (s.setPair n v).free = s.free := by
  unfold State.setPair; split <;> rfl

/-! ### scramble -/

@[simp] theorem State.scramble_gpr (s : State) (n : Reg) : (s.scramble n).gpr = s.gpr := State.setPair_gpr ..
@[simp] theorem State.scramble_hi (s : State) (n : Reg) : (s.scramble n).hi = s.hi := State.setPair_hi ..
@[simp] theorem State.scramble_lo (s : State) (n : Reg) : (s.scramble n).lo = s.lo := State.setPair_lo ..
@[simp] theorem State.scramble_pc (s : State) (n : Reg) : (s.scramble n).pc = s.pc := State.setPair_pc ..
@[simp] theorem State.scramble_delay (s : State) (n : Reg) : (s.scramble n).delay = s.delay := State.setPair_delay ..
@[simp] theorem State.scramble_afterBranch (s : State) (n : Reg) : (s.scramble n).afterBranch = s.afterBranch := State.setPair_afterBranch ..
@[simp] theorem State.scramble_llbit (s : State) (n : Reg) : (s.scramble n).llbit = s.llbit := State.setPair_llbit ..
@[simp] theorem State.scramble_llRecord (s : State) (n : Reg) : (s.scramble n).llRecord = s.llRecord := State.setPair_llRecord ..
@[simp] theorem State.scramble_fprTag (s : State) (n : Reg) : (s.scramble n).fprTag = s.fprTag := State.setPair_fprTag ..
@[simp] theorem State.scramble_fcr0 (s : State) (n : Reg) : (s.scramble n).fcr0 = s.fcr0 := State.setPair_fcr0 ..
@[simp] theorem State.scramble_fcsr (s : State) (n : Reg) : (s.scramble n).fcsr = s.fcsr := State.setPair_fcsr ..
@[simp] theorem State.scramble_recentMF (s : State) (n : Reg) : (s.scramble n).recentMF = s.recentMF := State.setPair_recentMF ..
@[simp] theorem State.scramble_hiLoPending (s : State) (n : Reg) : (s.scramble n).hiLoPending = s.hiLoPending := State.setPair_hiLoPending ..
@[simp] theorem State.scramble_hazards (s : State) (n : Reg) : (s.scramble n).hazards = s.hazards := State.setPair_hazards ..
@[simp] theorem State.scramble_pendingFpTrap (s : State) (n : Reg) : (s.scramble n).pendingFpTrap = s.pendingFpTrap := State.setPair_pendingFpTrap ..
@[simp] theorem State.scramble_exc (s : State) (n : Reg) : (s.scramble n).exc = s.exc := State.setPair_exc ..
@[simp] theorem State.scramble_saved (s : State) (n : Reg) : (s.scramble n).saved = s.saved := State.setPair_saved ..
@[simp] theorem State.scramble_trapped (s : State) (n : Reg) : (s.scramble n).trapped = s.trapped := State.setPair_trapped ..
@[simp] theorem State.scramble_ended (s : State) (n : Reg) : (s.scramble n).ended = s.ended := State.setPair_ended ..
@[simp] theorem State.scramble_mode (s : State) (n : Reg) : (s.scramble n).mode = s.mode := State.setPair_mode ..
@[simp] theorem State.scramble_cu (s : State) (n : Reg) : (s.scramble n).cu = s.cu := State.setPair_cu ..
@[simp] theorem State.scramble_statusFR (s : State) (n : Reg) : (s.scramble n).statusFR = s.statusFR := State.setPair_statusFR ..
@[simp] theorem State.scramble_cop2Gen (s : State) (n : Reg) : (s.scramble n).cop2Gen = s.cop2Gen := State.setPair_cop2Gen ..
@[simp] theorem State.scramble_cop2Ctl (s : State) (n : Reg) : (s.scramble n).cop2Ctl = s.cop2Ctl := State.setPair_cop2Ctl ..
@[simp] theorem State.scramble_coc0 (s : State) (n : Reg) : (s.scramble n).coc0 = s.coc0 := State.setPair_coc0 ..
@[simp] theorem State.scramble_coc2 (s : State) (n : Reg) : (s.scramble n).coc2 = s.coc2 := State.setPair_coc2 ..
@[simp] theorem State.scramble_coc3 (s : State) (n : Reg) : (s.scramble n).coc3 = s.coc3 := State.setPair_coc3 ..
@[simp] theorem State.scramble_mem (s : State) (n : Reg) : (s.scramble n).mem = s.mem := State.setPair_mem ..
@[simp] theorem State.scramble_typed (s : State) (n : Reg) : (s.scramble n).typed = s.typed := State.setPair_typed ..
@[simp] theorem State.scramble_env (s : State) (n : Reg) : (s.scramble n).env = s.env := State.setPair_env ..
@[simp] theorem State.scramble_agenda (s : State) (n : Reg) : (s.scramble n).agenda = s.agenda := State.setPair_agenda ..
@[simp] theorem State.scramble_free (s : State) (n : Reg) : (s.scramble n).free = s.free := State.setPair_free ..

/-! ### spoil -/

@[simp] theorem State.spoil_gpr (s : State) (n : Reg) : (s.spoil n).gpr = s.gpr := State.scramble_gpr ..
@[simp] theorem State.spoil_hi (s : State) (n : Reg) : (s.spoil n).hi = s.hi := State.scramble_hi ..
@[simp] theorem State.spoil_lo (s : State) (n : Reg) : (s.spoil n).lo = s.lo := State.scramble_lo ..
@[simp] theorem State.spoil_pc (s : State) (n : Reg) : (s.spoil n).pc = s.pc := State.scramble_pc ..
@[simp] theorem State.spoil_delay (s : State) (n : Reg) : (s.spoil n).delay = s.delay := State.scramble_delay ..
@[simp] theorem State.spoil_afterBranch (s : State) (n : Reg) : (s.spoil n).afterBranch = s.afterBranch := State.scramble_afterBranch ..
@[simp] theorem State.spoil_llbit (s : State) (n : Reg) : (s.spoil n).llbit = s.llbit := State.scramble_llbit ..
@[simp] theorem State.spoil_llRecord (s : State) (n : Reg) : (s.spoil n).llRecord = s.llRecord := State.scramble_llRecord ..
@[simp] theorem State.spoil_fcr0 (s : State) (n : Reg) : (s.spoil n).fcr0 = s.fcr0 := State.scramble_fcr0 ..
@[simp] theorem State.spoil_fcsr (s : State) (n : Reg) : (s.spoil n).fcsr = s.fcsr := State.scramble_fcsr ..
@[simp] theorem State.spoil_recentMF (s : State) (n : Reg) : (s.spoil n).recentMF = s.recentMF := State.scramble_recentMF ..
@[simp] theorem State.spoil_hiLoPending (s : State) (n : Reg) : (s.spoil n).hiLoPending = s.hiLoPending := State.scramble_hiLoPending ..
@[simp] theorem State.spoil_hazards (s : State) (n : Reg) : (s.spoil n).hazards = s.hazards := State.scramble_hazards ..
@[simp] theorem State.spoil_pendingFpTrap (s : State) (n : Reg) : (s.spoil n).pendingFpTrap = s.pendingFpTrap := State.scramble_pendingFpTrap ..
@[simp] theorem State.spoil_exc (s : State) (n : Reg) : (s.spoil n).exc = s.exc := State.scramble_exc ..
@[simp] theorem State.spoil_saved (s : State) (n : Reg) : (s.spoil n).saved = s.saved := State.scramble_saved ..
@[simp] theorem State.spoil_trapped (s : State) (n : Reg) : (s.spoil n).trapped = s.trapped := State.scramble_trapped ..
@[simp] theorem State.spoil_ended (s : State) (n : Reg) : (s.spoil n).ended = s.ended := State.scramble_ended ..
@[simp] theorem State.spoil_mode (s : State) (n : Reg) : (s.spoil n).mode = s.mode := State.scramble_mode ..
@[simp] theorem State.spoil_cu (s : State) (n : Reg) : (s.spoil n).cu = s.cu := State.scramble_cu ..
@[simp] theorem State.spoil_statusFR (s : State) (n : Reg) : (s.spoil n).statusFR = s.statusFR := State.scramble_statusFR ..
@[simp] theorem State.spoil_cop2Gen (s : State) (n : Reg) : (s.spoil n).cop2Gen = s.cop2Gen := State.scramble_cop2Gen ..
@[simp] theorem State.spoil_cop2Ctl (s : State) (n : Reg) : (s.spoil n).cop2Ctl = s.cop2Ctl := State.scramble_cop2Ctl ..
@[simp] theorem State.spoil_coc0 (s : State) (n : Reg) : (s.spoil n).coc0 = s.coc0 := State.scramble_coc0 ..
@[simp] theorem State.spoil_coc2 (s : State) (n : Reg) : (s.spoil n).coc2 = s.coc2 := State.scramble_coc2 ..
@[simp] theorem State.spoil_coc3 (s : State) (n : Reg) : (s.spoil n).coc3 = s.coc3 := State.scramble_coc3 ..
@[simp] theorem State.spoil_mem (s : State) (n : Reg) : (s.spoil n).mem = s.mem := State.scramble_mem ..
@[simp] theorem State.spoil_typed (s : State) (n : Reg) : (s.spoil n).typed = s.typed := State.scramble_typed ..
@[simp] theorem State.spoil_env (s : State) (n : Reg) : (s.spoil n).env = s.env := State.scramble_env ..
@[simp] theorem State.spoil_agenda (s : State) (n : Reg) : (s.spoil n).agenda = s.agenda := State.scramble_agenda ..
@[simp] theorem State.spoil_free (s : State) (n : Reg) : (s.spoil n).free = s.free := State.scramble_free ..

/-! ### loadWordFgr -/

@[simp] theorem State.loadWordFgr_gpr (s : State) (n : Reg) (w : Word) : (s.loadWordFgr n w).gpr = s.gpr := by
  unfold State.loadWordFgr; split <;> rfl
@[simp] theorem State.loadWordFgr_hi (s : State) (n : Reg) (w : Word) : (s.loadWordFgr n w).hi = s.hi := by
  unfold State.loadWordFgr; split <;> rfl
@[simp] theorem State.loadWordFgr_lo (s : State) (n : Reg) (w : Word) : (s.loadWordFgr n w).lo = s.lo := by
  unfold State.loadWordFgr; split <;> rfl
@[simp] theorem State.loadWordFgr_pc (s : State) (n : Reg) (w : Word) : (s.loadWordFgr n w).pc = s.pc := by
  unfold State.loadWordFgr; split <;> rfl
@[simp] theorem State.loadWordFgr_delay (s : State) (n : Reg) (w : Word) : (s.loadWordFgr n w).delay = s.delay := by
  unfold State.loadWordFgr; split <;> rfl
@[simp] theorem State.loadWordFgr_afterBranch (s : State) (n : Reg) (w : Word) : (s.loadWordFgr n w).afterBranch = s.afterBranch := by
  unfold State.loadWordFgr; split <;> rfl
@[simp] theorem State.loadWordFgr_llbit (s : State) (n : Reg) (w : Word) : (s.loadWordFgr n w).llbit = s.llbit := by
  unfold State.loadWordFgr; split <;> rfl
@[simp] theorem State.loadWordFgr_llRecord (s : State) (n : Reg) (w : Word) : (s.loadWordFgr n w).llRecord = s.llRecord := by
  unfold State.loadWordFgr; split <;> rfl
@[simp] theorem State.loadWordFgr_fcr0 (s : State) (n : Reg) (w : Word) : (s.loadWordFgr n w).fcr0 = s.fcr0 := by
  unfold State.loadWordFgr; split <;> rfl
@[simp] theorem State.loadWordFgr_fcsr (s : State) (n : Reg) (w : Word) : (s.loadWordFgr n w).fcsr = s.fcsr := by
  unfold State.loadWordFgr; split <;> rfl
@[simp] theorem State.loadWordFgr_recentMF (s : State) (n : Reg) (w : Word) : (s.loadWordFgr n w).recentMF = s.recentMF := by
  unfold State.loadWordFgr; split <;> rfl
@[simp] theorem State.loadWordFgr_hiLoPending (s : State) (n : Reg) (w : Word) : (s.loadWordFgr n w).hiLoPending = s.hiLoPending := by
  unfold State.loadWordFgr; split <;> rfl
@[simp] theorem State.loadWordFgr_hazards (s : State) (n : Reg) (w : Word) : (s.loadWordFgr n w).hazards = s.hazards := by
  unfold State.loadWordFgr; split <;> rfl
@[simp] theorem State.loadWordFgr_pendingFpTrap (s : State) (n : Reg) (w : Word) : (s.loadWordFgr n w).pendingFpTrap = s.pendingFpTrap := by
  unfold State.loadWordFgr; split <;> rfl
@[simp] theorem State.loadWordFgr_exc (s : State) (n : Reg) (w : Word) : (s.loadWordFgr n w).exc = s.exc := by
  unfold State.loadWordFgr; split <;> rfl
@[simp] theorem State.loadWordFgr_saved (s : State) (n : Reg) (w : Word) : (s.loadWordFgr n w).saved = s.saved := by
  unfold State.loadWordFgr; split <;> rfl
@[simp] theorem State.loadWordFgr_trapped (s : State) (n : Reg) (w : Word) : (s.loadWordFgr n w).trapped = s.trapped := by
  unfold State.loadWordFgr; split <;> rfl
@[simp] theorem State.loadWordFgr_ended (s : State) (n : Reg) (w : Word) : (s.loadWordFgr n w).ended = s.ended := by
  unfold State.loadWordFgr; split <;> rfl
@[simp] theorem State.loadWordFgr_mode (s : State) (n : Reg) (w : Word) : (s.loadWordFgr n w).mode = s.mode := by
  unfold State.loadWordFgr; split <;> rfl
@[simp] theorem State.loadWordFgr_cu (s : State) (n : Reg) (w : Word) : (s.loadWordFgr n w).cu = s.cu := by
  unfold State.loadWordFgr; split <;> rfl
@[simp] theorem State.loadWordFgr_statusFR (s : State) (n : Reg) (w : Word) : (s.loadWordFgr n w).statusFR = s.statusFR := by
  unfold State.loadWordFgr; split <;> rfl
@[simp] theorem State.loadWordFgr_cop2Gen (s : State) (n : Reg) (w : Word) : (s.loadWordFgr n w).cop2Gen = s.cop2Gen := by
  unfold State.loadWordFgr; split <;> rfl
@[simp] theorem State.loadWordFgr_cop2Ctl (s : State) (n : Reg) (w : Word) : (s.loadWordFgr n w).cop2Ctl = s.cop2Ctl := by
  unfold State.loadWordFgr; split <;> rfl
@[simp] theorem State.loadWordFgr_coc0 (s : State) (n : Reg) (w : Word) : (s.loadWordFgr n w).coc0 = s.coc0 := by
  unfold State.loadWordFgr; split <;> rfl
@[simp] theorem State.loadWordFgr_coc2 (s : State) (n : Reg) (w : Word) : (s.loadWordFgr n w).coc2 = s.coc2 := by
  unfold State.loadWordFgr; split <;> rfl
@[simp] theorem State.loadWordFgr_coc3 (s : State) (n : Reg) (w : Word) : (s.loadWordFgr n w).coc3 = s.coc3 := by
  unfold State.loadWordFgr; split <;> rfl
@[simp] theorem State.loadWordFgr_mem (s : State) (n : Reg) (w : Word) : (s.loadWordFgr n w).mem = s.mem := by
  unfold State.loadWordFgr; split <;> rfl
@[simp] theorem State.loadWordFgr_typed (s : State) (n : Reg) (w : Word) : (s.loadWordFgr n w).typed = s.typed := by
  unfold State.loadWordFgr; split <;> rfl
@[simp] theorem State.loadWordFgr_env (s : State) (n : Reg) (w : Word) : (s.loadWordFgr n w).env = s.env := by
  unfold State.loadWordFgr; split <;> rfl
@[simp] theorem State.loadWordFgr_agenda (s : State) (n : Reg) (w : Word) : (s.loadWordFgr n w).agenda = s.agenda := by
  unfold State.loadWordFgr; split <;> rfl
@[simp] theorem State.loadWordFgr_free (s : State) (n : Reg) (w : Word) : (s.loadWordFgr n w).free = s.free := by
  unfold State.loadWordFgr; split <;> rfl

/-! ### loadDwordFgr -/

@[simp] theorem State.loadDwordFgr_gpr (s : State) (n : Reg) (v : Dword) : (s.loadDwordFgr n v).gpr = s.gpr := by
  unfold State.loadDwordFgr; split <;> simp
@[simp] theorem State.loadDwordFgr_hi (s : State) (n : Reg) (v : Dword) : (s.loadDwordFgr n v).hi = s.hi := by
  unfold State.loadDwordFgr; split <;> simp
@[simp] theorem State.loadDwordFgr_lo (s : State) (n : Reg) (v : Dword) : (s.loadDwordFgr n v).lo = s.lo := by
  unfold State.loadDwordFgr; split <;> simp
@[simp] theorem State.loadDwordFgr_pc (s : State) (n : Reg) (v : Dword) : (s.loadDwordFgr n v).pc = s.pc := by
  unfold State.loadDwordFgr; split <;> simp
@[simp] theorem State.loadDwordFgr_delay (s : State) (n : Reg) (v : Dword) : (s.loadDwordFgr n v).delay = s.delay := by
  unfold State.loadDwordFgr; split <;> simp
@[simp] theorem State.loadDwordFgr_afterBranch (s : State) (n : Reg) (v : Dword) : (s.loadDwordFgr n v).afterBranch = s.afterBranch := by
  unfold State.loadDwordFgr; split <;> simp
@[simp] theorem State.loadDwordFgr_llbit (s : State) (n : Reg) (v : Dword) : (s.loadDwordFgr n v).llbit = s.llbit := by
  unfold State.loadDwordFgr; split <;> simp
@[simp] theorem State.loadDwordFgr_llRecord (s : State) (n : Reg) (v : Dword) : (s.loadDwordFgr n v).llRecord = s.llRecord := by
  unfold State.loadDwordFgr; split <;> simp
@[simp] theorem State.loadDwordFgr_fcr0 (s : State) (n : Reg) (v : Dword) : (s.loadDwordFgr n v).fcr0 = s.fcr0 := by
  unfold State.loadDwordFgr; split <;> simp
@[simp] theorem State.loadDwordFgr_fcsr (s : State) (n : Reg) (v : Dword) : (s.loadDwordFgr n v).fcsr = s.fcsr := by
  unfold State.loadDwordFgr; split <;> simp
@[simp] theorem State.loadDwordFgr_recentMF (s : State) (n : Reg) (v : Dword) : (s.loadDwordFgr n v).recentMF = s.recentMF := by
  unfold State.loadDwordFgr; split <;> simp
@[simp] theorem State.loadDwordFgr_hiLoPending (s : State) (n : Reg) (v : Dword) : (s.loadDwordFgr n v).hiLoPending = s.hiLoPending := by
  unfold State.loadDwordFgr; split <;> simp
@[simp] theorem State.loadDwordFgr_hazards (s : State) (n : Reg) (v : Dword) : (s.loadDwordFgr n v).hazards = s.hazards := by
  unfold State.loadDwordFgr; split <;> simp
@[simp] theorem State.loadDwordFgr_pendingFpTrap (s : State) (n : Reg) (v : Dword) : (s.loadDwordFgr n v).pendingFpTrap = s.pendingFpTrap := by
  unfold State.loadDwordFgr; split <;> simp
@[simp] theorem State.loadDwordFgr_exc (s : State) (n : Reg) (v : Dword) : (s.loadDwordFgr n v).exc = s.exc := by
  unfold State.loadDwordFgr; split <;> simp
@[simp] theorem State.loadDwordFgr_saved (s : State) (n : Reg) (v : Dword) : (s.loadDwordFgr n v).saved = s.saved := by
  unfold State.loadDwordFgr; split <;> simp
@[simp] theorem State.loadDwordFgr_trapped (s : State) (n : Reg) (v : Dword) : (s.loadDwordFgr n v).trapped = s.trapped := by
  unfold State.loadDwordFgr; split <;> simp
@[simp] theorem State.loadDwordFgr_ended (s : State) (n : Reg) (v : Dword) : (s.loadDwordFgr n v).ended = s.ended := by
  unfold State.loadDwordFgr; split <;> simp
@[simp] theorem State.loadDwordFgr_mode (s : State) (n : Reg) (v : Dword) : (s.loadDwordFgr n v).mode = s.mode := by
  unfold State.loadDwordFgr; split <;> simp
@[simp] theorem State.loadDwordFgr_cu (s : State) (n : Reg) (v : Dword) : (s.loadDwordFgr n v).cu = s.cu := by
  unfold State.loadDwordFgr; split <;> simp
@[simp] theorem State.loadDwordFgr_statusFR (s : State) (n : Reg) (v : Dword) : (s.loadDwordFgr n v).statusFR = s.statusFR := by
  unfold State.loadDwordFgr; split <;> simp
@[simp] theorem State.loadDwordFgr_cop2Gen (s : State) (n : Reg) (v : Dword) : (s.loadDwordFgr n v).cop2Gen = s.cop2Gen := by
  unfold State.loadDwordFgr; split <;> simp
@[simp] theorem State.loadDwordFgr_cop2Ctl (s : State) (n : Reg) (v : Dword) : (s.loadDwordFgr n v).cop2Ctl = s.cop2Ctl := by
  unfold State.loadDwordFgr; split <;> simp
@[simp] theorem State.loadDwordFgr_coc0 (s : State) (n : Reg) (v : Dword) : (s.loadDwordFgr n v).coc0 = s.coc0 := by
  unfold State.loadDwordFgr; split <;> simp
@[simp] theorem State.loadDwordFgr_coc2 (s : State) (n : Reg) (v : Dword) : (s.loadDwordFgr n v).coc2 = s.coc2 := by
  unfold State.loadDwordFgr; split <;> simp
@[simp] theorem State.loadDwordFgr_coc3 (s : State) (n : Reg) (v : Dword) : (s.loadDwordFgr n v).coc3 = s.coc3 := by
  unfold State.loadDwordFgr; split <;> simp
@[simp] theorem State.loadDwordFgr_mem (s : State) (n : Reg) (v : Dword) : (s.loadDwordFgr n v).mem = s.mem := by
  unfold State.loadDwordFgr; split <;> simp
@[simp] theorem State.loadDwordFgr_typed (s : State) (n : Reg) (v : Dword) : (s.loadDwordFgr n v).typed = s.typed := by
  unfold State.loadDwordFgr; split <;> simp
@[simp] theorem State.loadDwordFgr_env (s : State) (n : Reg) (v : Dword) : (s.loadDwordFgr n v).env = s.env := by
  unfold State.loadDwordFgr; split <;> simp
@[simp] theorem State.loadDwordFgr_agenda (s : State) (n : Reg) (v : Dword) : (s.loadDwordFgr n v).agenda = s.agenda := by
  unfold State.loadDwordFgr; split <;> simp
@[simp] theorem State.loadDwordFgr_free (s : State) (n : Reg) (v : Dword) : (s.loadDwordFgr n v).free = s.free := by
  unfold State.loadDwordFgr; split <;> simp

/-! ### storeFpr -/

@[simp] theorem State.storeFpr_gpr (s : State) (n : Reg) (fmt : FpFmt) (v : Dword) : (s.storeFpr n fmt v).gpr = s.gpr := by
  unfold State.storeFpr; split <;> [split; skip] <;> simp
@[simp] theorem State.storeFpr_hi (s : State) (n : Reg) (fmt : FpFmt) (v : Dword) : (s.storeFpr n fmt v).hi = s.hi := by
  unfold State.storeFpr; split <;> [split; skip] <;> simp
@[simp] theorem State.storeFpr_lo (s : State) (n : Reg) (fmt : FpFmt) (v : Dword) : (s.storeFpr n fmt v).lo = s.lo := by
  unfold State.storeFpr; split <;> [split; skip] <;> simp
@[simp] theorem State.storeFpr_pc (s : State) (n : Reg) (fmt : FpFmt) (v : Dword) : (s.storeFpr n fmt v).pc = s.pc := by
  unfold State.storeFpr; split <;> [split; skip] <;> simp
@[simp] theorem State.storeFpr_delay (s : State) (n : Reg) (fmt : FpFmt) (v : Dword) : (s.storeFpr n fmt v).delay = s.delay := by
  unfold State.storeFpr; split <;> [split; skip] <;> simp
@[simp] theorem State.storeFpr_afterBranch (s : State) (n : Reg) (fmt : FpFmt) (v : Dword) : (s.storeFpr n fmt v).afterBranch = s.afterBranch := by
  unfold State.storeFpr; split <;> [split; skip] <;> simp
@[simp] theorem State.storeFpr_llbit (s : State) (n : Reg) (fmt : FpFmt) (v : Dword) : (s.storeFpr n fmt v).llbit = s.llbit := by
  unfold State.storeFpr; split <;> [split; skip] <;> simp
@[simp] theorem State.storeFpr_llRecord (s : State) (n : Reg) (fmt : FpFmt) (v : Dword) : (s.storeFpr n fmt v).llRecord = s.llRecord := by
  unfold State.storeFpr; split <;> [split; skip] <;> simp
@[simp] theorem State.storeFpr_fcr0 (s : State) (n : Reg) (fmt : FpFmt) (v : Dword) : (s.storeFpr n fmt v).fcr0 = s.fcr0 := by
  unfold State.storeFpr; split <;> [split; skip] <;> simp
@[simp] theorem State.storeFpr_fcsr (s : State) (n : Reg) (fmt : FpFmt) (v : Dword) : (s.storeFpr n fmt v).fcsr = s.fcsr := by
  unfold State.storeFpr; split <;> [split; skip] <;> simp
@[simp] theorem State.storeFpr_recentMF (s : State) (n : Reg) (fmt : FpFmt) (v : Dword) : (s.storeFpr n fmt v).recentMF = s.recentMF := by
  unfold State.storeFpr; split <;> [split; skip] <;> simp
@[simp] theorem State.storeFpr_hiLoPending (s : State) (n : Reg) (fmt : FpFmt) (v : Dword) : (s.storeFpr n fmt v).hiLoPending = s.hiLoPending := by
  unfold State.storeFpr; split <;> [split; skip] <;> simp
@[simp] theorem State.storeFpr_hazards (s : State) (n : Reg) (fmt : FpFmt) (v : Dword) : (s.storeFpr n fmt v).hazards = s.hazards := by
  unfold State.storeFpr; split <;> [split; skip] <;> simp
@[simp] theorem State.storeFpr_pendingFpTrap (s : State) (n : Reg) (fmt : FpFmt) (v : Dword) : (s.storeFpr n fmt v).pendingFpTrap = s.pendingFpTrap := by
  unfold State.storeFpr; split <;> [split; skip] <;> simp
@[simp] theorem State.storeFpr_exc (s : State) (n : Reg) (fmt : FpFmt) (v : Dword) : (s.storeFpr n fmt v).exc = s.exc := by
  unfold State.storeFpr; split <;> [split; skip] <;> simp
@[simp] theorem State.storeFpr_saved (s : State) (n : Reg) (fmt : FpFmt) (v : Dword) : (s.storeFpr n fmt v).saved = s.saved := by
  unfold State.storeFpr; split <;> [split; skip] <;> simp
@[simp] theorem State.storeFpr_trapped (s : State) (n : Reg) (fmt : FpFmt) (v : Dword) : (s.storeFpr n fmt v).trapped = s.trapped := by
  unfold State.storeFpr; split <;> [split; skip] <;> simp
@[simp] theorem State.storeFpr_ended (s : State) (n : Reg) (fmt : FpFmt) (v : Dword) : (s.storeFpr n fmt v).ended = s.ended := by
  unfold State.storeFpr; split <;> [split; skip] <;> simp
@[simp] theorem State.storeFpr_mode (s : State) (n : Reg) (fmt : FpFmt) (v : Dword) : (s.storeFpr n fmt v).mode = s.mode := by
  unfold State.storeFpr; split <;> [split; skip] <;> simp
@[simp] theorem State.storeFpr_cu (s : State) (n : Reg) (fmt : FpFmt) (v : Dword) : (s.storeFpr n fmt v).cu = s.cu := by
  unfold State.storeFpr; split <;> [split; skip] <;> simp
@[simp] theorem State.storeFpr_statusFR (s : State) (n : Reg) (fmt : FpFmt) (v : Dword) : (s.storeFpr n fmt v).statusFR = s.statusFR := by
  unfold State.storeFpr; split <;> [split; skip] <;> simp
@[simp] theorem State.storeFpr_cop2Gen (s : State) (n : Reg) (fmt : FpFmt) (v : Dword) : (s.storeFpr n fmt v).cop2Gen = s.cop2Gen := by
  unfold State.storeFpr; split <;> [split; skip] <;> simp
@[simp] theorem State.storeFpr_cop2Ctl (s : State) (n : Reg) (fmt : FpFmt) (v : Dword) : (s.storeFpr n fmt v).cop2Ctl = s.cop2Ctl := by
  unfold State.storeFpr; split <;> [split; skip] <;> simp
@[simp] theorem State.storeFpr_coc0 (s : State) (n : Reg) (fmt : FpFmt) (v : Dword) : (s.storeFpr n fmt v).coc0 = s.coc0 := by
  unfold State.storeFpr; split <;> [split; skip] <;> simp
@[simp] theorem State.storeFpr_coc2 (s : State) (n : Reg) (fmt : FpFmt) (v : Dword) : (s.storeFpr n fmt v).coc2 = s.coc2 := by
  unfold State.storeFpr; split <;> [split; skip] <;> simp
@[simp] theorem State.storeFpr_coc3 (s : State) (n : Reg) (fmt : FpFmt) (v : Dword) : (s.storeFpr n fmt v).coc3 = s.coc3 := by
  unfold State.storeFpr; split <;> [split; skip] <;> simp
@[simp] theorem State.storeFpr_mem (s : State) (n : Reg) (fmt : FpFmt) (v : Dword) : (s.storeFpr n fmt v).mem = s.mem := by
  unfold State.storeFpr; split <;> [split; skip] <;> simp
@[simp] theorem State.storeFpr_typed (s : State) (n : Reg) (fmt : FpFmt) (v : Dword) : (s.storeFpr n fmt v).typed = s.typed := by
  unfold State.storeFpr; split <;> [split; skip] <;> simp
@[simp] theorem State.storeFpr_env (s : State) (n : Reg) (fmt : FpFmt) (v : Dword) : (s.storeFpr n fmt v).env = s.env := by
  unfold State.storeFpr; split <;> [split; skip] <;> simp
@[simp] theorem State.storeFpr_agenda (s : State) (n : Reg) (fmt : FpFmt) (v : Dword) : (s.storeFpr n fmt v).agenda = s.agenda := by
  unfold State.storeFpr; split <;> [split; skip] <;> simp
@[simp] theorem State.storeFpr_free (s : State) (n : Reg) (fmt : FpFmt) (v : Dword) : (s.storeFpr n fmt v).free = s.free := by
  unfold State.storeFpr; split <;> [split; skip] <;> simp

/-! ### raise -/

@[simp] theorem State.raise_gpr (s : State) (c : Cause) : (s.raise c).gpr = s.gpr := by
  unfold State.raise State.enterTrap; split <;> rfl
@[simp] theorem State.raise_hi (s : State) (c : Cause) : (s.raise c).hi = s.hi := by
  unfold State.raise State.enterTrap; split <;> rfl
@[simp] theorem State.raise_lo (s : State) (c : Cause) : (s.raise c).lo = s.lo := by
  unfold State.raise State.enterTrap; split <;> rfl
@[simp] theorem State.raise_delay (s : State) (c : Cause) : (s.raise c).delay = .none := by
  unfold State.raise State.enterTrap; split <;> rfl
@[simp] theorem State.raise_afterBranch (s : State) (c : Cause) : (s.raise c).afterBranch = false := by
  unfold State.raise State.enterTrap; split <;> rfl
@[simp] theorem State.raise_llbit (s : State) (c : Cause) : (s.raise c).llbit = false := by
  unfold State.raise State.enterTrap; split <;> rfl
@[simp] theorem State.raise_llRecord (s : State) (c : Cause) : (s.raise c).llRecord = s.llRecord := by
  unfold State.raise State.enterTrap; split <;> rfl
@[simp] theorem State.raise_fgrLo (s : State) (c : Cause) : (s.raise c).fgrLo = s.fgrLo := by
  unfold State.raise State.enterTrap; split <;> rfl
@[simp] theorem State.raise_fgrHi (s : State) (c : Cause) : (s.raise c).fgrHi = s.fgrHi := by
  unfold State.raise State.enterTrap; split <;> rfl
@[simp] theorem State.raise_fprTag (s : State) (c : Cause) : (s.raise c).fprTag = s.fprTag := by
  unfold State.raise State.enterTrap; split <;> rfl
@[simp] theorem State.raise_fcr0 (s : State) (c : Cause) : (s.raise c).fcr0 = s.fcr0 := by
  unfold State.raise State.enterTrap; split <;> rfl
@[simp] theorem State.raise_fcsr (s : State) (c : Cause) : (s.raise c).fcsr = s.fcsr := by
  unfold State.raise State.enterTrap; split <;> rfl
@[simp] theorem State.raise_recentMF (s : State) (c : Cause) : (s.raise c).recentMF = s.recentMF := by
  unfold State.raise State.enterTrap; split <;> rfl
@[simp] theorem State.raise_hiLoPending (s : State) (c : Cause) : (s.raise c).hiLoPending = s.hiLoPending := by
  unfold State.raise State.enterTrap; split <;> rfl
@[simp] theorem State.raise_hazards (s : State) (c : Cause) : (s.raise c).hazards = Hazards.empty := by
  unfold State.raise State.enterTrap; split <;> rfl
@[simp] theorem State.raise_pendingFpTrap (s : State) (c : Cause) : (s.raise c).pendingFpTrap = s.pendingFpTrap := by
  unfold State.raise State.enterTrap; split <;> rfl
@[simp] theorem State.raise_exc (s : State) (c : Cause) : (s.raise c).exc = some (s.record c) := by
  unfold State.raise State.enterTrap; split <;> rfl
@[simp] theorem State.raise_saved (s : State) (c : Cause) : (s.raise c).saved = ⟨s.mode, s.cu⟩ :: s.saved := by
  unfold State.raise State.enterTrap; split <;> rfl
@[simp] theorem State.raise_statusFR (s : State) (c : Cause) : (s.raise c).statusFR = s.statusFR := by
  unfold State.raise State.enterTrap; split <;> rfl
@[simp] theorem State.raise_cop2Gen (s : State) (c : Cause) : (s.raise c).cop2Gen = s.cop2Gen := by
  unfold State.raise State.enterTrap; split <;> rfl
@[simp] theorem State.raise_cop2Ctl (s : State) (c : Cause) : (s.raise c).cop2Ctl = s.cop2Ctl := by
  unfold State.raise State.enterTrap; split <;> rfl
@[simp] theorem State.raise_coc0 (s : State) (c : Cause) : (s.raise c).coc0 = s.coc0 := by
  unfold State.raise State.enterTrap; split <;> rfl
@[simp] theorem State.raise_coc2 (s : State) (c : Cause) : (s.raise c).coc2 = s.coc2 := by
  unfold State.raise State.enterTrap; split <;> rfl
@[simp] theorem State.raise_coc3 (s : State) (c : Cause) : (s.raise c).coc3 = s.coc3 := by
  unfold State.raise State.enterTrap; split <;> rfl
@[simp] theorem State.raise_mem (s : State) (c : Cause) : (s.raise c).mem = s.mem := by
  unfold State.raise State.enterTrap; split <;> rfl
@[simp] theorem State.raise_typed (s : State) (c : Cause) : (s.raise c).typed = s.typed := by
  unfold State.raise State.enterTrap; split <;> rfl
@[simp] theorem State.raise_env (s : State) (c : Cause) : (s.raise c).env = s.env := by
  unfold State.raise State.enterTrap; split <;> rfl
@[simp] theorem State.raise_agenda (s : State) (c : Cause) : (s.raise c).agenda = s.agenda := by
  unfold State.raise State.enterTrap; split <;> rfl
@[simp] theorem State.raise_free (s : State) (c : Cause) : (s.raise c).free = s.free + 1 := by
  unfold State.raise State.enterTrap; split <;> rfl

/-! ### returnTo -/

@[simp] theorem State.returnTo_gpr (s : State) (p : Dword) : (s.returnTo p).gpr = s.gpr := by
  unfold State.returnTo; split <;> rfl
@[simp] theorem State.returnTo_hi (s : State) (p : Dword) : (s.returnTo p).hi = s.hi := by
  unfold State.returnTo; split <;> rfl
@[simp] theorem State.returnTo_lo (s : State) (p : Dword) : (s.returnTo p).lo = s.lo := by
  unfold State.returnTo; split <;> rfl
@[simp] theorem State.returnTo_llRecord (s : State) (p : Dword) : (s.returnTo p).llRecord = s.llRecord := by
  unfold State.returnTo; split <;> rfl
@[simp] theorem State.returnTo_fgrLo (s : State) (p : Dword) : (s.returnTo p).fgrLo = s.fgrLo := by
  unfold State.returnTo; split <;> rfl
@[simp] theorem State.returnTo_fgrHi (s : State) (p : Dword) : (s.returnTo p).fgrHi = s.fgrHi := by
  unfold State.returnTo; split <;> rfl
@[simp] theorem State.returnTo_fprTag (s : State) (p : Dword) : (s.returnTo p).fprTag = s.fprTag := by
  unfold State.returnTo; split <;> rfl
@[simp] theorem State.returnTo_fcr0 (s : State) (p : Dword) : (s.returnTo p).fcr0 = s.fcr0 := by
  unfold State.returnTo; split <;> rfl
@[simp] theorem State.returnTo_fcsr (s : State) (p : Dword) : (s.returnTo p).fcsr = s.fcsr := by
  unfold State.returnTo; split <;> rfl
@[simp] theorem State.returnTo_recentMF (s : State) (p : Dword) : (s.returnTo p).recentMF = s.recentMF := by
  unfold State.returnTo; split <;> rfl
@[simp] theorem State.returnTo_hiLoPending (s : State) (p : Dword) : (s.returnTo p).hiLoPending = s.hiLoPending := by
  unfold State.returnTo; split <;> rfl
@[simp] theorem State.returnTo_pendingFpTrap (s : State) (p : Dword) : (s.returnTo p).pendingFpTrap = s.pendingFpTrap := by
  unfold State.returnTo; split <;> rfl
@[simp] theorem State.returnTo_exc (s : State) (p : Dword) : (s.returnTo p).exc = s.exc := by
  unfold State.returnTo; split <;> rfl
@[simp] theorem State.returnTo_trapped (s : State) (p : Dword) : (s.returnTo p).trapped = s.trapped := by
  unfold State.returnTo; split <;> rfl
@[simp] theorem State.returnTo_ended (s : State) (p : Dword) : (s.returnTo p).ended = s.ended := by
  unfold State.returnTo; split <;> rfl
@[simp] theorem State.returnTo_statusFR (s : State) (p : Dword) : (s.returnTo p).statusFR = s.statusFR := by
  unfold State.returnTo; split <;> rfl
@[simp] theorem State.returnTo_cop2Gen (s : State) (p : Dword) : (s.returnTo p).cop2Gen = s.cop2Gen := by
  unfold State.returnTo; split <;> rfl
@[simp] theorem State.returnTo_cop2Ctl (s : State) (p : Dword) : (s.returnTo p).cop2Ctl = s.cop2Ctl := by
  unfold State.returnTo; split <;> rfl
@[simp] theorem State.returnTo_coc0 (s : State) (p : Dword) : (s.returnTo p).coc0 = s.coc0 := by
  unfold State.returnTo; split <;> rfl
@[simp] theorem State.returnTo_coc2 (s : State) (p : Dword) : (s.returnTo p).coc2 = s.coc2 := by
  unfold State.returnTo; split <;> rfl
@[simp] theorem State.returnTo_coc3 (s : State) (p : Dword) : (s.returnTo p).coc3 = s.coc3 := by
  unfold State.returnTo; split <;> rfl
@[simp] theorem State.returnTo_mem (s : State) (p : Dword) : (s.returnTo p).mem = s.mem := by
  unfold State.returnTo; split <;> rfl
@[simp] theorem State.returnTo_typed (s : State) (p : Dword) : (s.returnTo p).typed = s.typed := by
  unfold State.returnTo; split <;> rfl
@[simp] theorem State.returnTo_env (s : State) (p : Dword) : (s.returnTo p).env = s.env := by
  unfold State.returnTo; split <;> rfl
@[simp] theorem State.returnTo_agenda (s : State) (p : Dword) : (s.returnTo p).agenda = s.agenda := by
  unfold State.returnTo; split <;> rfl
@[simp] theorem State.returnTo_free (s : State) (p : Dword) : (s.returnTo p).free = s.free := by
  unfold State.returnTo; split <;> rfl

/-! ### noteTypes -/

@[simp] theorem State.noteTypes_gpr (s : State) (l : List (Nat × AccessType)) : (s.noteTypes l).gpr = s.gpr := rfl
@[simp] theorem State.noteTypes_hi (s : State) (l : List (Nat × AccessType)) : (s.noteTypes l).hi = s.hi := rfl
@[simp] theorem State.noteTypes_lo (s : State) (l : List (Nat × AccessType)) : (s.noteTypes l).lo = s.lo := rfl
@[simp] theorem State.noteTypes_pc (s : State) (l : List (Nat × AccessType)) : (s.noteTypes l).pc = s.pc := rfl
@[simp] theorem State.noteTypes_delay (s : State) (l : List (Nat × AccessType)) : (s.noteTypes l).delay = s.delay := rfl
@[simp] theorem State.noteTypes_afterBranch (s : State) (l : List (Nat × AccessType)) : (s.noteTypes l).afterBranch = s.afterBranch := rfl
@[simp] theorem State.noteTypes_llbit (s : State) (l : List (Nat × AccessType)) : (s.noteTypes l).llbit = s.llbit := rfl
@[simp] theorem State.noteTypes_llRecord (s : State) (l : List (Nat × AccessType)) : (s.noteTypes l).llRecord = s.llRecord := rfl
@[simp] theorem State.noteTypes_fgrLo (s : State) (l : List (Nat × AccessType)) : (s.noteTypes l).fgrLo = s.fgrLo := rfl
@[simp] theorem State.noteTypes_fgrHi (s : State) (l : List (Nat × AccessType)) : (s.noteTypes l).fgrHi = s.fgrHi := rfl
@[simp] theorem State.noteTypes_fprTag (s : State) (l : List (Nat × AccessType)) : (s.noteTypes l).fprTag = s.fprTag := rfl
@[simp] theorem State.noteTypes_fcr0 (s : State) (l : List (Nat × AccessType)) : (s.noteTypes l).fcr0 = s.fcr0 := rfl
@[simp] theorem State.noteTypes_fcsr (s : State) (l : List (Nat × AccessType)) : (s.noteTypes l).fcsr = s.fcsr := rfl
@[simp] theorem State.noteTypes_recentMF (s : State) (l : List (Nat × AccessType)) : (s.noteTypes l).recentMF = s.recentMF := rfl
@[simp] theorem State.noteTypes_hiLoPending (s : State) (l : List (Nat × AccessType)) : (s.noteTypes l).hiLoPending = s.hiLoPending := rfl
@[simp] theorem State.noteTypes_hazards (s : State) (l : List (Nat × AccessType)) : (s.noteTypes l).hazards = s.hazards := rfl
@[simp] theorem State.noteTypes_pendingFpTrap (s : State) (l : List (Nat × AccessType)) : (s.noteTypes l).pendingFpTrap = s.pendingFpTrap := rfl
@[simp] theorem State.noteTypes_exc (s : State) (l : List (Nat × AccessType)) : (s.noteTypes l).exc = s.exc := rfl
@[simp] theorem State.noteTypes_saved (s : State) (l : List (Nat × AccessType)) : (s.noteTypes l).saved = s.saved := rfl
@[simp] theorem State.noteTypes_trapped (s : State) (l : List (Nat × AccessType)) : (s.noteTypes l).trapped = s.trapped := rfl
@[simp] theorem State.noteTypes_ended (s : State) (l : List (Nat × AccessType)) : (s.noteTypes l).ended = s.ended := rfl
@[simp] theorem State.noteTypes_mode (s : State) (l : List (Nat × AccessType)) : (s.noteTypes l).mode = s.mode := rfl
@[simp] theorem State.noteTypes_cu (s : State) (l : List (Nat × AccessType)) : (s.noteTypes l).cu = s.cu := rfl
@[simp] theorem State.noteTypes_statusFR (s : State) (l : List (Nat × AccessType)) : (s.noteTypes l).statusFR = s.statusFR := rfl
@[simp] theorem State.noteTypes_cop2Gen (s : State) (l : List (Nat × AccessType)) : (s.noteTypes l).cop2Gen = s.cop2Gen := rfl
@[simp] theorem State.noteTypes_cop2Ctl (s : State) (l : List (Nat × AccessType)) : (s.noteTypes l).cop2Ctl = s.cop2Ctl := rfl
@[simp] theorem State.noteTypes_coc0 (s : State) (l : List (Nat × AccessType)) : (s.noteTypes l).coc0 = s.coc0 := rfl
@[simp] theorem State.noteTypes_coc2 (s : State) (l : List (Nat × AccessType)) : (s.noteTypes l).coc2 = s.coc2 := rfl
@[simp] theorem State.noteTypes_coc3 (s : State) (l : List (Nat × AccessType)) : (s.noteTypes l).coc3 = s.coc3 := rfl
@[simp] theorem State.noteTypes_mem (s : State) (l : List (Nat × AccessType)) : (s.noteTypes l).mem = s.mem := rfl
@[simp] theorem State.noteTypes_typed (s : State) (l : List (Nat × AccessType)) : (s.noteTypes l).typed = noteBytes s.env s.typed l := rfl
@[simp] theorem State.noteTypes_env (s : State) (l : List (Nat × AccessType)) : (s.noteTypes l).env = s.env := rfl
@[simp] theorem State.noteTypes_agenda (s : State) (l : List (Nat × AccessType)) : (s.noteTypes l).agenda = s.agenda := rfl
@[simp] theorem State.noteTypes_free (s : State) (l : List (Nat × AccessType)) : (s.noteTypes l).free = s.free := rfl

/-! ### setCop2 -/

@[simp] theorem State.setCop2_gpr (s : State) (c : Cop2State) : (s.setCop2 c).gpr = s.gpr := rfl
@[simp] theorem State.setCop2_hi (s : State) (c : Cop2State) : (s.setCop2 c).hi = s.hi := rfl
@[simp] theorem State.setCop2_lo (s : State) (c : Cop2State) : (s.setCop2 c).lo = s.lo := rfl
@[simp] theorem State.setCop2_pc (s : State) (c : Cop2State) : (s.setCop2 c).pc = s.pc := rfl
@[simp] theorem State.setCop2_delay (s : State) (c : Cop2State) : (s.setCop2 c).delay = s.delay := rfl
@[simp] theorem State.setCop2_afterBranch (s : State) (c : Cop2State) : (s.setCop2 c).afterBranch = s.afterBranch := rfl
@[simp] theorem State.setCop2_llbit (s : State) (c : Cop2State) : (s.setCop2 c).llbit = s.llbit := rfl
@[simp] theorem State.setCop2_llRecord (s : State) (c : Cop2State) : (s.setCop2 c).llRecord = s.llRecord := rfl
@[simp] theorem State.setCop2_fgrLo (s : State) (c : Cop2State) : (s.setCop2 c).fgrLo = s.fgrLo := rfl
@[simp] theorem State.setCop2_fgrHi (s : State) (c : Cop2State) : (s.setCop2 c).fgrHi = s.fgrHi := rfl
@[simp] theorem State.setCop2_fprTag (s : State) (c : Cop2State) : (s.setCop2 c).fprTag = s.fprTag := rfl
@[simp] theorem State.setCop2_fcr0 (s : State) (c : Cop2State) : (s.setCop2 c).fcr0 = s.fcr0 := rfl
@[simp] theorem State.setCop2_fcsr (s : State) (c : Cop2State) : (s.setCop2 c).fcsr = s.fcsr := rfl
@[simp] theorem State.setCop2_recentMF (s : State) (c : Cop2State) : (s.setCop2 c).recentMF = s.recentMF := rfl
@[simp] theorem State.setCop2_hiLoPending (s : State) (c : Cop2State) : (s.setCop2 c).hiLoPending = s.hiLoPending := rfl
@[simp] theorem State.setCop2_hazards (s : State) (c : Cop2State) : (s.setCop2 c).hazards = s.hazards := rfl
@[simp] theorem State.setCop2_pendingFpTrap (s : State) (c : Cop2State) : (s.setCop2 c).pendingFpTrap = s.pendingFpTrap := rfl
@[simp] theorem State.setCop2_exc (s : State) (c : Cop2State) : (s.setCop2 c).exc = s.exc := rfl
@[simp] theorem State.setCop2_saved (s : State) (c : Cop2State) : (s.setCop2 c).saved = s.saved := rfl
@[simp] theorem State.setCop2_trapped (s : State) (c : Cop2State) : (s.setCop2 c).trapped = s.trapped := rfl
@[simp] theorem State.setCop2_ended (s : State) (c : Cop2State) : (s.setCop2 c).ended = s.ended := rfl
@[simp] theorem State.setCop2_mode (s : State) (c : Cop2State) : (s.setCop2 c).mode = s.mode := rfl
@[simp] theorem State.setCop2_cu (s : State) (c : Cop2State) : (s.setCop2 c).cu = s.cu := rfl
@[simp] theorem State.setCop2_statusFR (s : State) (c : Cop2State) : (s.setCop2 c).statusFR = s.statusFR := rfl
@[simp] theorem State.setCop2_cop2Gen (s : State) (c : Cop2State) : (s.setCop2 c).cop2Gen = c.gen := rfl
@[simp] theorem State.setCop2_cop2Ctl (s : State) (c : Cop2State) : (s.setCop2 c).cop2Ctl = c.ctl := rfl
@[simp] theorem State.setCop2_coc0 (s : State) (c : Cop2State) : (s.setCop2 c).coc0 = s.coc0 := rfl
@[simp] theorem State.setCop2_coc2 (s : State) (c : Cop2State) : (s.setCop2 c).coc2 = c.coc := rfl
@[simp] theorem State.setCop2_coc3 (s : State) (c : Cop2State) : (s.setCop2 c).coc3 = s.coc3 := rfl
@[simp] theorem State.setCop2_mem (s : State) (c : Cop2State) : (s.setCop2 c).mem = s.mem := rfl
@[simp] theorem State.setCop2_typed (s : State) (c : Cop2State) : (s.setCop2 c).typed = s.typed := rfl
@[simp] theorem State.setCop2_env (s : State) (c : Cop2State) : (s.setCop2 c).env = s.env := rfl
@[simp] theorem State.setCop2_agenda (s : State) (c : Cop2State) : (s.setCop2 c).agenda = s.agenda := rfl
@[simp] theorem State.setCop2_free (s : State) (c : Cop2State) : (s.setCop2 c).free = s.free := rfl

/-! ### follow -/

@[simp] theorem State.follow_gpr (s : State) (f : CopFlow) : (s.follow f).gpr = s.gpr := by
  cases f <;> rfl
@[simp] theorem State.follow_hi (s : State) (f : CopFlow) : (s.follow f).hi = s.hi := by
  cases f <;> rfl
@[simp] theorem State.follow_lo (s : State) (f : CopFlow) : (s.follow f).lo = s.lo := by
  cases f <;> rfl
@[simp] theorem State.follow_llbit (s : State) (f : CopFlow) : (s.follow f).llbit = s.llbit := by
  cases f <;> rfl
@[simp] theorem State.follow_llRecord (s : State) (f : CopFlow) : (s.follow f).llRecord = s.llRecord := by
  cases f <;> rfl
@[simp] theorem State.follow_fgrLo (s : State) (f : CopFlow) : (s.follow f).fgrLo = s.fgrLo := by
  cases f <;> rfl
@[simp] theorem State.follow_fgrHi (s : State) (f : CopFlow) : (s.follow f).fgrHi = s.fgrHi := by
  cases f <;> rfl
@[simp] theorem State.follow_fprTag (s : State) (f : CopFlow) : (s.follow f).fprTag = s.fprTag := by
  cases f <;> rfl
@[simp] theorem State.follow_fcr0 (s : State) (f : CopFlow) : (s.follow f).fcr0 = s.fcr0 := by
  cases f <;> rfl
@[simp] theorem State.follow_fcsr (s : State) (f : CopFlow) : (s.follow f).fcsr = s.fcsr := by
  cases f <;> rfl
@[simp] theorem State.follow_recentMF (s : State) (f : CopFlow) : (s.follow f).recentMF = ⟨.none, s.recentMF.last⟩ := by
  cases f <;> rfl
@[simp] theorem State.follow_hiLoPending (s : State) (f : CopFlow) : (s.follow f).hiLoPending = s.hiLoPending := by
  cases f <;> rfl
@[simp] theorem State.follow_hazards (s : State) (f : CopFlow) : (s.follow f).hazards = Hazards.empty := by
  cases f <;> rfl
@[simp] theorem State.follow_pendingFpTrap (s : State) (f : CopFlow) : (s.follow f).pendingFpTrap = s.pendingFpTrap := by
  cases f <;> rfl
@[simp] theorem State.follow_exc (s : State) (f : CopFlow) : (s.follow f).exc = s.exc := by
  cases f <;> rfl
@[simp] theorem State.follow_saved (s : State) (f : CopFlow) : (s.follow f).saved = s.saved := by
  cases f <;> rfl
@[simp] theorem State.follow_trapped (s : State) (f : CopFlow) : (s.follow f).trapped = s.trapped := by
  cases f <;> rfl
@[simp] theorem State.follow_ended (s : State) (f : CopFlow) : (s.follow f).ended = s.ended := by
  cases f <;> rfl
@[simp] theorem State.follow_mode (s : State) (f : CopFlow) : (s.follow f).mode = s.mode := by
  cases f <;> rfl
@[simp] theorem State.follow_cu (s : State) (f : CopFlow) : (s.follow f).cu = s.cu := by
  cases f <;> rfl
@[simp] theorem State.follow_statusFR (s : State) (f : CopFlow) : (s.follow f).statusFR = s.statusFR := by
  cases f <;> rfl
@[simp] theorem State.follow_cop2Gen (s : State) (f : CopFlow) : (s.follow f).cop2Gen = s.cop2Gen := by
  cases f <;> rfl
@[simp] theorem State.follow_cop2Ctl (s : State) (f : CopFlow) : (s.follow f).cop2Ctl = s.cop2Ctl := by
  cases f <;> rfl
@[simp] theorem State.follow_coc0 (s : State) (f : CopFlow) : (s.follow f).coc0 = s.coc0 := by
  cases f <;> rfl
@[simp] theorem State.follow_coc2 (s : State) (f : CopFlow) : (s.follow f).coc2 = s.coc2 := by
  cases f <;> rfl
@[simp] theorem State.follow_coc3 (s : State) (f : CopFlow) : (s.follow f).coc3 = s.coc3 := by
  cases f <;> rfl
@[simp] theorem State.follow_mem (s : State) (f : CopFlow) : (s.follow f).mem = s.mem := by
  cases f <;> rfl
@[simp] theorem State.follow_typed (s : State) (f : CopFlow) : (s.follow f).typed = s.typed := by
  cases f <;> rfl
@[simp] theorem State.follow_env (s : State) (f : CopFlow) : (s.follow f).env = s.env := by
  cases f <;> rfl
@[simp] theorem State.follow_agenda (s : State) (f : CopFlow) : (s.follow f).agenda = s.agenda := by
  cases f <;> rfl
@[simp] theorem State.follow_free (s : State) (f : CopFlow) : (s.follow f).free = s.free + 1 := by
  cases f <;> rfl

/-! ### copGpr -/

@[simp] theorem State.copGpr_hi (s : State) (w : Option (Reg × Dword)) : (s.copGpr w).hi = s.hi := by
  unfold State.copGpr; split <;> simp
@[simp] theorem State.copGpr_lo (s : State) (w : Option (Reg × Dword)) : (s.copGpr w).lo = s.lo := by
  unfold State.copGpr; split <;> simp
@[simp] theorem State.copGpr_pc (s : State) (w : Option (Reg × Dword)) : (s.copGpr w).pc = s.pc := by
  unfold State.copGpr; split <;> simp
@[simp] theorem State.copGpr_delay (s : State) (w : Option (Reg × Dword)) : (s.copGpr w).delay = s.delay := by
  unfold State.copGpr; split <;> simp
@[simp] theorem State.copGpr_afterBranch (s : State) (w : Option (Reg × Dword)) : (s.copGpr w).afterBranch = s.afterBranch := by
  unfold State.copGpr; split <;> simp
@[simp] theorem State.copGpr_llbit (s : State) (w : Option (Reg × Dword)) : (s.copGpr w).llbit = s.llbit := by
  unfold State.copGpr; split <;> simp
@[simp] theorem State.copGpr_llRecord (s : State) (w : Option (Reg × Dword)) : (s.copGpr w).llRecord = s.llRecord := by
  unfold State.copGpr; split <;> simp
@[simp] theorem State.copGpr_fgrLo (s : State) (w : Option (Reg × Dword)) : (s.copGpr w).fgrLo = s.fgrLo := by
  unfold State.copGpr; split <;> simp
@[simp] theorem State.copGpr_fgrHi (s : State) (w : Option (Reg × Dword)) : (s.copGpr w).fgrHi = s.fgrHi := by
  unfold State.copGpr; split <;> simp
@[simp] theorem State.copGpr_fprTag (s : State) (w : Option (Reg × Dword)) : (s.copGpr w).fprTag = s.fprTag := by
  unfold State.copGpr; split <;> simp
@[simp] theorem State.copGpr_fcr0 (s : State) (w : Option (Reg × Dword)) : (s.copGpr w).fcr0 = s.fcr0 := by
  unfold State.copGpr; split <;> simp
@[simp] theorem State.copGpr_fcsr (s : State) (w : Option (Reg × Dword)) : (s.copGpr w).fcsr = s.fcsr := by
  unfold State.copGpr; split <;> simp
@[simp] theorem State.copGpr_recentMF (s : State) (w : Option (Reg × Dword)) : (s.copGpr w).recentMF = s.recentMF := by
  unfold State.copGpr; split <;> simp
@[simp] theorem State.copGpr_hiLoPending (s : State) (w : Option (Reg × Dword)) : (s.copGpr w).hiLoPending = s.hiLoPending := by
  unfold State.copGpr; split <;> simp
@[simp] theorem State.copGpr_hazards (s : State) (w : Option (Reg × Dword)) : (s.copGpr w).hazards = s.hazards := by
  unfold State.copGpr; split <;> simp
@[simp] theorem State.copGpr_pendingFpTrap (s : State) (w : Option (Reg × Dword)) : (s.copGpr w).pendingFpTrap = s.pendingFpTrap := by
  unfold State.copGpr; split <;> simp
@[simp] theorem State.copGpr_exc (s : State) (w : Option (Reg × Dword)) : (s.copGpr w).exc = s.exc := by
  unfold State.copGpr; split <;> simp
@[simp] theorem State.copGpr_saved (s : State) (w : Option (Reg × Dword)) : (s.copGpr w).saved = s.saved := by
  unfold State.copGpr; split <;> simp
@[simp] theorem State.copGpr_trapped (s : State) (w : Option (Reg × Dword)) : (s.copGpr w).trapped = s.trapped := by
  unfold State.copGpr; split <;> simp
@[simp] theorem State.copGpr_ended (s : State) (w : Option (Reg × Dword)) : (s.copGpr w).ended = s.ended := by
  unfold State.copGpr; split <;> simp
@[simp] theorem State.copGpr_mode (s : State) (w : Option (Reg × Dword)) : (s.copGpr w).mode = s.mode := by
  unfold State.copGpr; split <;> simp
@[simp] theorem State.copGpr_cu (s : State) (w : Option (Reg × Dword)) : (s.copGpr w).cu = s.cu := by
  unfold State.copGpr; split <;> simp
@[simp] theorem State.copGpr_statusFR (s : State) (w : Option (Reg × Dword)) : (s.copGpr w).statusFR = s.statusFR := by
  unfold State.copGpr; split <;> simp
@[simp] theorem State.copGpr_cop2Gen (s : State) (w : Option (Reg × Dword)) : (s.copGpr w).cop2Gen = s.cop2Gen := by
  unfold State.copGpr; split <;> simp
@[simp] theorem State.copGpr_cop2Ctl (s : State) (w : Option (Reg × Dword)) : (s.copGpr w).cop2Ctl = s.cop2Ctl := by
  unfold State.copGpr; split <;> simp
@[simp] theorem State.copGpr_coc0 (s : State) (w : Option (Reg × Dword)) : (s.copGpr w).coc0 = s.coc0 := by
  unfold State.copGpr; split <;> simp
@[simp] theorem State.copGpr_coc2 (s : State) (w : Option (Reg × Dword)) : (s.copGpr w).coc2 = s.coc2 := by
  unfold State.copGpr; split <;> simp
@[simp] theorem State.copGpr_coc3 (s : State) (w : Option (Reg × Dword)) : (s.copGpr w).coc3 = s.coc3 := by
  unfold State.copGpr; split <;> simp
@[simp] theorem State.copGpr_mem (s : State) (w : Option (Reg × Dword)) : (s.copGpr w).mem = s.mem := by
  unfold State.copGpr; split <;> simp
@[simp] theorem State.copGpr_typed (s : State) (w : Option (Reg × Dword)) : (s.copGpr w).typed = s.typed := by
  unfold State.copGpr; split <;> simp
@[simp] theorem State.copGpr_env (s : State) (w : Option (Reg × Dword)) : (s.copGpr w).env = s.env := by
  unfold State.copGpr; split <;> simp
@[simp] theorem State.copGpr_agenda (s : State) (w : Option (Reg × Dword)) : (s.copGpr w).agenda = s.agenda := by
  unfold State.copGpr; split <;> simp
@[simp] theorem State.copGpr_free (s : State) (w : Option (Reg × Dword)) : (s.copGpr w).free = s.free := by
  unfold State.copGpr; split <;> simp

/-! ### cop0End -/

@[simp] theorem State.cop0End_gpr (s : State) (e : Cop0Effect) : (s.cop0End e).gpr = s.gpr := by
  unfold State.cop0End; simp
@[simp] theorem State.cop0End_hi (s : State) (e : Cop0Effect) : (s.cop0End e).hi = s.hi := by
  unfold State.cop0End; simp
@[simp] theorem State.cop0End_lo (s : State) (e : Cop0Effect) : (s.cop0End e).lo = s.lo := by
  unfold State.cop0End; simp
@[simp] theorem State.cop0End_pc (s : State) (e : Cop0Effect) : (s.cop0End e).pc = (s.follow e.flow).pc := rfl
@[simp] theorem State.cop0End_delay (s : State) (e : Cop0Effect) : (s.cop0End e).delay = (s.follow e.flow).delay := rfl
@[simp] theorem State.cop0End_afterBranch (s : State) (e : Cop0Effect) : (s.cop0End e).afterBranch = (s.follow e.flow).afterBranch := rfl
@[simp] theorem State.cop0End_llbit (s : State) (e : Cop0Effect) : (s.cop0End e).llbit = (s.llbit && !e.unlink && !e.returns) := by
  unfold State.cop0End; simp
@[simp] theorem State.cop0End_llRecord (s : State) (e : Cop0Effect) : (s.cop0End e).llRecord = s.llRecord := by
  unfold State.cop0End; simp
@[simp] theorem State.cop0End_fgrLo (s : State) (e : Cop0Effect) : (s.cop0End e).fgrLo = s.fgrLo := by
  unfold State.cop0End; simp
@[simp] theorem State.cop0End_fgrHi (s : State) (e : Cop0Effect) : (s.cop0End e).fgrHi = s.fgrHi := by
  unfold State.cop0End; simp
@[simp] theorem State.cop0End_fprTag (s : State) (e : Cop0Effect) : (s.cop0End e).fprTag = s.fprTag := by
  unfold State.cop0End; simp
@[simp] theorem State.cop0End_fcr0 (s : State) (e : Cop0Effect) : (s.cop0End e).fcr0 = s.fcr0 := by
  unfold State.cop0End; simp
@[simp] theorem State.cop0End_fcsr (s : State) (e : Cop0Effect) : (s.cop0End e).fcsr = s.fcsr := by
  unfold State.cop0End; simp
@[simp] theorem State.cop0End_recentMF (s : State) (e : Cop0Effect) : (s.cop0End e).recentMF = ⟨.none, s.recentMF.last⟩ := by
  unfold State.cop0End; simp
@[simp] theorem State.cop0End_hiLoPending (s : State) (e : Cop0Effect) : (s.cop0End e).hiLoPending = s.hiLoPending := by
  unfold State.cop0End; simp
@[simp] theorem State.cop0End_hazards (s : State) (e : Cop0Effect) : (s.cop0End e).hazards = Hazards.empty := by
  unfold State.cop0End; simp
@[simp] theorem State.cop0End_pendingFpTrap (s : State) (e : Cop0Effect) : (s.cop0End e).pendingFpTrap = s.pendingFpTrap := by
  unfold State.cop0End; simp
@[simp] theorem State.cop0End_exc (s : State) (e : Cop0Effect) : (s.cop0End e).exc = s.exc := by
  unfold State.cop0End; simp
@[simp] theorem State.cop0End_saved (s : State) (e : Cop0Effect) : (s.cop0End e).saved = if e.returns then s.saved.tail else s.saved := by
  unfold State.cop0End; simp
@[simp] theorem State.cop0End_trapped (s : State) (e : Cop0Effect) : (s.cop0End e).trapped = s.trapped := by
  unfold State.cop0End; simp
@[simp] theorem State.cop0End_ended (s : State) (e : Cop0Effect) : (s.cop0End e).ended = s.ended := by
  unfold State.cop0End; simp
@[simp] theorem State.cop0End_mode (s : State) (e : Cop0Effect) : (s.cop0End e).mode = e.mode := rfl
@[simp] theorem State.cop0End_cu (s : State) (e : Cop0Effect) : (s.cop0End e).cu = e.cu := rfl
@[simp] theorem State.cop0End_statusFR (s : State) (e : Cop0Effect) : (s.cop0End e).statusFR = s.statusFR := by
  unfold State.cop0End; simp
@[simp] theorem State.cop0End_cop2Gen (s : State) (e : Cop0Effect) : (s.cop0End e).cop2Gen = s.cop2Gen := by
  unfold State.cop0End; simp
@[simp] theorem State.cop0End_cop2Ctl (s : State) (e : Cop0Effect) : (s.cop0End e).cop2Ctl = s.cop2Ctl := by
  unfold State.cop0End; simp
@[simp] theorem State.cop0End_coc0 (s : State) (e : Cop0Effect) : (s.cop0End e).coc0 = e.coc0 := rfl
@[simp] theorem State.cop0End_coc2 (s : State) (e : Cop0Effect) : (s.cop0End e).coc2 = s.coc2 := by
  unfold State.cop0End; simp
@[simp] theorem State.cop0End_coc3 (s : State) (e : Cop0Effect) : (s.cop0End e).coc3 = s.coc3 := by
  unfold State.cop0End; simp
@[simp] theorem State.cop0End_mem (s : State) (e : Cop0Effect) : (s.cop0End e).mem = s.mem := by
  unfold State.cop0End; simp
@[simp] theorem State.cop0End_typed (s : State) (e : Cop0Effect) : (s.cop0End e).typed = if e.retype then [] else s.typed := by
  unfold State.cop0End; simp
@[simp] theorem State.cop0End_env (s : State) (e : Cop0Effect) : (s.cop0End e).env = s.env := by
  unfold State.cop0End; simp
@[simp] theorem State.cop0End_agenda (s : State) (e : Cop0Effect) : (s.cop0End e).agenda = s.agenda := by
  unfold State.cop0End; simp
@[simp] theorem State.cop0End_free (s : State) (e : Cop0Effect) : (s.cop0End e).free = s.free + 1 := by
  unfold State.cop0End; simp

/-! ### selectModel -/

@[simp] theorem State.selectModel_gpr (s : State) (b : Bool) : (s.selectModel b).gpr = s.gpr := by
  unfold State.selectModel State.forgetFgrs; split <;> rfl
@[simp] theorem State.selectModel_hi (s : State) (b : Bool) : (s.selectModel b).hi = s.hi := by
  unfold State.selectModel State.forgetFgrs; split <;> rfl
@[simp] theorem State.selectModel_lo (s : State) (b : Bool) : (s.selectModel b).lo = s.lo := by
  unfold State.selectModel State.forgetFgrs; split <;> rfl
@[simp] theorem State.selectModel_pc (s : State) (b : Bool) : (s.selectModel b).pc = s.pc := by
  unfold State.selectModel State.forgetFgrs; split <;> rfl
@[simp] theorem State.selectModel_delay (s : State) (b : Bool) : (s.selectModel b).delay = s.delay := by
  unfold State.selectModel State.forgetFgrs; split <;> rfl
@[simp] theorem State.selectModel_afterBranch (s : State) (b : Bool) : (s.selectModel b).afterBranch = s.afterBranch := by
  unfold State.selectModel State.forgetFgrs; split <;> rfl
@[simp] theorem State.selectModel_llbit (s : State) (b : Bool) : (s.selectModel b).llbit = s.llbit := by
  unfold State.selectModel State.forgetFgrs; split <;> rfl
@[simp] theorem State.selectModel_llRecord (s : State) (b : Bool) : (s.selectModel b).llRecord = s.llRecord := by
  unfold State.selectModel State.forgetFgrs; split <;> rfl
@[simp] theorem State.selectModel_fcr0 (s : State) (b : Bool) : (s.selectModel b).fcr0 = s.fcr0 := by
  unfold State.selectModel State.forgetFgrs; split <;> rfl
@[simp] theorem State.selectModel_fcsr (s : State) (b : Bool) : (s.selectModel b).fcsr = s.fcsr := by
  unfold State.selectModel State.forgetFgrs; split <;> rfl
@[simp] theorem State.selectModel_recentMF (s : State) (b : Bool) : (s.selectModel b).recentMF = s.recentMF := by
  unfold State.selectModel State.forgetFgrs; split <;> rfl
@[simp] theorem State.selectModel_hiLoPending (s : State) (b : Bool) : (s.selectModel b).hiLoPending = s.hiLoPending := by
  unfold State.selectModel State.forgetFgrs; split <;> rfl
@[simp] theorem State.selectModel_hazards (s : State) (b : Bool) : (s.selectModel b).hazards = s.hazards := by
  unfold State.selectModel State.forgetFgrs; split <;> rfl
@[simp] theorem State.selectModel_pendingFpTrap (s : State) (b : Bool) : (s.selectModel b).pendingFpTrap = s.pendingFpTrap := by
  unfold State.selectModel State.forgetFgrs; split <;> rfl
@[simp] theorem State.selectModel_exc (s : State) (b : Bool) : (s.selectModel b).exc = s.exc := by
  unfold State.selectModel State.forgetFgrs; split <;> rfl
@[simp] theorem State.selectModel_saved (s : State) (b : Bool) : (s.selectModel b).saved = s.saved := by
  unfold State.selectModel State.forgetFgrs; split <;> rfl
@[simp] theorem State.selectModel_trapped (s : State) (b : Bool) : (s.selectModel b).trapped = s.trapped := by
  unfold State.selectModel State.forgetFgrs; split <;> rfl
@[simp] theorem State.selectModel_ended (s : State) (b : Bool) : (s.selectModel b).ended = s.ended := by
  unfold State.selectModel State.forgetFgrs; split <;> rfl
@[simp] theorem State.selectModel_mode (s : State) (b : Bool) : (s.selectModel b).mode = s.mode := by
  unfold State.selectModel State.forgetFgrs; split <;> rfl
@[simp] theorem State.selectModel_cu (s : State) (b : Bool) : (s.selectModel b).cu = s.cu := by
  unfold State.selectModel State.forgetFgrs; split <;> rfl
@[simp] theorem State.selectModel_cop2Gen (s : State) (b : Bool) : (s.selectModel b).cop2Gen = s.cop2Gen := by
  unfold State.selectModel State.forgetFgrs; split <;> rfl
@[simp] theorem State.selectModel_cop2Ctl (s : State) (b : Bool) : (s.selectModel b).cop2Ctl = s.cop2Ctl := by
  unfold State.selectModel State.forgetFgrs; split <;> rfl
@[simp] theorem State.selectModel_coc0 (s : State) (b : Bool) : (s.selectModel b).coc0 = s.coc0 := by
  unfold State.selectModel State.forgetFgrs; split <;> rfl
@[simp] theorem State.selectModel_coc2 (s : State) (b : Bool) : (s.selectModel b).coc2 = s.coc2 := by
  unfold State.selectModel State.forgetFgrs; split <;> rfl
@[simp] theorem State.selectModel_coc3 (s : State) (b : Bool) : (s.selectModel b).coc3 = s.coc3 := by
  unfold State.selectModel State.forgetFgrs; split <;> rfl
@[simp] theorem State.selectModel_mem (s : State) (b : Bool) : (s.selectModel b).mem = s.mem := by
  unfold State.selectModel State.forgetFgrs; split <;> rfl
@[simp] theorem State.selectModel_typed (s : State) (b : Bool) : (s.selectModel b).typed = s.typed := by
  unfold State.selectModel State.forgetFgrs; split <;> rfl
@[simp] theorem State.selectModel_env (s : State) (b : Bool) : (s.selectModel b).env = s.env := by
  unfold State.selectModel State.forgetFgrs; split <;> rfl
@[simp] theorem State.selectModel_agenda (s : State) (b : Bool) : (s.selectModel b).agenda = s.agenda := by
  unfold State.selectModel State.forgetFgrs; split <;> rfl

/-! ### legalise -/

@[simp] theorem State.legalise_gpr (s : State) (u : State) : (s.legalise u).gpr = regSet (u.gpr.map s.norm) 0 0 := rfl
@[simp] theorem State.legalise_hi (s : State) (u : State) : (s.legalise u).hi = s.norm u.hi := rfl
@[simp] theorem State.legalise_lo (s : State) (u : State) : (s.legalise u).lo = s.norm u.lo := rfl
@[simp] theorem State.legalise_pc (s : State) (u : State) : (s.legalise u).pc = s.norm u.pc := rfl
@[simp] theorem State.legalise_delay (s : State) (u : State) : (s.legalise u).delay = s.normDelay u.delay := rfl
@[simp] theorem State.legalise_afterBranch (s : State) (u : State) : (s.legalise u).afterBranch = (u.afterBranch || u.delay.isTarget) := rfl
@[simp] theorem State.legalise_llbit (s : State) (u : State) : (s.legalise u).llbit = false := rfl
@[simp] theorem State.legalise_llRecord (s : State) (u : State) : (s.legalise u).llRecord = if u.llRecord.isNone then s.llRecord else u.llRecord := rfl
@[simp] theorem State.legalise_fgrLo (s : State) (u : State) : (s.legalise u).fgrLo = u.fgrLo := rfl
@[simp] theorem State.legalise_fgrHi (s : State) (u : State) : (s.legalise u).fgrHi = u.fgrHi := rfl
@[simp] theorem State.legalise_fprTag (s : State) (u : State) : (s.legalise u).fprTag = u.fprTag := rfl
@[simp] theorem State.legalise_fcr0 (s : State) (u : State) : (s.legalise u).fcr0 = u.fcr0 := rfl
@[simp] theorem State.legalise_fcsr (s : State) (u : State) : (s.legalise u).fcsr = u.fcsr &&& s.fcsrMask := rfl
@[simp] theorem State.legalise_recentMF (s : State) (u : State) : (s.legalise u).recentMF = u.recentMF := rfl
@[simp] theorem State.legalise_hiLoPending (s : State) (u : State) : (s.legalise u).hiLoPending = u.hiLoPending := rfl
@[simp] theorem State.legalise_hazards (s : State) (u : State) : (s.legalise u).hazards = if 4 ≤ s.env.archLevel then Hazards.empty else u.hazards := rfl
@[simp] theorem State.legalise_pendingFpTrap (s : State) (u : State) : (s.legalise u).pendingFpTrap = u.pendingFpTrap := rfl
@[simp] theorem State.legalise_exc (s : State) (u : State) : (s.legalise u).exc = u.exc := rfl
@[simp] theorem State.legalise_saved (s : State) (u : State) : (s.legalise u).saved = u.saved := rfl
@[simp] theorem State.legalise_trapped (s : State) (u : State) : (s.legalise u).trapped = false := rfl
@[simp] theorem State.legalise_ended (s : State) (u : State) : (s.legalise u).ended = false := rfl
@[simp] theorem State.legalise_mode (s : State) (u : State) : (s.legalise u).mode = u.mode := rfl
@[simp] theorem State.legalise_cu (s : State) (u : State) : (s.legalise u).cu = u.cu := rfl
@[simp] theorem State.legalise_statusFR (s : State) (u : State) : (s.legalise u).statusFR = u.statusFR := rfl
@[simp] theorem State.legalise_cop2Gen (s : State) (u : State) : (s.legalise u).cop2Gen = u.cop2Gen := rfl
@[simp] theorem State.legalise_cop2Ctl (s : State) (u : State) : (s.legalise u).cop2Ctl = u.cop2Ctl := rfl
@[simp] theorem State.legalise_coc0 (s : State) (u : State) : (s.legalise u).coc0 = u.coc0 := rfl
@[simp] theorem State.legalise_coc2 (s : State) (u : State) : (s.legalise u).coc2 = u.coc2 := rfl
@[simp] theorem State.legalise_coc3 (s : State) (u : State) : (s.legalise u).coc3 = u.coc3 := rfl
@[simp] theorem State.legalise_mem (s : State) (u : State) : (s.legalise u).mem = memWriteAll [] u.mem := rfl
@[simp] theorem State.legalise_typed (s : State) (u : State) : (s.legalise u).typed = u.typed := rfl
@[simp] theorem State.legalise_env (s : State) (u : State) : (s.legalise u).env = s.env := rfl
@[simp] theorem State.legalise_agenda (s : State) (u : State) : (s.legalise u).agenda = s.agenda := rfl
@[simp] theorem State.legalise_free (s : State) (u : State) : (s.legalise u).free = s.free + 1 := rfl

/-! ### Where an exception goes (60_exceptions.md R724) -/

@[simp] theorem State.raise_pc (s : State) (c : Cause) : (s.raise c).pc =
    match s.env.trapEntry with | .halt => s.pc | .handler p _ _ => s.norm p | .specific => s.pc := by
  unfold State.raise State.enterTrap; dsimp only; cases s.env.trapEntry <;> rfl
@[simp] theorem State.raise_mode (s : State) (c : Cause) : (s.raise c).mode =
    match s.env.trapEntry with | .halt => s.mode | .handler _ m _ => m | .specific => s.mode := by
  unfold State.raise State.enterTrap; dsimp only; cases s.env.trapEntry <;> rfl
@[simp] theorem State.raise_cu (s : State) (c : Cause) : (s.raise c).cu =
    match s.env.trapEntry with | .halt => s.cu | .handler _ _ u => u | .specific => s.cu := by
  unfold State.raise State.enterTrap; dsimp only; cases s.env.trapEntry <;> rfl
@[simp] theorem State.raise_ended (s : State) (c : Cause) : (s.raise c).ended =
    match s.env.trapEntry with | .halt => true | .handler _ _ _ => s.ended | .specific => s.ended := by
  unfold State.raise State.enterTrap; dsimp only; cases s.env.trapEntry <;> rfl
@[simp] theorem State.raise_trapped (s : State) (c : Cause) : (s.raise c).trapped =
    match s.env.trapEntry with | .halt => s.trapped | .handler _ _ _ => s.trapped | .specific => true := by
  unfold State.raise State.enterTrap; dsimp only; cases s.env.trapEntry <;> rfl

/-! ### The return from an exception -/

theorem State.returnTo_nil {s : State} (h : s.saved = []) (p : Dword) : s.returnTo p = s := by
  unfold State.returnTo; rw [h]

theorem State.returnTo_cons {s : State} {m : SavedMode} {l : List SavedMode} (h : s.saved = m :: l) (p : Dword) :
    s.returnTo p = { s with
      llbit := false, pc := s.norm p, delay := .none, afterBranch := false, hazards := Hazards.empty,
      mode := m.mode, cu := m.cu, saved := l } := by
  unfold State.returnTo; rw [h]

end Sys2Proof.Machine
end

