-- ==== Sys2Proof/Laws/Effect.lean ====
section
/-! SUPPORT. What the next state of an instruction can be, said once for each shared operation: the relation `Effect`. -/

namespace Sys2Proof.Machine

/-! ### Containers -/

@[simp] theorem State.norm_norm (s : State) (v : Dword) : s.norm (s.norm v) = s.norm v := by
  unfold State.norm
  split
  · rfl
  · congr 1
    refine BitVec.eq_of_getLsbD_eq fun i hi => ?_
    rw [BitVec.getLsbD_setWidth, BitVec.getLsbD_signExtend, if_pos hi]
    simp [hi, show i < 64 by omega]

theorem State.norm_congr {s t : State} (h : t.env = s.env) (v : Dword) : t.norm v = s.norm v := by
  unfold State.norm; rw [h]

theorem State.fcsrMask_congr {s t : State} (h : t.env = s.env) : t.fcsrMask = s.fcsrMask := by
  unfold State.fcsrMask; rw [h]

/-! ### The FCSR -/

/-- A bit pattern has only bits of the FCSR at the level of `s`. -/
def State.inMask (s : State) (f : Word) : Prop := f &&& ~~~s.fcsrMask = 0

theorem State.mask_cases (s : State) :
    s.fcsrMask = 0xFF83FFFF#32 ∨ s.fcsrMask = 0x0183FFFF#32 ∨ s.fcsrMask = 0x0083FFFF#32 := by
  unfold State.fcsrMask
  split
  · exact .inl rfl
  · split
    · exact .inr (.inl rfl)
    · exact .inr (.inr rfl)

theorem State.inMask_or {s : State} {f g : Word} (hf : s.inMask f) (hg : s.inMask g) : s.inMask (f ||| g) := by
  unfold State.inMask at *
  rw [BitVec.and_comm, BitVec.and_or_distrib_left, BitVec.and_comm _ f, BitVec.and_comm _ g, hf, hg]; rfl

theorem State.inMask_and {s : State} {f : Word} (hf : s.inMask f) (g : Word) : s.inMask (f &&& g) := by
  unfold State.inMask at *
  rw [BitVec.and_assoc, BitVec.and_comm g, ← BitVec.and_assoc, hf]; simp

theorem State.inMask_mask (s : State) (f : Word) : s.inMask (f &&& s.fcsrMask) := by
  unfold State.inMask
  rw [BitVec.and_assoc, BitVec.and_not_self]; simp

theorem State.inMask_withCause {s : State} {f : Word} (h : s.inMask f) (c : BitVec 6) : s.inMask (withCause f c) := by
  refine State.inMask_or (State.inMask_and h _) ?_
  unfold State.inMask
  rcases s.mask_cases with e | e | e <;> rw [e] <;> revert c <;> decide

theorem State.inMask_withFlags {s : State} {f : Word} (h : s.inMask f) (g : BitVec 5) : s.inMask (withFlags f g) := by
  refine State.inMask_or (State.inMask_and h _) ?_
  unfold State.inMask
  rcases s.mask_cases with e | e | e <;> rw [e] <;> revert g <;> decide

theorem State.inMask_withFcc {s : State} {f : Word} (h : s.inMask f) (cc : BitVec 3) (b : Bool)
    (hc : s.env.archLevel < 4 → cc = 0) : s.inMask (withFcc f cc b) := by
  refine State.inMask_or (State.inMask_and h _) ?_
  unfold State.inMask
  by_cases h4 : s.env.archLevel < 4
  · rw [hc h4]
    rcases s.mask_cases with e | e | e <;> rw [e] <;> revert b <;> decide
  · have e : s.fcsrMask = 0xFF83FFFF#32 := by unfold State.fcsrMask; rw [if_pos (by omega)]
    rw [e]; clear hc; revert cc b; decide

/-! ### The relation -/

/-- What an instruction can have done when the state goes from `s` to `t`. -/
structure Effect (s t : State) : Prop where
  env : t.env = s.env
  agenda : t.agenda = s.agenda
  gpr : t.gpr = s.gpr ∨ ∃ r v, r ≠ 0 ∧ t.gpr = regSet s.gpr r (s.norm v)
  hi : t.hi = s.hi ∨ ∃ v, t.hi = s.norm v
  lo : t.lo = s.lo ∨ ∃ v, t.lo = s.norm v
  mem : ∃ l, t.mem = memWriteAll s.mem l
  fcsr : s.inMask s.fcsr → s.inMask t.fcsr
  link : t.llbit = true → t.llRecord.isSome = true ∨ (s.llbit = true ∧ t.llRecord = s.llRecord)
  trackers : 4 ≤ s.env.archLevel → t.hazards = Hazards.empty
  branch : ∀ x, t.delay = .target x → t.afterBranch = true
  pc : s.Contained → s.norm t.pc = t.pc ∧ ∀ x, t.delay = .target x → s.norm x = x

/-- Every next state of the outcome is an effect on `s`. -/
def Effects (s : State) (o : Out) : Prop := ∀ t, o = .next t → Effect s t

/-- The changes of an instruction before it ends: the program counter and the trackers still stand. -/
structure Body (s u : State) : Prop where
  env : u.env = s.env
  agenda : u.agenda = s.agenda
  gpr : u.gpr = s.gpr ∨ ∃ r v, r ≠ 0 ∧ u.gpr = regSet s.gpr r (s.norm v)
  hi : u.hi = s.hi ∨ ∃ v, u.hi = s.norm v
  lo : u.lo = s.lo ∨ ∃ v, u.lo = s.norm v
  mem : ∃ l, u.mem = memWriteAll s.mem l
  fcsr : s.inMask s.fcsr → s.inMask u.fcsr
  llbit : u.llbit = s.llbit
  llRecord : u.llRecord = s.llRecord
  pc : u.pc = s.pc
  delay : u.delay = s.delay

/-- Only the FPU changed. -/
structure Quiet (s u : State) : Prop where
  env : u.env = s.env
  agenda : u.agenda = s.agenda
  gpr : u.gpr = s.gpr
  hi : u.hi = s.hi
  lo : u.lo = s.lo
  mem : u.mem = s.mem
  fcsr : s.inMask s.fcsr → s.inMask u.fcsr
  llbit : u.llbit = s.llbit
  llRecord : u.llRecord = s.llRecord
  pc : u.pc = s.pc
  delay : u.delay = s.delay

theorem Quiet.refl (s : State) : Quiet s s := ⟨rfl, rfl, rfl, rfl, rfl, rfl, id, rfl, rfl, rfl, rfl⟩

theorem State.inMask_congr {s t : State} (h : t.env = s.env) (f : Word) : t.inMask f ↔ s.inMask f := by
  unfold State.inMask; rw [State.fcsrMask_congr h]

theorem Quiet.trans {s t u : State} (h : Quiet s t) (k : Quiet t u) : Quiet s u where
  env := k.env.trans h.env
  agenda := k.agenda.trans h.agenda
  gpr := k.gpr.trans h.gpr
  hi := k.hi.trans h.hi
  lo := k.lo.trans h.lo
  mem := k.mem.trans h.mem
  fcsr hs := (State.inMask_congr h.env _).mp (k.fcsr ((State.inMask_congr h.env _).mpr (h.fcsr hs)))
  llbit := k.llbit.trans h.llbit
  llRecord := k.llRecord.trans h.llRecord
  pc := k.pc.trans h.pc
  delay := k.delay.trans h.delay

theorem Quiet.body {s u : State} (h : Quiet s u) : Body s u :=
  ⟨h.env, h.agenda, .inl h.gpr, .inl h.hi, .inl h.lo, ⟨[], h.mem⟩, h.fcsr, h.llbit, h.llRecord, h.pc, h.delay⟩

theorem Body.refl (s : State) : Body s s := (Quiet.refl s).body

theorem Body.setGpr (s : State) (r : Reg) (v : Dword) : Body s (s.setGpr r v) := by
  refine ⟨by simp, by simp, ?_, by simp, by simp, ⟨[], by simp [memWriteAll]⟩, by simp, by simp, by simp, by simp, by simp⟩
  simp only [State.setGpr_gpr]
  split
  · exact .inl rfl
  · next h => exact .inr ⟨r, v, h, rfl⟩

theorem Body.setHiLo (s : State) (hi lo : Dword) : Body s (s.setHiLo hi lo) :=
  ⟨rfl, rfl, .inl rfl, .inr ⟨_, rfl⟩, .inr ⟨_, rfl⟩, ⟨[], rfl⟩, id, rfl, rfl, rfl, rfl⟩

theorem Body.moveToHi (s : State) (v : Dword) : Body s (s.moveToHi v) := by
  refine ⟨rfl, rfl, .inl rfl, .inr ⟨_, rfl⟩, ?_, ⟨[], rfl⟩, id, rfl, rfl, rfl, rfl⟩
  unfold State.moveToHi; dsimp only
  split
  · exact .inr ⟨_, rfl⟩
  · exact .inl rfl

theorem Body.moveToLo (s : State) (v : Dword) : Body s (s.moveToLo v) := by
  refine ⟨rfl, rfl, .inl rfl, ?_, .inr ⟨_, rfl⟩, ⟨[], rfl⟩, id, rfl, rfl, rfl, rfl⟩
  unfold State.moveToLo; dsimp only
  split
  · exact .inr ⟨_, rfl⟩
  · exact .inl rfl

theorem Body.storeBytes (s : State) (ps : List Nat) (v : Dword) : Body s (s.storeBytes ps v) :=
  ⟨rfl, rfl, .inl rfl, .inl rfl, .inl rfl, ⟨_, rfl⟩, id, rfl, rfl, rfl, rfl⟩

theorem Body.storeBytes_setGpr (s : State) (ps : List Nat) (v w : Dword) (r : Reg) :
    Body s ((s.storeBytes ps v).setGpr r w) := by
  have h := Body.setGpr (s.storeBytes ps v) r w
  have b := Body.storeBytes s ps v
  have k : (s.storeBytes ps v).norm = s.norm := rfl
  exact ⟨h.env, h.agenda, k ▸ h.gpr, .inl (by simp), .inl (by simp),
    ⟨ps.zip (splitBytes s.bigEndianCPU ps.length v), by simp⟩, by simp, h.llbit, h.llRecord, h.pc, h.delay⟩

/-! ### Ends of an instruction -/

theorem State.nextPc_contained {s : State} (h : s.Contained) : s.norm s.nextPc = s.nextPc := by
  unfold State.nextPc
  split
  · next t ht => exact h.target t ht
  · simp [State.pcPlus4]

theorem State.nextPc_congr {s u : State} (e : u.env = s.env) (p : u.pc = s.pc) (d : u.delay = s.delay) :
    u.nextPc = s.nextPc := by
  unfold State.nextPc State.pcPlus4; rw [d, p]
  cases s.delay <;> simp [State.norm_congr e]

theorem Body.retireWith {s u : State} (h : Body s u) (hz : Hazards) (mf : MfEntry)
    (hh : 4 ≤ s.env.archLevel → hz = Hazards.empty) : Effect s (u.retireWith hz mf) where
  env := h.env
  agenda := h.agenda
  gpr := h.gpr
  hi := h.hi
  lo := h.lo
  mem := h.mem
  fcsr := h.fcsr
  link hl := .inr ⟨h.llbit ▸ hl, h.llRecord⟩
  trackers := hh
  branch x hx := by simp at hx
  pc hc := by
    have e := State.nextPc_congr h.env h.pc h.delay
    exact ⟨by simpa [e] using State.nextPc_contained hc, fun x hx => by simp at hx⟩

theorem Body.retire {s u : State} (h : Body s u) : Effect s u.retire := h.retireWith _ _ fun _ => rfl

theorem Body.raise {s u : State} (h : Body s u) (c : Cause) : Effect s (u.raise c) where
  env := by simpa using h.env
  agenda := by simpa using h.agenda
  gpr := by simpa using h.gpr
  hi := by simpa using h.hi
  lo := by simpa using h.lo
  mem := by simpa using h.mem
  fcsr := by simpa using h.fcsr
  link hl := by simp at hl
  trackers _ := by simp
  branch x hx := by simp at hx
  pc hc := by
    refine ⟨?_, fun x hx => by simp at hx⟩
    have hpc : s.norm u.pc = u.pc := h.pc ▸ hc.pc
    rw [State.raise_pc]
    split
    · exact hpc
    · rw [State.norm_congr h.env]; simp
    · exact hpc

theorem State.pcPlus4_congr {s u : State} (e : u.env = s.env) (p : u.pc = s.pc) : u.pcPlus4 = s.pcPlus4 := by
  unfold State.pcPlus4; rw [p, State.norm_congr e]

theorem State.pcPlus4_contained (s : State) : s.norm s.pcPlus4 = s.pcPlus4 := by simp [State.pcPlus4]

theorem Body.takeBranch {s u : State} (h : Body s u) (t : Dword) (ht : s.Contained → s.norm t = t) :
    Effect s (u.takeBranch t) where
  env := h.env
  agenda := h.agenda
  gpr := h.gpr
  hi := h.hi
  lo := h.lo
  mem := h.mem
  fcsr := h.fcsr
  link hl := .inr ⟨h.llbit ▸ hl, h.llRecord⟩
  trackers _ := rfl
  branch _ _ := rfl
  pc hc := by
    refine ⟨by simp [State.pcPlus4_congr h.env h.pc, State.pcPlus4_contained], fun x hx => ?_⟩
    simp at hx; exact hx ▸ ht hc

theorem Body.fallThrough {s u : State} (h : Body s u) : Effect s u.fallThrough where
  env := h.env
  agenda := h.agenda
  gpr := h.gpr
  hi := h.hi
  lo := h.lo
  mem := h.mem
  fcsr := h.fcsr
  link hl := .inr ⟨h.llbit ▸ hl, h.llRecord⟩
  trackers _ := rfl
  branch x hx := by simp at hx
  pc _ := ⟨by simp [State.pcPlus4_congr h.env h.pc, State.pcPlus4_contained], fun x hx => by simp at hx⟩

theorem Body.nullifyNext {s u : State} (h : Body s u) : Effect s u.nullifyNext where
  env := h.env
  agenda := h.agenda
  gpr := h.gpr
  hi := h.hi
  lo := h.lo
  mem := h.mem
  fcsr := h.fcsr
  link hl := .inr ⟨h.llbit ▸ hl, h.llRecord⟩
  trackers _ := rfl
  branch x hx := by simp at hx
  pc _ := ⟨by simp [State.pcPlus4_congr h.env h.pc, State.pcPlus4_contained], fun x hx => by simp at hx⟩

/-! ### Outcomes -/

theorem effects_next {s t : State} (h : Effect s t) : Effects s (.next t) := by
  rintro u ⟨⟩; exact h

theorem effects_refused (s : State) (r : Refusal) : Effects s (.refused r) := by rintro u ⟨⟩

theorem effects_raise (s : State) (c : Cause) : Effects s (.next (s.raise c)) := effects_next ((Body.refl s).raise c)

theorem effects_ite {s : State} {p : Prop} [Decidable p] {a b : Out} (ha : p → Effects s a) (hb : ¬ p → Effects s b) :
    Effects s (if p then a else b) := by
  split
  · next h => exact ha h
  · next h => exact hb h

theorem effects_orRaise {s : State} {α : Type} (r : Except Cause α) (k : α → Out)
    (h : ∀ a, r = .ok a → Effects s (k a)) : Effects s (s.orRaise r k) := by
  unfold State.orRaise
  split
  · exact effects_raise _ _
  · exact h _ rfl

theorem Effect.noteTypes {s t : State} (h : Effect s t) (l : List (Nat × AccessType)) : Effect s (t.noteTypes l) :=
  ⟨h.env, h.agenda, h.gpr, h.hi, h.lo, h.mem, h.fcsr, h.link, h.trackers, h.branch, h.pc⟩

/-- What a data access can end in. -/
theorem effects_access (s : State) (k : AccessKind) (a : Dword) (b n : Nat) (f : List Nat → State)
    (h : ∀ ps, Effect s (f ps)) : Effects s (s.access k a b n f) := by
  unfold State.access
  split
  · exact effects_raise _ _
  · exact effects_refused _ _
  · exact effects_next ((h _).noteTypes _)

theorem effects_needLevel {s : State} (n : Nat) {k : Out} (h : Effects s k) : Effects s (s.needLevel n k) :=
  effects_ite (fun _ => effects_raise _ _) fun _ => h

theorem effects_needCop {s : State} (z : BitVec 2) {k : Out} (h : Effects s k) : Effects s (s.needCop z k) :=
  effects_ite (fun _ => h) fun _ => effects_raise _ _

theorem Quiet.cause (s : State) (c : BitVec 6) : Quiet s { s with fcsr := withCause s.fcsr c } :=
  ⟨rfl, rfl, rfl, rfl, rfl, rfl, fun h => State.inMask_withCause h c, rfl, rfl, rfl, rfl⟩

theorem effect_raiseUnimplemented (s : State) : Effect s s.raiseUnimplemented := (Quiet.cause s _).body.raise _

theorem effect_raiseReservedFpu (s : State) : Effect s s.raiseReservedFpu := by
  unfold State.raiseReservedFpu
  split
  · exact (Body.refl s).raise _
  · exact effect_raiseUnimplemented s

theorem effects_needFpLevel {s : State} (n : Nat) {k : Out} (h : Effects s k) : Effects s (s.needFpLevel n k) :=
  effects_ite (fun _ => effects_next (effect_raiseReservedFpu s)) fun _ => h

theorem effects_cop3 (s : State) (n : Nat) : Effects s (s.cop3 n) :=
  effects_ite (fun _ => effects_needCop _ (effects_needLevel _ (effects_refused _ _))) fun _ => effects_raise _ _

theorem effects_wasCop3 {s : State} (a b : Nat) {k : Out} (h : Effects s k) : Effects s (s.wasCop3 a b k) :=
  effects_ite (fun _ => h) fun _ => effects_ite (fun _ => effects_cop3 s a) fun _ => effects_raise _ _

theorem effects_needCop1x {s : State} {k : Out} (h : Effects s k) : Effects s (s.needCop1x k) :=
  effects_wasCop3 _ _ (effects_needCop _ h)

theorem effects_notInSlot {s : State} {k : Out} (h : Effects s k) : Effects s (s.notInSlot k) := by
  unfold State.notInSlot; split
  · exact effects_refused _ _
  · exact h

theorem effects_needAligned {s : State} (a : AccessKind) (n : Nat) (x : Dword) {k : Out} (h : Effects s k) :
    Effects s (s.needAligned a n x k) := effects_ite (fun _ => h) fun _ => effects_raise _ _

theorem effects_needOffset {s : State} (n : Nat) (o : BitVec 16) {k : Out} (h : Effects s k) :
    Effects s (s.needOffset n o k) := effects_ite (fun _ => effects_refused _ _) fun _ => h

theorem effects_needRegion {s : State} (a : Dword) (b : Reg) {k : Out} (h : Effects s k) :
    Effects s (s.needRegion a b k) := effects_ite (fun _ => effects_refused _ _) fun _ => h

theorem effects_needHiLo {s : State} (a b : Bool) {k : Out} (h : Effects s k) : Effects s (s.needHiLo a b k) :=
  effects_ite (fun _ => effects_refused _ _) fun _ => h

theorem effects_needCc {s : State} (cc : BitVec 3) {k : Out} (h : (s.env.archLevel < 4 → cc = 0) → Effects s k) :
    Effects s (s.needCc cc k) :=
  effects_ite (fun _ => effects_raise _ _) fun hn => h fun h4 => by
    by_contra hc; exact hn ⟨h4, hc⟩

theorem effects_needCop2 {s : State} (n : Nat) {k : Out} (h : Effects s k) : Effects s (s.needCop2 n k) :=
  effects_needCop _ (effects_needLevel _ (effects_ite (fun _ => h) fun _ => effects_refused _ _))

theorem Body.copGpr (s : State) (w : Option (Reg × Dword)) : Body s (s.copGpr w) := by
  unfold State.copGpr
  split
  · exact Body.setGpr s _ _
  · exact Body.refl s

/-- Every end of a coprocessor operation is an effect. -/
theorem Body.follow {s u : State} (h : Body s u) (f : CopFlow) : Effect s (u.follow f) := by
  cases f with
  | next => exact h.retire
  | goto p =>
    have r := h.retire
    exact ⟨r.env, r.agenda, r.gpr, r.hi, r.lo, r.mem, r.fcsr, r.link, r.trackers, (fun _ hx => nomatch hx),
      fun _ => ⟨by show s.norm (u.norm p) = u.norm p; rw [State.norm_congr h.env]; simp, fun _ hx => nomatch hx⟩⟩
  | taken t => exact h.takeBranch _ fun _ => by rw [State.norm_congr h.env]; simp
  | notTaken => exact h.fallThrough
  | nullify => exact h.nullifyNext

/-- A coprocessor operation that is a branch is refused in a taken slot; else its outcome is `k`. -/
theorem effects_needFlow {s : State} (f : CopFlow) {k : Out} (h : Effects s k) : Effects s (s.needFlow f k) :=
  effects_ite (fun _ => effects_notInSlot h) fun _ => h

theorem Body.selectModel {s t : State} (h : Body s t) (b : Bool) : Body s (t.selectModel b) :=
  ⟨by simp [h.env], by simp [h.agenda], by simpa using h.gpr, by simpa using h.hi, by simpa using h.lo,
    by simpa using h.mem, by simpa using h.fcsr, by simp [h.llbit], by simp [h.llRecord], by simp [h.pc], by simp [h.delay]⟩

theorem Body.cop0End {s u : State} (h : Body s u) (e : Cop0Effect) : Effect s (u.cop0End e) :=
  have r := h.follow e.flow
  ⟨r.env, r.agenda, r.gpr, r.hi, r.lo, r.mem, r.fcsr,
    (fun l => .inr ⟨h.llbit ▸ (Bool.and_eq_true_iff.mp (Bool.and_eq_true_iff.mp l).1).1, by simpa using h.llRecord⟩),
    r.trackers, r.branch, r.pc⟩

theorem effects_applyCop0 (s : State) (e : Cop0Effect) : Effects s (s.applyCop0 e) := by
  unfold State.applyCop0
  split
  · exact effects_raise _ _
  · exact effects_needFlow _ (effects_next (((Body.copGpr s e.gpr).selectModel _).cop0End e))

theorem effects_cop0Operation (s : State) (b : Bool) (f : BitVec 26) : Effects s (s.cop0Operation b f) :=
  effects_ite (fun _ => effects_applyCop0 s _) fun _ => effects_refused _ _

theorem effects_rejected (s : State) (r : Reject) : Effects s (s.rejected r) := by
  cases r
  case reservedCpu => exact effects_raise _ _
  case reservedCop1 => exact effects_needCop _ (effects_next (effect_raiseReservedFpu s))
  case reservedCop1x => exact effects_needCop1x (effects_next (effect_raiseReservedFpu s))
  case requiredZero => exact effects_raise _ _
  case requiredZeroMovci => exact effects_needLevel _ (effects_needCop _ (effects_raise _ _))
  case requiredZeroCop1 n => exact effects_needCop _ (effects_needFpLevel _ (effects_raise _ _))
  case requiredZeroCop1x => exact effects_needCop1x (effects_raise _ _)
  case opcode2F bits =>
    exact effects_needLevel _ <| effects_ite (fun _ => effects_raise _ _) fun _ =>
      effects_ite (fun _ => effects_raise _ _) fun _ => effects_cop0Operation _ _ _
  case opcodeSwc3 => exact effects_wasCop3 _ _ (effects_raise _ _)
  case length => exact effects_raise _ _

/-! ### The CPU's shared operations -/

theorem effects_writeGpr (s : State) (r : Reg) (v : Dword) : Effects s (s.writeGpr r v) :=
  effects_next (Body.setGpr s r v).retire

theorem effects_writeResult (s : State) (l : List Reg) (r : Reg) (v : Dword) : Effects s (s.writeResult l r v) :=
  effects_writeGpr _ _ _

theorem effects_trappingWord (s : State) (l : List Reg) (vs : List Dword) (o : Bool) (r : Reg) (v : Dword) :
    Effects s (s.trappingWord l vs o r v) := effects_ite (fun _ => effects_raise _ _) fun _ => effects_writeResult _ _ _ _

theorem effects_trappingDword (s : State) (l : List Reg) (o : Bool) (r : Reg) (v : Dword) :
    Effects s (s.trappingDword l o r v) := effects_ite (fun _ => effects_raise _ _) fun _ => effects_writeResult _ _ _ _

theorem State.loadHazard_four {s : State} (rt : Reg) (h : 4 ≤ s.env.archLevel) : s.loadHazard rt = Hazards.empty := by
  unfold State.loadHazard; rw [if_neg (by omega)]; rfl

theorem effects_loadAligned (s : State) (n : Nat) (b rt : Reg) (o : BitVec 16) (ext : Dword → Dword) :
    Effects s (s.loadAligned n b rt o ext) :=
  effects_needAligned _ _ _ <| effects_needOffset _ _ <| effects_access _ _ _ _ _ _ fun _ =>
    (Body.setGpr _ _ _).retireWith _ _ fun h => State.loadHazard_four rt h

theorem effects_loadPart (s : State) (sp : Nat × Nat) (b rt : Reg) (o : BitVec 16) (m : Nat → Dword → Dword → Dword) :
    Effects s (s.loadPart sp b rt o m) :=
  effects_access _ _ _ _ _ _ fun _ => (Body.setGpr _ _ _).retireWith _ _ fun h => State.loadHazard_four rt h

theorem Effect.withLink {s t : State} (h : Effect s t) (r : LinkRecord) :
    Effect s { t with llbit := true, llRecord := some r } :=
  ⟨h.env, h.agenda, h.gpr, h.hi, h.lo, h.mem, h.fcsr, fun _ => .inl rfl, h.trackers, h.branch, h.pc⟩

theorem Effect.withoutLink {s t : State} (h : Effect s t) : Effect s { t with llbit := false } :=
  ⟨h.env, h.agenda, h.gpr, h.hi, h.lo, h.mem, h.fcsr, (fun e => nomatch e), h.trackers, h.branch, h.pc⟩

theorem Effect.withPending {s t : State} (h : Effect s t) (b : Bool) : Effect s { t with hiLoPending := b } :=
  ⟨h.env, h.agenda, h.gpr, h.hi, h.lo, h.mem, h.fcsr, h.link, h.trackers, h.branch, h.pc⟩

theorem effects_loadLinked (s : State) (n : Nat) (b rt : Reg) (o : BitVec 16) (ext : Dword → Dword) :
    Effects s (s.loadLinked n b rt o ext) :=
  effects_needAligned _ _ _ <| effects_needOffset _ _ <| effects_orRaise _ _ fun _ _ =>
    effects_ite (fun _ => effects_refused _ _) fun _ => effects_access _ _ _ _ _ _ fun _ =>
      (Body.setGpr _ _ _).retire.withLink _

theorem effects_storeAligned (s : State) (n : Nat) (b : Reg) (o : BitVec 16) (v : Dword) :
    Effects s (s.storeAligned n b o v) :=
  effects_needAligned _ _ _ <| effects_needOffset _ _ <| effects_access _ _ _ _ _ _ fun _ =>
    (Body.storeBytes _ _ _).retire

theorem effects_storePart (s : State) (sp : Nat × Nat) (b rt : Reg) (o : BitVec 16) (p : Nat → Dword → Dword) :
    Effects s (s.storePart sp b rt o p) :=
  effects_access _ _ _ _ _ _ fun _ => (Body.storeBytes _ _ _).retire

theorem effects_storeConditional (s : State) (n : Nat) (b rt : Reg) (o : BitVec 16) :
    Effects s (s.storeConditional n b rt o) :=
  effects_needAligned _ _ _ <| effects_needOffset _ _ <| effects_orRaise _ _ fun _ _ =>
    effects_ite (fun _ => effects_refused _ _) fun _ =>
      effects_ite (fun _ => effects_access _ _ _ _ _ _ fun _ => (Body.storeBytes_setGpr _ _ _ _ _).retire.withoutLink)
        fun _ => effects_ite
          (fun _ => effects_access _ _ _ _ _ _ fun _ => (Body.storeBytes_setGpr _ _ _ _ _).retire.withoutLink)
          fun _ => effects_next (Body.setGpr _ _ _).retire.withoutLink

theorem State.loadCop2Hazard_four {s : State} (b : Bool) (rt : Reg) (h : 4 ≤ s.env.archLevel) :
    s.loadCop2Hazard b rt = Hazards.empty := by
  unfold State.loadCop2Hazard; rw [if_neg (by omega)]; rfl

theorem Quiet.setCop2 (s : State) (c : Cop2State) : Quiet s (s.setCop2 c) :=
  ⟨rfl, rfl, rfl, rfl, rfl, rfl, id, rfl, rfl, rfl, rfl⟩

theorem effects_loadCop2 (s : State) (n : Nat) (b rt : Reg) (o : BitVec 16) : Effects s (s.loadCop2 n b rt o) :=
  effects_needAligned _ _ _ <| effects_needOffset _ _ <| effects_access _ _ _ _ _ _ fun _ =>
    (Quiet.setCop2 s _).body.retireWith _ _ fun h => State.loadCop2Hazard_four _ rt h

theorem effects_storeCop2 (s : State) (n : Nat) (b rt : Reg) (o : BitVec 16) : Effects s (s.storeCop2 n b rt o) :=
  effects_needAligned _ _ _ <| effects_needOffset _ _ <| effects_access _ _ _ _ _ _ fun _ =>
    Body.retire ⟨rfl, rfl, .inl rfl, .inl rfl, .inl rfl, ⟨_, rfl⟩, id, rfl, rfl, rfl, rfl⟩

theorem Body.setCop2 {s u : State} (h : Body s u) (c : Cop2State) : Body s (u.setCop2 c) :=
  ⟨h.env, h.agenda, h.gpr, h.hi, h.lo, h.mem, h.fcsr, h.llbit, h.llRecord, h.pc, h.delay⟩

theorem effects_applyCop2 (s : State) (e : Cop2Effect) : Effects s (s.applyCop2 e) := by
  unfold State.applyCop2
  split
  · exact effects_raise _ _
  · exact effects_needFlow _ (effects_next (((Body.copGpr s e.gpr).setCop2 e.regs).follow _))

theorem effects_cop2Operation (s : State) (f : BitVec 26) : Effects s (s.cop2Operation f) := effects_applyCop2 s _

theorem effects_computeHiLo (s : State) (l : List Reg) (hi lo : Dword) : Effects s (s.computeHiLo l hi lo) :=
  effects_needHiLo _ _ (effects_next ((Body.setHiLo _ _ _).retire.withPending _))

theorem effects_computeWordHiLo (s : State) (rs rt : Reg) (hi lo : Word) : Effects s (s.computeWordHiLo rs rt hi lo) :=
  effects_ite (fun _ => effects_computeHiLo _ _ _ _) fun _ => effects_computeHiLo _ _ _ _

theorem effects_divideHiLo (s : State) (l : List Reg) (z : Bool) (hi lo : Dword) : Effects s (s.divideHiLo l z hi lo) :=
  effects_ite (fun _ => effects_computeHiLo _ _ _ _) fun _ => effects_computeHiLo _ _ _ _

theorem effects_divideWordHiLo (s : State) (rs rt : Reg) (hi lo : Word) : Effects s (s.divideWordHiLo rs rt hi lo) :=
  effects_ite (fun _ => effects_computeHiLo _ _ _ _) fun _ => effects_divideHiLo _ _ _ _ _

theorem effects_trapIf (s : State) (c : Bool) : Effects s (s.trapIf c) :=
  effects_needLevel _ (effects_next (by split; exacts [(Body.refl s).raise _, (Body.refl s).retire]))

/-! ### Branches -/

theorem Body.branchIf {s u : State} (h : Body s u) (c l : Bool) (o : BitVec 16) : Effect s (u.branchIf c l o) := by
  unfold State.branchIf
  split
  · refine h.takeBranch _ fun _ => ?_
    unfold State.branchTarget
    rw [State.norm_congr h.env]; simp
  · split
    · exact h.nullifyNext
    · exact h.fallThrough

theorem State.readGpr_contained {s : State} (h : s.Contained) (r : Reg) (slot : Nat) :
    s.norm (s.readGpr r slot) = s.readGpr r slot := by
  unfold State.readGpr
  split
  · unfold State.norm; split <;> decide
  · split
    · simp
    · exact h.gpr r

theorem State.getGpr_contained {s : State} (h : s.Contained) (r : Reg) : s.norm (s.getGpr r) = s.getGpr r :=
  State.readGpr_contained h r _

theorem State.jumpTarget_contained (s : State) (i : BitVec 26) : s.norm (s.jumpTarget i) = s.jumpTarget i := by
  have h := s.pcPlus4_contained
  unfold State.norm at *
  split
  · rfl
  · next hb =>
    rw [if_neg hb] at h
    have hh : ∀ j, 31 ≤ j → j < 64 → s.pcPlus4.getLsbD j = s.pcPlus4.getLsbD 31 := by
      intro j h1 h2
      rw [← h]
      simp only [BitVec.getLsbD_signExtend, BitVec.getLsbD_setWidth, BitVec.msb_eq_getLsbD_last]
      split
      · have : j = 31 := by omega
        subst this; simp
      · simp [h2]
    have bit : ∀ j, j < 64 → (s.jumpTarget i).getLsbD j =
        if j < 2 then false else if j < 28 then i.getLsbD (j - 2) else s.pcPlus4.getLsbD j := by
      intro j hj
      simp only [State.jumpTarget, BitVec.getLsbD_append, BitVec.getLsbD_extractLsb']
      split
      · simp
      · split
        · rw [if_pos (by omega)]
        · rw [if_neg (by omega)]
          simp only [show j - 2 - 26 < 36 by omega, decide_true, Bool.true_and]
          congr 1; omega
    refine BitVec.eq_of_getLsbD_eq fun j hj => ?_
    rw [BitVec.getLsbD_signExtend]
    split
    · simp only [BitVec.getLsbD_setWidth, *, decide_true, Bool.true_and]
    · rw [BitVec.msb_eq_getLsbD_last, BitVec.getLsbD_setWidth, bit j hj, bit 31 (by omega)]
      simp only [hj, show ¬ j < 2 by omega, show ¬ j < 28 by omega, if_false, decide_true, Bool.true_and]
      simpa using (hh j (by omega) hj).symm

theorem Body.jump {s u : State} (h : Body s u) (i : BitVec 26) : Effect s (u.takeBranch (s.jumpTarget i)) :=
  h.takeBranch _ fun _ => s.jumpTarget_contained i

theorem Body.jumpRegister {s u : State} (h : Body s u) (r : Reg) : Effect s (u.takeBranch (s.getGpr r)) :=
  h.takeBranch _ fun hc => s.getGpr_contained hc r

theorem effects_branchLink (s : State) (rs : Reg) (c l : Bool) (o : BitVec 16) : Effects s (s.branchLink rs c l o) :=
  effects_notInSlot (effects_ite (fun _ => effects_refused _ _) fun _ => effects_next ((Body.setGpr _ _ _).branchIf _ _ _))

end Sys2Proof.Machine
end

