-- ==== Sys2Proof/Laws/FpEffect.lean ====
section
/-! SUPPORT. What the FPU's shared operations can do: reading and writing FPRs changes only the FPU, and every course of an
FPU instruction is an `Effect`. -/

namespace Sys2Proof.Machine

/-! ### Reading and writing FPRs -/

theorem Quiet.setTag (s : State) (n : Reg) (t : FprTag) : Quiet s (s.setTag n t) :=
  ⟨rfl, rfl, rfl, rfl, rfl, rfl, id, rfl, rfl, rfl, rfl⟩

theorem Quiet.spoil (s : State) (n : Reg) : Quiet s (s.spoil n) := by constructor <;> simp
theorem Quiet.loadWordFgr (s : State) (n : Reg) (w : Word) : Quiet s (s.loadWordFgr n w) := by constructor <;> simp
theorem Quiet.loadDwordFgr (s : State) (n : Reg) (v : Dword) : Quiet s (s.loadDwordFgr n v) := by constructor <;> simp
theorem Quiet.storeFpr (s : State) (n : Reg) (f : FpFmt) (v : Dword) : Quiet s (s.storeFpr n f v) := by
  constructor <;> simp

theorem Quiet.readFpr (s : State) (n : Reg) (f : FpFmt) : Quiet s (s.readFpr n f).2 := by
  unfold State.readFpr
  split
  · exact Quiet.setTag _ _ _
  · split
    · exact Quiet.refl s
    · exact Quiet.spoil s n
  · exact Quiet.refl s

theorem Quiet.readFprs (s : State) (f : FpFmt) (l : List Reg) : Quiet s (s.readFprs f l).2 := by
  induction l generalizing s with
  | nil => exact Quiet.refl s
  | cons n l ih =>
    simp only [State.readFprs]
    exact (Quiet.readFpr s n f).trans (ih _)

theorem Quiet.setFcsr {s t : State} (h : Quiet s t) (f : Word) (hf : s.inMask s.fcsr → s.inMask f) :
    Quiet s { t with fcsr := f } :=
  ⟨h.env, h.agenda, h.gpr, h.hi, h.lo, h.mem, hf, h.llbit, h.llRecord, h.pc, h.delay⟩

theorem Quiet.setFpTrap {s t : State} (h : Quiet s t) (b : Bool) : Quiet s { t with pendingFpTrap := b } :=
  ⟨h.env, h.agenda, h.gpr, h.hi, h.lo, h.mem, h.fcsr, h.llbit, h.llRecord, h.pc, h.delay⟩

/-- The condition code of a destination exists at the level. -/
def FpDest.legal (s : State) : FpDest → Prop
  | .fpr _ _ => True
  | .cond cc => s.env.archLevel < 4 → cc = 0

theorem Quiet.withFcc (s : State) (cc : BitVec 3) (b : Bool) (h : s.env.archLevel < 4 → cc = 0) :
    Quiet s { s with fcsr := withFcc s.fcsr cc b } :=
  (Quiet.refl s).setFcsr _ fun hs => State.inMask_withFcc hs cc b h

theorem Quiet.writeDest (s : State) (d : FpDest) (v : Dword) (h : d.legal s) : Quiet s (s.writeDest d v) := by
  cases d with
  | fpr n f => exact Quiet.storeFpr s n f v
  | cond cc => exact Quiet.withFcc s cc _ h

theorem Quiet.spoilDest (s : State) (d : FpDest) (h : d.legal s) : Quiet s (s.spoilDest d) := by
  cases d with
  | fpr n f => exact Quiet.spoil s n
  | cond cc => exact Quiet.withFcc s cc _ h

theorem FpDest.legal_congr {s t : State} (e : t.env = s.env) {d : FpDest} (h : d.legal s) : d.legal t := by
  cases d with
  | fpr n f => trivial
  | cond cc => exact fun h4 => h (e ▸ h4)

/-! ### The FCSR of an arithmetic instruction -/

theorem State.inMask_trapFcsr {s : State} (h : s.inMask s.fcsr) (c : BitVec 6) : s.inMask (s.trapFcsr c) := by
  unfold State.trapFcsr
  split <;> exact State.inMask_withCause h _

theorem effect_trapUnimplemented (s : State) : Effect s s.trapUnimplemented :=
  ((Quiet.refl s).setFcsr _ fun h => State.inMask_trapFcsr h _).body.raise _

theorem State.inMask_doneFcsr {s : State} (h : s.inMask s.fcsr) (c f : BitVec 5) : s.inMask (s.doneFcsr c f) := by
  unfold State.doneFcsr
  split
  · exact State.inMask_withCause (State.inMask_withFlags h _) _
  · dsimp only
    split <;> exact State.inMask_withCause (State.inMask_withFlags h _) _

theorem State.inMask_undefinedFcsr {s : State} (h : s.inMask s.fcsr) : s.inMask s.undefinedFcsr :=
  State.inMask_withFlags (State.inMask_withCause h _) _

/-! ### Courses of an instruction -/

theorem State.destHazard_four {s : State} (d : FpDest) (h : 4 ≤ s.env.archLevel) : s.destHazard d = Hazards.empty := by
  cases d with
  | fpr n f => rfl
  | cond cc => simp only [State.destHazard, Hazards.empty, show ¬ s.env.archLevel < 4 by omega, decide_false]

theorem State.moveToHazard_four {s : State} (l : List Reg) (h : 4 ≤ s.env.archLevel) :
    s.moveToHazard l = Hazards.empty := by
  simp only [State.moveToHazard, if_neg (show ¬ s.env.archLevel < 4 by omega)]; rfl

theorem State.moveFromHazard_four {s : State} (r : Reg) (h : 4 ≤ s.env.archLevel) :
    s.moveFromHazard r = Hazards.empty := by
  simp only [State.moveFromHazard, if_neg (show ¬ (s.env.archLevel < 4 ∧ r ≠ 0) by omega)]; rfl

theorem Quiet.finish {s t : State} (q : Quiet s t) (f : Word) (d : FpDest) (v : Dword) (hd : d.legal s)
    (hf : s.inMask s.fcsr → s.inMask f) :
    Effect s ((State.writeDest { t with fcsr := f } d v).retireWith (s.destHazard d) .none) :=
  ((q.setFcsr f hf).trans (Quiet.writeDest _ d v (FpDest.legal_congr q.env hd))).body.retireWith _ _
    fun h => State.destHazard_four d h

theorem effects_fpFinish {s t : State} (q : Quiet s t) (f : Word) (d : FpDest) (r : Rounded) (p : Bool)
    (hd : d.legal s) : Effects s (s.fpFinish t f d r p) := by
  unfold State.fpFinish
  split
  · refine effects_ite (fun _ => effects_next ?_) fun _ => effects_next ?_
    · exact ((Quiet.refl s).setFcsr _ fun h => State.inMask_trapFcsr h _).body.raise _
    · exact q.finish _ d _ hd fun h => State.inMask_doneFcsr h _ _
  · exact effects_next ((q.setFpTrap (t.pendingFpTrap || r.conds &&& enablesOf f != 0)).finish _ d _ hd
      fun h => State.inMask_doneFcsr h _ _)

theorem Quiet.spoiled {s t : State} (q : Quiet s t) (d : FpDest) (hd : d.legal s) :
    Effect s ((State.spoilDest { t with fcsr := s.undefinedFcsr } d).retireWith (s.destHazard d) .none) :=
  ((q.setFcsr _ fun h => State.inMask_undefinedFcsr h).trans (Quiet.spoilDest _ d (FpDest.legal_congr q.env hd))).body.retireWith
    _ _ fun h => State.destHazard_four d h

theorem effects_fpUnknown {s t : State} (q : Quiet s t) (d : FpDest) (hd : d.legal s) :
    Effects s (s.fpUnknown t d) := by
  unfold State.fpUnknown
  split
  · exact effects_ite (fun _ => effects_next (((Quiet.refl s).setFcsr _ fun h => State.inMask_withCause h _).body.raise _))
      fun _ => effects_next (q.spoiled d hd)
  · exact effects_ite (fun _ => effects_next (effect_trapUnimplemented s))
      fun _ => effects_next ((q.setFpTrap (t.pendingFpTrap || s.flipCoin slotPend)).spoiled d hd)

theorem effects_fpArith (s : State) (i : Instr) (fmt : FpFmt) (l : List Reg) (d : FpDest) (p : Bool)
    (c : Word → List Dword → Rounded) (hd : d.legal s) : Effects s (s.fpArith i fmt l d p c) := by
  unfold State.fpArith
  refine effects_ite (fun _ => effects_next ((Quiet.refl s).spoiled d hd)) fun _ => ?_
  dsimp only
  have q := Quiet.readFprs s fmt l
  split
  · exact effects_fpUnknown q d hd
  · refine effects_ite (fun _ => effects_next (effect_trapUnimplemented s)) fun _ => ?_
    exact effects_ite (fun _ => effects_next (effect_trapUnimplemented s)) fun _ => effects_fpFinish q _ _ _ _ hd

theorem effects_fpUnary (s : State) (i : Instr) (fmt : FpFmt) (a d : Reg) (f : FpFmt → Word → Dword → Rounded) :
    Effects s (s.fpUnary i fmt a d f) := effects_fpArith _ _ _ _ _ _ _ trivial

theorem effects_fpBinary (s : State) (i : Instr) (fmt : FpFmt) (a b d : Reg)
    (f : FpFmt → Word → Dword → Dword → Rounded) : Effects s (s.fpBinary i fmt a b d f) :=
  effects_fpArith _ _ _ _ _ _ _ trivial

theorem effects_fpTernary (s : State) (i : Instr) (fmt : FpFmt) (r t a d : Reg) (x y : Bool) :
    Effects s (s.fpTernary i fmt r t a d x y) := effects_needCop1x (effects_fpArith _ _ _ _ _ _ _ trivial)

theorem effects_fpCompareOp (s : State) (i : Instr) (fmt : FpFmt) (c : BitVec 4) (t a : Reg) (cc : BitVec 3) :
    Effects s (s.fpCompareOp i fmt c t a cc) :=
  effects_needCop _ (effects_needCc _ fun h => effects_fpArith _ _ _ _ _ _ _ h)

theorem effects_fpToFixed (s : State) (i : Instr) (a b : FpFmt) (x y : Reg) (m : Word → BitVec 2) :
    Effects s (s.fpToFixed i a b x y m) := effects_fpArith _ _ _ _ _ _ _ trivial
theorem effects_fpToFp (s : State) (i : Instr) (a b : FpFmt) (x y : Reg) : Effects s (s.fpToFp i a b x y) :=
  effects_fpArith _ _ _ _ _ _ _ trivial
theorem effects_fpFromFixed (s : State) (i : Instr) (a b : FpFmt) (x y : Reg) : Effects s (s.fpFromFixed i a b x y) :=
  effects_fpArith _ _ _ _ _ _ _ trivial

theorem effects_fpMove (s : State) (i : Instr) (fmt : FpFmt) (a d : Reg) (l : List Dword) (c : Bool) :
    Effects s (s.fpMove i fmt a d l c) := by
  unfold State.fpMove
  refine effects_ite (fun _ => effects_next (Quiet.spoil s d).body.retire) fun _ => ?_
  refine effects_ite (fun _ => effects_next (effect_trapUnimplemented s)) fun _ => ?_
  dsimp only
  have q := Quiet.readFpr s (if c then a else d) fmt
  split
  · exact effects_fpUnknown q _ trivial
  · exact effects_next (q.trans (Quiet.storeFpr _ d fmt _)).body.retire

theorem effects_moveOnFcc (s : State) (rs : Reg) (cc : BitVec 3) (rd : Reg) (tf : Bool) :
    Effects s (s.moveOnFcc rs cc rd tf) :=
  effects_needLevel _ (effects_needCop _ (effects_next (by
    split; exacts [(Body.setGpr _ _ _).retire, (Body.refl s).retire])))

theorem effects_fpBranch (s : State) (i : Instr) (cc : BitVec 3) (l tf : Bool) (o : BitVec 16) :
    Effects s (s.fpBranch i cc l tf o) :=
  effects_needCop _ (effects_needFpLevel _ (effects_needCc _ fun _ =>
    effects_ite (fun _ => effects_next (effect_trapUnimplemented s)) fun _ =>
      effects_notInSlot (effects_next ((Body.refl s).branchIf _ _ _))))

/-! ### Transfers -/

theorem State.loadFprHazard_four {s : State} (n : Reg) (h : 4 ≤ s.env.archLevel) :
    s.loadFprHazard n = Hazards.empty := by
  unfold State.loadFprHazard; rw [if_neg (by omega)]; rfl

theorem effects_loadWordC1 (s : State) (l : List Reg) (a : Dword) (n : Reg) : Effects s (s.loadWordC1 l a n) :=
  effects_access _ _ _ _ _ _ fun _ => (Quiet.loadWordFgr _ _ _).body.retireWith _ _
    fun h => State.loadFprHazard_four n h

theorem effects_loadDwordC1 (s : State) (l : List Reg) (a : Dword) (n : Reg) : Effects s (s.loadDwordC1 l a n) :=
  effects_access _ _ _ _ _ _ fun _ => (Quiet.loadDwordFgr _ _ _).body.retire

theorem effects_storeC1 (s : State) (a : Dword) (c : Nat) (v : Dword) : Effects s (s.storeC1 a c v) :=
  effects_access _ _ _ _ _ _ fun _ => (Body.storeBytes _ _ _).retire

theorem effects_withOffset {s : State} (k : AccessKind) (n : Nat) (b : Reg) (o : BitVec 16) {c : Dword → Out}
    (h : ∀ a, Effects s (c a)) : Effects s (s.withOffset k n b o c) :=
  effects_needAligned _ _ _ (effects_needOffset _ _ (h _))

theorem effects_withIndex {s : State} (k : AccessKind) (n : Nat) (b i : Reg) {c : Dword → Out}
    (h : ∀ a, Effects s (c a)) : Effects s (s.withIndex k n b i c) :=
  effects_needRegion _ _ (effects_needAligned _ _ _ (h _))

theorem effects_moveFrom (s : State) (r : Reg) (v : Dword) : Effects s (s.moveFrom r v) :=
  effects_next ((Body.setGpr _ _ _).retireWith _ _ fun h => State.moveFromHazard_four r h)

theorem State.inMask_ctcFcsr (s : State) (v : Word) : s.inMask (s.ctcFcsr v) := by
  unfold State.ctcFcsr
  dsimp only
  split
  · exact s.inMask_mask v
  · exact State.inMask_withFlags (s.inMask_mask v) _

theorem effects_writeFcsr (s : State) (v : Word) : Effects s (s.writeFcsr v) := by
  have q : Quiet s { s with fcsr := s.ctcFcsr v } := (Quiet.refl s).setFcsr _ fun _ => s.inMask_ctcFcsr v
  refine effects_ite (fun _ => effects_next (q.body.raise _)) fun _ => effects_next (q.body.retireWith _ _ fun h => ?_)
  simp only [Hazards.empty, show ¬ s.env.archLevel < 4 by omega, decide_false]

theorem Quiet.setFcr0 (s : State) (v : BitVec 16) : Quiet s { s with fcr0 := v } :=
  ⟨rfl, rfl, rfl, rfl, rfl, rfl, id, rfl, rfl, rfl, rfl⟩

end Sys2Proof.Machine
end

