-- ==== Sys2Proof/Laws/Complete.lean ====
section
/-! SUPPORT. Which instructions go through, and what they then leave unchanged: one law for each test that comes before an
effect, one frame for each shared operation, and the completion of the operations the meanings are built from. -/

namespace Sys2Proof.Machine

/-! ### Tests that are passed -/

theorem State.needLevel_pass {s : State} {n : Nat} (k : Out) (h : n ≤ s.env.archLevel) : s.needLevel n k = k :=
  if_neg (by omega)

theorem State.needLevel_fail {s : State} {n : Nat} (k : Out) (h : s.env.archLevel < n) :
    s.needLevel n k = .next (s.raise .reservedInstruction) := if_pos h

theorem State.needFpLevel_pass {s : State} {n : Nat} (k : Out) (h : n ≤ s.env.archLevel) : s.needFpLevel n k = k :=
  if_neg (by omega)

theorem State.needFpLevel_fail {s : State} {n : Nat} (k : Out) (h : s.env.archLevel < n) :
    s.needFpLevel n k = .next s.raiseReservedFpu := if_pos h

theorem State.needCop_pass {s : State} {z : BitVec 2} (k : Out) (h : s.usable z = true) : s.needCop z k = k := if_pos h

theorem State.needCop_fail {s : State} {z : BitVec 2} (k : Out) (h : s.usable z = false) :
    s.needCop z k = .next (s.raise (.coprocessorUnusable z)) := by simp [State.needCop, h]

theorem State.wasCop3_pass {s : State} {a b : Nat} (k : Out) (h : b ≤ s.env.archLevel) : s.wasCop3 a b k = k := if_pos h

theorem State.needAligned_pass {s : State} {k : AccessKind} {n : Nat} {a : Dword} (c : Out) (h : alignedAt n a) :
    s.needAligned k n a c = c := if_pos h

theorem State.needAligned_fail {s : State} {k : AccessKind} {n : Nat} {a : Dword} (c : Out) (h : ¬ alignedAt n a) :
    s.needAligned k n a c = .next (s.raise (.addressError k a)) := if_neg h

theorem State.needOffset_pass {s : State} {n : Nat} {o : BitVec 16} (c : Out) (h : s.offsetOk n o) :
    s.needOffset n o c = c := if_neg fun ⟨a, b⟩ => b (h a)

theorem State.needRegion_pass {s : State} {a : Dword} {b : Reg} (c : Out) (h : s.regionOk a b) :
    s.needRegion a b c = c := by
  unfold State.needRegion
  refine if_neg ?_
  cases e : s.env.is64
  · simp
  · simp [h e]

theorem State.notInSlot_pass {s : State} (k : Out) (h : s.notInTakenSlot) : s.notInSlot k = k := by
  unfold State.notInSlot
  split
  · next t e => exact absurd e (h t)
  · rfl

theorem State.needHiLo_pass {s : State} {a b : Bool} (k : Out) (h : s.mayWriteHiLo a b) : s.needHiLo a b k = k := by
  unfold State.needHiLo; rw [h.1, h.2]; rfl

theorem State.needHiLo_fail {s : State} {a b : Bool} (k : Out) (h : ¬ s.mayWriteHiLo a b) :
    s.needHiLo a b k = .refused .hiLoReadWrite := by
  refine if_pos ?_
  simp only [State.mayWriteHiLo, not_and_or, Bool.not_eq_false] at h
  simpa using h

theorem State.needCc_pass {s : State} {cc : BitVec 3} (k : Out) (h : s.env.archLevel < 4 → cc = 0) : s.needCc cc k = k :=
  if_neg fun ⟨a, b⟩ => b (h a)

theorem State.orRaise_ok {s : State} {α : Type} {r : Except Cause α} {x : α} (k : α → Out) (h : r = .ok x) :
    s.orRaise r k = k x := by rw [h]; rfl

theorem State.orRaise_error {s : State} {α : Type} {r : Except Cause α} {c : Cause} (k : α → Out) (h : r = .error c) :
    s.orRaise r k = .next (s.raise c) := by rw [h]; rfl

/-! ### Instructions of a level -/

theorem leveled {s : State} {n : Nat} {k : Out} {p : Prop} (h : n ≤ s.env.archLevel → s.needLevel n k = k → p) :
    Leveled s n (s.needLevel n k) p :=
  ⟨fun l => State.needLevel_fail k l, fun l => h l (State.needLevel_pass k l)⟩

theorem fpLeveled {s : State} {n : Nat} {k : Out} {p : Prop}
    (h : n ≤ s.env.archLevel → s.needCop 1 (s.needFpLevel n k) = k → p) :
    FpLeveled s n (s.needCop 1 (s.needFpLevel n k)) p :=
  ⟨fun u => State.needCop_fail _ u, fun u l => by rw [State.needCop_pass _ u, State.needFpLevel_fail k l],
    fun u l => h l (by rw [State.needCop_pass _ u, State.needFpLevel_pass k l])⟩

theorem fpLeveled_zero {s : State} {k : Out} {p : Prop} (h : s.needCop 1 k = k → p) : FpLeveled s 0 (s.needCop 1 k) p :=
  ⟨fun u => State.needCop_fail _ u, fun _ l => absurd l (Nat.not_lt_zero _), fun u _ => h (State.needCop_pass _ u)⟩

theorem cop1xLeveled {s : State} {k : Out} {p : Prop} (h : s.needCop1x k = k → p) : Cop1xLeveled s (s.needCop1x k) p := by
  intro l
  have e : s.needCop1x k = s.needCop 1 k := State.wasCop3_pass _ l
  exact ⟨fun u => e.trans (State.needCop_fail _ u), fun u => h (e.trans (State.needCop_pass _ u))⟩

/-! ### Frames -/

theorem Frame.refl (s : State) (w : List Part) : Frame s s w := by constructor <;> simp

theorem Frame.mono {s t : State} {v w : List Part} (h : Frame s t v) (hs : v ⊆ w) : Frame s t w where
  gpr r m := h.gpr r fun k => m (hs k)
  hi m := h.hi fun k => m (hs k)
  lo m := h.lo fun k => m (hs k)
  pendingHiLo m := h.pendingHiLo fun k => m (hs k)
  link m := h.link fun k => m (hs k)
  fgrLo r m := h.fgrLo r fun k => m (hs k)
  fgrHi r m := h.fgrHi r fun k => m (hs k)
  tag r m := h.tag r fun k => m (hs k)
  fcr0 m := h.fcr0 fun k => m (hs k)
  fcsr m := h.fcsr fun k => m (hs k)
  fpTrap m := h.fpTrap fun k => m (hs k)
  cop2 r m n := h.cop2 r (fun k => m (hs k)) fun k => n (hs k)
  byte a m := h.byte a fun k => m (hs k)
  cop2Ctl m := h.cop2Ctl fun k => m (hs k)
  cocs := h.cocs
  exc := h.exc
  mode := h.mode
  env := h.env

theorem Frame.trans {s t u : State} {w : List Part} (h : Frame s t w) (k : Frame t u w) : Frame s u w where
  gpr r m := (k.gpr r m).trans (h.gpr r m)
  hi m := (k.hi m).trans (h.hi m)
  lo m := (k.lo m).trans (h.lo m)
  pendingHiLo m := (k.pendingHiLo m).trans (h.pendingHiLo m)
  link m := ⟨(k.link m).1.trans (h.link m).1, (k.link m).2.trans (h.link m).2⟩
  fgrLo r m := (k.fgrLo r m).trans (h.fgrLo r m)
  fgrHi r m := (k.fgrHi r m).trans (h.fgrHi r m)
  tag r m := (k.tag r m).trans (h.tag r m)
  fcr0 m := (k.fcr0 m).trans (h.fcr0 m)
  fcsr m := (k.fcsr m).trans (h.fcsr m)
  fpTrap m := (k.fpTrap m).trans (h.fpTrap m)
  cop2 r m n := (k.cop2 r m n).trans (h.cop2 r m n)
  byte a m := (k.byte a m).trans (h.byte a m)
  cop2Ctl m := ⟨(k.cop2Ctl m).1.trans (h.cop2Ctl m).1, (k.cop2Ctl m).2.trans (h.cop2Ctl m).2⟩
  cocs := ⟨k.cocs.1.trans h.cocs.1, k.cocs.2.trans h.cocs.2⟩
  exc := ⟨k.exc.1.trans h.exc.1, k.exc.2.1.trans h.exc.2.1, k.exc.2.2.1.trans h.exc.2.2.1,
    k.exc.2.2.2.trans h.exc.2.2.2⟩
  mode := ⟨k.mode.1.trans h.mode.1, k.mode.2.1.trans h.mode.2.1, k.mode.2.2.trans h.mode.2.2⟩
  env := ⟨k.env.1.trans h.env.1, k.env.2.trans h.env.2⟩

theorem Frame.retireWith {s u : State} {w : List Part} (h : Frame s u w) (hz : Hazards) (mf : MfEntry) :
    Frame s (u.retireWith hz mf) w := h.trans (by constructor <;> simp)

theorem Frame.retire {s u : State} {w : List Part} (h : Frame s u w) : Frame s u.retire w := h.retireWith _ _

theorem Frame.setGpr (s : State) (r : Reg) (v : Dword) : Frame s (s.setGpr r v) [.gpr r] := by
  constructor <;> simp
  intro q hq; split
  · rfl
  · exact regGet_regSet_other _ _ _ _ hq

theorem Frame.noteTypes {s u : State} {w : List Part} (h : Frame s u w) (l : List (Nat × AccessType)) :
    Frame s (u.noteTypes l) w := h.trans (by constructor <;> simp)

theorem Frame.setFpTrap (s : State) (b : Bool) : Frame s { s with pendingFpTrap := b } [.fpTrap] := by
  constructor <;> simp

theorem Frame.setCop2 (s : State) (c : Cop2State) : Frame s (s.setCop2 c) [.cop2Unit] := by constructor <;> simp

theorem Frame.setHiLo (s : State) (hi lo : Dword) : Frame s (s.setHiLo hi lo) [.hi, .lo] := by constructor <;> simp

theorem Frame.storeBytes (s : State) (ps : List Nat) (v : Dword) : Frame s (s.storeBytes ps v) (ps.map .byte) := by
  constructor <;> simp
  exact fun a h => State.storeBytes_other s ps v a h

theorem Frame.setTag (s : State) (n : Reg) (t : FprTag) : Frame s (s.setTag n t) [.tag (s.tagReg n)] := by
  constructor <;> simp [State.setTag]
  exact fun r h => regGet_regSet_other _ _ _ _ h

theorem Frame.setLow (s : State) (n : Reg) (x : Word) : Frame s (s.setLow n x) [.fgrLo n] := by
  constructor <;> simp [State.setLow]
  exact fun r h => regGet_regSet_other _ _ _ _ h

theorem Frame.setHigh (s : State) (n : Reg) (x : Word) : Frame s (s.setHigh n x) [.fgrHi n] := by
  constructor <;> simp [State.setHigh]
  exact fun r h => regGet_regSet_other _ _ _ _ h

theorem Frame.setFcsr (s : State) (f : Word) : Frame s { s with fcsr := f } [.fcsr] := by constructor <;> simp

theorem State.fgr64_congr {s t : State} (e : t.env = s.env) (r : t.statusFR = s.statusFR) : t.fgr64 = s.fgr64 := by
  unfold State.fgr64; rw [e, r]

theorem Frame.fgr64 {s t : State} {w : List Part} (h : Frame s t w) : t.fgr64 = s.fgr64 :=
  State.fgr64_congr h.env.1 h.mode.2.2

theorem State.tagReg_congr {s t : State} (e : t.fgr64 = s.fgr64) (n : Reg) : t.tagReg n = s.tagReg n := by
  unfold State.tagReg; rw [e]

theorem Frame.setPair (s : State) (n : Reg) (v : Dword) : Frame s (s.setPair n v) (s.fprParts n) := by
  unfold State.setPair State.fprParts
  split
  · exact ((Frame.setLow s n _).mono (by simp)).trans ((Frame.setHigh _ n _).mono (by simp))
  · exact ((Frame.setLow s _ _).mono (by simp)).trans ((Frame.setLow _ _ _).mono (by simp))

theorem State.tag_mem_fprParts (s : State) (n : Reg) : Part.tag (s.tagReg n) ∈ s.fprParts n := by
  unfold State.tagReg State.fprParts; split <;> simp

theorem State.tag_mem_wordParts (s : State) (n : Reg) : Part.tag (s.tagReg n) ∈ s.wordParts n := by
  unfold State.tagReg State.wordParts; split <;> simp

theorem Frame.thenTag {s u : State} {w : List Part} (h : Frame s u w) (n : Reg) (t : FprTag)
    (m : Part.tag (s.tagReg n) ∈ w) : Frame s (u.setTag n t) w := by
  refine h.trans ((Frame.setTag u n t).mono ?_)
  rw [State.tagReg_congr h.fgr64]; simpa using m

theorem Frame.spoil (s : State) (n : Reg) : Frame s (s.spoil n) (s.fprParts n) :=
  (Frame.setPair s n _).thenTag n _ (s.tag_mem_fprParts n)

theorem Frame.loadWordFgr (s : State) (n : Reg) (x : Word) : Frame s (s.loadWordFgr n x) (s.wordParts n) := by
  refine Frame.thenTag ?_ n _ (s.tag_mem_wordParts n)
  unfold State.wordParts
  split
  · exact ((Frame.setLow s n x).mono (by simp)).trans ((Frame.setHigh _ n _).mono (by simp))
  · exact (Frame.setLow s n x).mono (by simp)

theorem Frame.loadDwordFgr (s : State) (n : Reg) (v : Dword) : Frame s (s.loadDwordFgr n v) (s.fprParts n) := by
  refine Frame.thenTag ?_ n _ (s.tag_mem_fprParts n)
  split
  · exact Frame.setPair s n _
  · exact Frame.setPair s n _

/-- The even and the odd register of a pair: an even register is its own. -/
theorem evenOf_of_even {n : Reg} (h : n.getLsbD 0 = false) : evenOf n = n := by
  unfold evenOf; revert h; revert n; decide

theorem oddOf_ne_evenOf (n : Reg) : oddOf n ≠ evenOf n := by unfold oddOf evenOf; revert n; decide

theorem State.even_of_named {s : State} {n : Reg} (h : s.badFpr [n] = false) (g : s.fgr64 = false) : evenOf n = n :=
  evenOf_of_even (by simpa [State.badFpr, g] using h)

theorem Frame.storeFpr (s : State) (n : Reg) (f : FpFmt) (v : Dword) (h : s.badFpr [n] = false) :
    Frame s (s.storeFpr n f v) (s.fprParts n) := by
  refine Frame.thenTag ?_ n _ (s.tag_mem_fprParts n)
  split
  · cases g : s.fgr64
    · simp only [Bool.false_eq_true, if_false]
      unfold State.fprParts
      rw [g, State.even_of_named h g]
      exact ((Frame.setLow s n _).mono (by simp)).trans ((Frame.setLow _ _ _).mono (by simp))
    · simp only [if_true]
      unfold State.fprParts
      rw [g]
      exact ((Frame.setLow s n _).mono (by simp)).trans ((Frame.setHigh _ n _).mono (by simp))
  · exact Frame.setPair s n v

/-- A readable source changes at most its own format state. -/
theorem Frame.readFpr {s : State} {n : Reg} {f : FpFmt} {v : Dword} (h : (s.readFpr n f).1 = some v) :
    Frame s (s.readFpr n f).2 (s.sourceTags [n]) := by
  unfold State.readFpr at *
  unfold State.sourceTags
  split at h
  · exact (Frame.setTag s n _).mono (by simp)
  · split at h
    · next e => simp only [e, if_true]; exact Frame.refl _ _
    · simp at h
  · simp at h

theorem Frame.sourceTags {s t : State} {w : List Part} (h : Frame s t w) (l : List Reg) :
    t.sourceTags l = s.sourceTags l := by
  unfold State.sourceTags
  exact List.map_congr_left fun n _ => by rw [State.tagReg_congr h.fgr64]

/-- Readable sources change at most their own format states. -/
theorem Frame.readFprs {s : State} {f : FpFmt} {l : List Reg} {vs : List Dword} (h : (s.readFprs f l).1 = some vs) :
    Frame s (s.readFprs f l).2 (s.sourceTags l) := by
  induction l generalizing s vs with
  | nil => exact Frame.refl _ _
  | cons n l ih =>
    rw [State.readFprs] at h ⊢
    simp only at h ⊢
    split at h
    · next v us hv hus =>
      have one := Frame.readFpr hv
      have rest := ih hus
      rw [one.sourceTags] at rest
      exact (one.mono (by simp [State.sourceTags])).trans (rest.mono (by simp [State.sourceTags]))
    · simp at h

/-! ### Completion -/

/-- The part of a state that an instruction reads when it ends. -/
structure Before (s u : State) : Prop where
  pc : u.pc = s.pc
  delay : u.delay = s.delay
  recentMF : u.recentMF = s.recentMF

theorem Before.refl (s : State) : Before s s := ⟨rfl, rfl, rfl⟩

theorem completes_retireWith {s u : State} {w : List Part} {post : State → Prop} (f : Frame s u w) (b : Before s u)
    (hz : Hazards) (mf : MfEntry) (h : post (u.retireWith hz mf)) :
    Completes s (.next (u.retireWith hz mf)) w post :=
  ⟨_, rfl, f.retireWith _ _, ⟨State.nextPc_congr f.env.1 b.pc b.delay, rfl, rfl, by rw [← b.recentMF]; rfl⟩, h⟩

theorem completes_retire {s u : State} {w : List Part} {post : State → Prop} (f : Frame s u w) (b : Before s u)
    (h : post u.retire) : Completes s (.next u.retire) w post := completes_retireWith f b _ _ h

theorem completes_nothing (s : State) : Completes s (.next s.retire) [] fun _ => True :=
  completes_retire (Frame.refl _ _) (Before.refl _) trivial

theorem Completes.mono {s : State} {o : Out} {v w : List Part} {p q : State → Prop} (h : Completes s o v p) (hw : v ⊆ w)
    (hp : ∀ t, p t → q t) : Completes s o w q :=
  let ⟨t, e, f, a, k⟩ := h; ⟨t, e, f.mono hw, a, hp t k⟩

theorem Before.setGpr (s : State) (r : Reg) (v : Dword) : Before s (s.setGpr r v) := by constructor <;> simp

theorem regGet_setGpr (s : State) (r : Reg) (v : Dword) :
    regGet (s.setGpr r v).gpr r = if r = 0 then regGet s.gpr 0 else s.norm v := by
  rw [State.setGpr_gpr]
  by_cases h : r = 0
  · rw [if_pos h, if_pos h, h]
  · rw [if_neg h, if_neg h, regGet_regSet_same]

/-- Writing a general register and ending the instruction. -/
theorem writesGpr_retireWith (s : State) (r : Reg) (v : Dword) (hz : Hazards) (mf : MfEntry) :
    WritesGpr s (.next ((s.setGpr r v).retireWith hz mf)) r v :=
  completes_retireWith (Frame.setGpr s r v) (Before.setGpr s r v) hz mf (by simpa using regGet_setGpr s r v)

theorem writesGpr_writeGpr (s : State) (r : Reg) (v : Dword) : WritesGpr s (s.writeGpr r v) r v :=
  writesGpr_retireWith s r v _ _

theorem State.resultAt_pass {s : State} {l : List Reg} (slot : Nat) (v : Dword) (h : s.movedGpr l = false) :
    s.resultAt slot l v = v := by simp [State.resultAt, h]

theorem State.result_pass {s : State} {l : List Reg} (v : Dword) (h : s.movedGpr l = false) : s.result l v = v :=
  State.resultAt_pass _ v h

/-- With no move from the FPU just before, a source reads as the register, but register 0 as zero. -/
theorem State.readGpr_pass {s : State} {r : Reg} (slot : Nat) (h : s.movedGpr [r] = false) :
    s.readGpr r slot = if r = 0 then 0 else regGet s.gpr r := by
  unfold State.readGpr
  by_cases z : r = 0
  · simp [z]
  · have m : s.hazards.moveGpr ≠ some r := fun e => by simp [State.movedGpr, e] at h; exact z h
    rw [if_neg z, if_neg m, if_neg z]

/-- A result written, of an instruction with these sources. -/
theorem writesResult_retireWith (s : State) (l : List Reg) (r : Reg) (v : Dword) (hz : Hazards) (mf : MfEntry) :
    WritesResult s (.next ((s.setGpr r (s.result l v)).retireWith hz mf)) l r v :=
  ⟨_, fun h => State.result_pass v h, writesGpr_retireWith s r _ hz mf⟩

theorem writesResult_writeResult (s : State) (l : List Reg) (r : Reg) (v : Dword) :
    WritesResult s (s.writeResult l r v) l r v := writesResult_retireWith s l r v _ _

theorem State.wordResult_pass {s : State} {l : List Dword} (v : Dword) (h : l.any s.notWord = false) :
    s.wordResult l v = v := by simp [State.wordResult, h]

theorem overflows_iff (n : Nat) (i : Int) : overflows n i = false ↔ fits n i := by
  simp [overflows, fits]

/-- Noting access types leaves what an instruction completes with. -/
theorem Completes.noteTypes {s u : State} {w : List Part} {post : State → Prop} (h : Completes s (.next u) w post)
    (l : List (Nat × AccessType)) (hp : post u → post (u.noteTypes l)) :
    Completes s (.next (u.noteTypes l)) w post := by
  obtain ⟨v, e, f, a, k⟩ := h
  cases e
  exact ⟨_, rfl, f.noteTypes l, ⟨a.pc, a.delay, a.afterBranch, a.recentMF⟩, hp k⟩

/-- A data access that goes through is what `f` makes of its bytes. -/
theorem completes_access {s : State} {k : AccessKind} {a : Dword} {back n : Nat} {ps : List Nat} {w : List Part}
    {post : State → Prop} (f : List Nat → State) (h : s.Reaches k a back n ps) (hf : Completes s (.next (f ps)) w post)
    (hp : ∀ l, post (f ps) → post ((f ps).noteTypes l)) : Completes s (s.access k a back n f) w post := by
  obtain ⟨l, e, rfl⟩ := h
  unfold State.access
  rw [e]
  exact hf.noteTypes l (hp l)

/-- A data access that is stopped. -/
theorem access_error {s : State} {k : AccessKind} {a : Dword} {back n : Nat} (f : List Nat → State) :
    (∀ c, s.dataBytes k a back n = .error (.raised c) → Raises s (s.access k a back n f) c) ∧
    ∀ r, s.dataBytes k a back n = .error (.refused r) → s.access k a back n f = .refused r := by
  unfold State.access
  exact ⟨fun c e => by rw [e]; rfl, fun r e => by rw [e]⟩

/-- An aligned load that goes through. -/
theorem writesResult_loadAligned {s : State} {n : Nat} {base rt : Reg} {offset : BitVec 16} {ps : List Nat}
    (ext : Dword → Dword) (ha : alignedAt n (s.effAddr base offset)) (ho : s.offsetOk n offset)
    (hr : s.Reaches .load (s.effAddr base offset) 0 (2 ^ n) ps) :
    WritesResult s (s.loadAligned n base rt offset ext) [base] rt (ext (s.memValue ps)) := by
  unfold State.loadAligned
  simp only [State.needAligned_pass _ ha, State.needOffset_pass _ ho]
  exact ⟨_, fun h => State.result_pass _ h, completes_access _ hr (writesGpr_retireWith _ _ _ _ _) fun _ h => h⟩

/-- Translation keeps the low three bits of the address (20_memory.md R110). -/
theorem State.translateFor_low {s : State} {k : AccessKind} {a v : Dword} {pa : Nat} {t : AccessType}
    (h : s.translateFor k a v = .ok (pa, t)) : pa % 8 = v.toNat % 8 := by
  have hn : s.addrNat v % 8 = v.toNat % 8 := by unfold State.addrNat; split <;> omega
  have hp : ∀ d, s.physical d (s.addrNat v) % 8 = v.toNat % 8 := fun d => by unfold State.physical; omega
  unfold State.translateFor at h
  dsimp only at h
  split at h
  · split at h
    · split at h
      · simp at h
      · simp only [Except.ok.injEq, Prod.mk.injEq] at h
        rw [← h.1, hp]
    · simp at h
  · split at h
    · simp at h
    · simp only [Except.ok.injEq, Prod.mk.injEq] at h
      rw [← h.1, hp]

theorem State.flip_injective (s : State) : Function.Injective s.flip := by
  intro p q e
  unfold State.flip at e
  split at e
  · have := congrArg (fun x => x ^^^ (if s.env.is64 = true then 7 else 3)) e
    simpa only [Nat.xor_assoc, Nat.xor_self, Nat.xor_zero] using this
  · exact e

/-- What the bytes of one memory element are. -/
theorem State.elementBytes_eq {s : State} {k : AccessKind} {a v : Dword} {back n : Nat} {l : List (Nat × AccessType)}
    (h : s.elementBytes k a v back n = .ok l) :
    ∃ pa, pa % 8 = v.toNat % 8 ∧ l.map Prod.fst = ((List.range n).map fun i => pa - back + i).map s.flip := by
  unfold State.elementBytes at h
  split at h
  · simp at h
  · next pa t e =>
    simp only [Except.ok.injEq] at h
    subst h
    exact ⟨pa, State.translateFor_low e, by simp⟩

/-- The physical bytes of an access are those of one range of addresses, or, for the doubleword of a 32-bit processor, of
two ranges of four whose addresses differ in their low three bits (20_memory.md R116). -/
theorem State.physBytes_eq {s : State} {k : AccessKind} {a : Dword} {back n : Nat} {l : List (Nat × AccessType)}
    (h : s.physBytes k a back n = .ok l) :
    (∃ pa, l.map Prod.fst = ((List.range n).map fun i => pa - back + i).map s.flip) ∨
    (n = 8 ∧ ∃ p q, q % 8 = (p + 4) % 8 ∧
      l.map Prod.fst = ((List.range 4).map (p + ·) ++ (List.range 4).map (q + ·)).map s.flip) := by
  unfold State.physBytes at h
  split at h
  · next c =>
    simp only [Bool.and_eq_true, Bool.not_eq_true', beq_iff_eq] at c
    split at h
    · simp at h
    · simp at h
    · next m u hm hu =>
      simp only [Except.ok.injEq] at h
      subst h
      obtain ⟨p, hp, em⟩ := State.elementBytes_eq hm
      obtain ⟨q, hq, eu⟩ := State.elementBytes_eq hu
      refine .inr ⟨c.2, p, q, ?_, by simp [em, eu]⟩
      have hw : (s.norm (a + 4)).toNat % 8 = (a.toNat + 4) % 8 := by
        have e : s.norm (a + 4) = ((a + 4).setWidth 32).signExtend 64 := by simp [State.norm, c.1.1]
        have : (((a + 4).setWidth 32).signExtend 64).setWidth 3 = (a + 4).setWidth 3 := by
          ext i hi
          simp only [BitVec.getElem_setWidth, BitVec.getLsbD_signExtend, BitVec.getLsbD_setWidth]
          simp [show i < 64 by omega, show i < 32 by omega]
        have := congrArg BitVec.toNat this
        simp only [BitVec.toNat_setWidth, BitVec.toNat_add] at this
        rw [e]
        simp at this ⊢
        omega
      omega
  · obtain ⟨pa, _, e⟩ := State.elementBytes_eq h
    exact .inl ⟨pa, e⟩

/-- The physical bytes of an access are distinct and as many as it has. -/
theorem State.dataBytes_nodup {s : State} {k : AccessKind} {a : Dword} {back n : Nat} {ps : List Nat}
    (h : s.Reaches k a back n ps) : ps.Nodup ∧ ps.length = n := by
  obtain ⟨l, h, rfl⟩ := h
  unfold State.dataBytes at h
  split at h
  · simp at h
  · next m hm =>
    split at h
    · simp at h
    split at h
    · simp at h
    · injection h with h
      subst h
      obtain ⟨pa, e⟩ | ⟨rfl, p, q, hq, e⟩ := State.physBytes_eq hm
      · rw [e]
        refine ⟨((List.nodup_range).map_on ?_).map s.flip_injective, by simp⟩
        intro i _ j _ e
        omega
      · rw [e]
        refine ⟨List.Nodup.map s.flip_injective ?_, by simp⟩
        rw [List.nodup_append]
        refine ⟨(List.nodup_range).map_on (fun i _ j _ e => by omega), (List.nodup_range).map_on (fun i _ j _ e => by omega), ?_⟩
        intro x hx y hy
        simp only [List.mem_map, List.mem_range] at hx hy
        omega

/-- A store that goes through puts the bytes where the access reached. -/
theorem completes_storeBytes {s : State} {k : AccessKind} {a : Dword} {back n : Nat} {ps : List Nat} (v : Dword)
    (h : s.Reaches k a back n ps) :
    Completes s (.next (s.storeBytes ps v).retire) (ps.map .byte) fun t =>
      ps.map (memRead t.mem) = splitBytes s.bigEndianCPU n v := by
  obtain ⟨hn, hl⟩ := State.dataBytes_nodup h
  refine completes_retire (Frame.storeBytes s ps v) ⟨rfl, rfl, rfl⟩ ?_
  show ps.map (memRead (memWriteAll s.mem (ps.zip (splitBytes s.bigEndianCPU ps.length v)))) = _
  rw [map_memRead_memWriteAll _ _ _ hn (by simp), hl]

/-- A branch outside a taken slot. -/
theorem branches_branchIf {s u : State} {w : List Part} {post : State → Prop} (f : Frame s u w) (b : Before s u)
    (c l : Bool) (o : BitVec 16) (h : post (u.branchIf c l o)) :
    Branches s (.next (u.branchIf c l o)) w c l (s.branchTarget o) post := by
  have hp : u.pcPlus4 = s.pcPlus4 := State.pcPlus4_congr f.env.1 b.pc
  have ht : u.branchTarget o = s.branchTarget o := by
    unfold State.branchTarget; rw [hp, State.norm_congr f.env.1]
  refine ⟨_, rfl, ?_, ?_, ?_, ?_, h⟩
  · unfold State.branchIf
    split
    · exact f.trans (by constructor <;> simp)
    · split
      · exact f.trans (by constructor <;> simp)
      · exact f.trans (by constructor <;> simp)
  · unfold State.branchIf
    split
    · exact hp
    · split
      · exact hp
      · exact hp
  · unfold State.branchIf
    cases c <;> cases l <;> simp [ht]
  · unfold State.branchIf
    cases c <;> cases l <;> rfl

/-- A jump outside a taken slot. -/
theorem branches_takeBranch {s u : State} {w : List Part} {post : State → Prop} (f : Frame s u w) (b : Before s u)
    (t : Dword) (h : post (u.takeBranch t)) : Branches s (.next (u.takeBranch t)) w true false t post :=
  ⟨_, rfl, f.trans (by constructor <;> simp), State.pcPlus4_congr f.env.1 b.pc, rfl, rfl, h⟩

/-! ### The FPU -/

theorem Before.of_quiet {s u : State} (q : Quiet s u) (h : u.recentMF = s.recentMF) : Before s u := ⟨q.pc, q.delay, h⟩

@[simp] theorem State.readFpr_recentMF (s : State) (n : Reg) (f : FpFmt) : (s.readFpr n f).2.recentMF = s.recentMF := by
  unfold State.readFpr; split
  · simp
  · split <;> simp
  · rfl

@[simp] theorem State.readFprs_recentMF (s : State) (f : FpFmt) (l : List Reg) :
    (s.readFprs f l).2.recentMF = s.recentMF := by
  induction l generalizing s with
  | nil => rfl
  | cons n l ih => rw [State.readFprs]; simp [ih]

theorem State.tagOf_setTag (s : State) (n : Reg) (t : FprTag) : (s.setTag n t).tagOf n = t := by
  show regGet (regSet s.fprTag (s.tagReg n) t) (s.tagReg n) = t
  simp

/-- The format state of a register that a result was put into. -/
theorem State.tagOf_storeFpr (s : State) (n : Reg) (f : FpFmt) (v : Dword) : (s.storeFpr n f v).tagOf n = .value f :=
  State.tagOf_setTag _ n _

/-- With no move just before, an FPR reads as the pair of its FGRs, or its FGR. -/
theorem State.pairBits_eq {s : State} (h : s.hazards.moveFpr = []) (n : Reg) : s.pairBits n = s.rawPair n := by
  unfold State.pairBits State.rawPair State.fgrHigh State.fgrLow; simp [h]

theorem State.fgrLow_eq {s : State} (h : s.hazards.moveFpr = []) (n : Reg) : s.fgrLow n = regGet s.fgrLo n := by
  unfold State.fgrLow; simp [h]

theorem append_halves (v : Dword) : (v.extractLsb' 32 32 ++ lowWord v : BitVec (32 + 32)) = v := by
  refine BitVec.eq_of_getLsbD_eq fun i hi => ?_
  simp only [lowWord, BitVec.getLsbD_append, BitVec.getLsbD_extractLsb']
  split
  · next h => simp [h]
  · next h =>
    have : i - 32 < 32 := by omega
    simp [this, show 32 + (i - 32) = i by omega]

/-- What a pair holds after it was written. -/
theorem State.rawPair_setPair (s : State) (n : Reg) (v : Dword) : (s.setPair n v).rawPair n = v := by
  have g : (s.setPair n v).fgr64 = s.fgr64 := (Frame.setPair s n v).fgr64
  unfold State.rawPair
  rw [g]
  unfold State.setPair
  split
  · show (regGet (regSet s.fgrHi n (v.extractLsb' 32 32)) n ++ regGet (regSet s.fgrLo n (lowWord v)) n : BitVec (32 + 32)) = v
    rw [regGet_regSet_same, regGet_regSet_same]
    exact append_halves v
  · show (regGet (regSet (s.setLow (evenOf n) (lowWord v)).fgrLo (oddOf n) (v.extractLsb' 32 32)) (oddOf n) ++
      regGet (regSet (s.setLow (evenOf n) (lowWord v)).fgrLo (oddOf n) (v.extractLsb' 32 32)) (evenOf n) : BitVec (32 + 32)) = v
    rw [regGet_regSet_same, regGet_regSet_other _ _ _ _ (oddOf_ne_evenOf n).symm]
    show (v.extractLsb' 32 32 ++ regGet (regSet s.fgrLo (evenOf n) (lowWord v)) (evenOf n) : BitVec (32 + 32)) = v
    rw [regGet_regSet_same]
    exact append_halves v

/-- The bits of a format that a state with these register files has. -/
theorem State.fprBits_storeFpr {s u : State} {n : Reg} {f : FpFmt} {v : Dword} (h : s.badFpr [n] = false)
    (el : u.fgrLo = (s.storeFpr n f v).fgrLo) (eh : u.fgrHi = (s.storeFpr n f v).fgrHi) (g : u.fgr64 = s.fgr64)
    (m : u.hazards.moveFpr = []) : u.fprBits n f = if isWordFmt f then zextWord (lowWord v) else v := by
  unfold State.fprBits
  split
  · next w =>
    rw [State.fgrLow_eq m, el]
    unfold State.storeFpr
    rw [if_pos w]
    show zextWord (regGet (if s.fgr64 then _ else _ : State).fgrLo n) = _
    cases k : s.fgr64
    · have : n ≠ oddOf n := by
        have e := State.even_of_named h k
        exact fun x => oddOf_ne_evenOf n (x.symm.trans e.symm)
      rw [if_neg (by decide)]
      show zextWord (regGet (regSet (regSet s.fgrLo n (lowWord v)) (oddOf n) _) n) = _
      rw [regGet_regSet_other _ _ _ _ this, regGet_regSet_same]
    · rw [if_pos rfl]
      show zextWord (regGet (regSet s.fgrLo n (lowWord v)) n) = _
      rw [regGet_regSet_same]
  · next w =>
    rw [State.pairBits_eq m]
    have e := State.rawPair_setPair s n v
    have g2 : (s.setPair n v).fgr64 = s.fgr64 := (Frame.setPair s n v).fgr64
    unfold State.storeFpr at el eh
    rw [if_neg w] at el eh
    unfold State.rawPair at e ⊢
    rw [g, el, eh, ← g2]
    exact e

theorem or_bne_zero (a : Bool) (x : BitVec 5) : (a || x != 0) = (a || decide (x ≠ 0)) := by
  congr 1
  by_cases h : x = 0
  · subst h; rfl
  · rw [decide_eq_true h, bne_iff_ne.mpr h]

/-- A result written to its destination and the end of the instruction, from a state `u` that differs from `s` in the parts
`w` and in the FCSR. -/
theorem completes_writeDest {s u : State} {w : List Part} (d : FpDest) (v : Dword) (cause : BitVec 6) (flags : BitVec 5)
    (hn : s.badFpr d.regs = false) (f : Frame s u (.fcsr :: w)) (b : Before s u)
    (hu : u.fcsr = withCause (withFlags s.fcsr flags) cause) :
    Completes s (.next ((u.writeDest d v).retireWith (s.destHazard d) .none)) (s.destParts d ++ w) fun t =>
      Delivered s t d v cause flags ∧ t.pendingFpTrap = u.pendingFpTrap := by
  cases d with
  | cond cc =>
    refine completes_retireWith (u := u.writeDest (.cond cc) v) ?_ ⟨b.pc, b.delay, b.recentMF⟩ _ _ ⟨?_, rfl⟩
    · exact (f.mono (by simp [State.destParts])).trans ((Frame.setFcsr _ _).mono (by simp [State.destParts]))
    · show withFcc u.fcsr cc (v.getLsbD 0) = _
      rw [hu]
  | fpr n fm =>
    have fu : Frame s u (s.destParts (.fpr n fm) ++ w) := f.mono (by simp [State.destParts])
    have hnu : u.badFpr [n] = false := by rw [State.badFpr, fu.fgr64]; exact hn
    refine completes_retireWith (u := u.storeFpr n fm v) ?_ ?_ _ _ ⟨⟨?_, ?_, ?_⟩, ?_⟩
    · refine fu.trans ((Frame.storeFpr u n fm v hnu).mono ?_)
      unfold State.fprParts State.destParts State.fprParts
      rw [fu.fgr64]
      cases s.fgr64 <;> simp
    · exact ⟨by simpa using b.pc, by simpa using b.delay, by simpa using b.recentMF⟩
    · simpa using hu
    · exact State.tagOf_storeFpr u n fm _
    · exact State.fprBits_storeFpr hnu rfl rfl (Frame.storeFpr u n fm _ hnu).fgr64 rfl
    · simp

/-- The FCSR that an arithmetic instruction leaves: its cause field and flags are settled unless a CTC1 came just before. -/
theorem State.doneFcsr_eq (s : State) (conds flagged : BitVec 5) :
    ∃ cause flags, s.doneFcsr conds flagged = withCause (withFlags s.fcsr flags) cause ∧
      (s.hazards.ctc = false → flags = flagsOf s.fcsr ||| flagged ∧
        (s.env.fpMode = .precise → cause = conds.setWidth 6)) := by
  unfold State.doneFcsr
  cases s.hazards.ctc
  · cases hm : s.env.fpMode
    · exact ⟨_, _, rfl, fun _ => ⟨rfl, fun _ => rfl⟩⟩
    · exact ⟨_, _, rfl, fun _ => ⟨rfl, nofun⟩⟩
  · exact ⟨_, _, rfl, nofun⟩

/-- The FCSR of an arithmetic instruction that traps. -/
theorem State.trapFcsr_eq (s : State) (c : BitVec 6) :
    ∃ cause, s.trapFcsr c = withCause s.fcsr cause ∧ (s.hazards.ctc = false → cause = c) := by
  unfold State.trapFcsr
  cases s.hazards.ctc
  · exact ⟨_, rfl, fun _ => rfl⟩
  · exact ⟨_, rfl, nofun⟩

/-- What the trap of an instruction that is not implemented is. -/
theorem unimplemented_trapUnimplemented (s : State) : Unimplemented s (.next s.trapUnimplemented) := by
  obtain ⟨cause, e, h⟩ := s.trapFcsr_eq 0b100000#6
  exact ⟨cause, h, by rw [State.trapUnimplemented, e]⟩

/-- The conditions do not depend on whether a source was just moved to. -/
@[simp] theorem State.fpResult_conds (s : State) (fmt : FpFmt) (srcs : List Reg) (r : Rounded) :
    (s.fpResult fmt srcs r).conds = r.conds := by unfold State.fpResult; split <;> rfl

/-- The course of an FPU arithmetic instruction that has its operands (46_fpu_model.md R531 to R533, R546). -/
theorem fpResult_fpArith {s : State} {i : Instr} {fmt : FpFmt} {srcs : List Reg} {d : FpDest} {vs : List Dword} (p : Bool)
    (c : Word → List Dword → Rounded) (h : s.FpReady i fmt srcs d.regs vs) :
    FpResult s (s.fpArith i fmt srcs d p c) fmt srcs d p fun f => c f (vs.map (flushOperand s.env fmt f)) := by
  refine ⟨s.fcsrView, (s.fpResult fmt srcs (c s.fcsrView (vs.map (flushOperand s.env fmt s.fcsrView)))).bits,
    fun hc => by simp [State.fcsrView, hc], fun hm => by simp [State.fpResult, hm], ?_⟩
  intro r0
  have hr0 : c s.fcsrView (vs.map (flushOperand s.env fmt s.fcsrView)) = r0 := rfl
  rw [hr0]
  clear_value r0
  have hconds := State.fpResult_conds s fmt srcs r0
  have he : s.fpArith i fmt srcs d p c =
      if s.env.fpUnimpDenormResult && !fsOf s.fcsrView && destDenorm d (s.fpResult fmt srcs r0).bits then
        .next s.trapUnimplemented
      else s.fpFinish (s.readFprs fmt srcs).2 s.fcsrView d (s.fpResult fmt srcs r0) p := by
    unfold State.fpArith
    simp [h.named, h.values, h.implemented, hr0]
  rw [he, ← hconds]
  generalize s.fpResult fmt srcs r0 = r
  split
  · exact unimplemented_trapUnimplemented s
  have fr := Frame.readFprs h.values
  have hb : Before s (s.readFprs fmt srcs).2 := Before.of_quiet (Quiet.readFprs s fmt srcs) (by simp)
  have hn : s.badFpr d.regs = false := by
    have := h.named
    simp only [State.badFpr, List.any_append, Bool.and_or_distrib_left, Bool.or_eq_false_iff] at this
    exact this.2
  unfold State.fpFinish
  cases hm : s.env.fpMode with
  | precise =>
    refine ⟨fun z => ?_, fun z => ?_⟩
    · simp only [bne_iff_ne, ne_eq, z, not_true, if_false]
      obtain ⟨cause, flags, e, hs⟩ := s.doneFcsr_eq r.conds r.conds
      have k := completes_writeDest (u := { (s.readFprs fmt srcs).2 with fcsr := s.doneFcsr r.conds r.conds })
        (w := s.sourceTags srcs) d r.bits cause flags hn
        ((fr.mono (by simp)).trans ((Frame.setFcsr _ _).mono (by simp))) ⟨hb.pc, hb.delay, hb.recentMF⟩ e
      exact k.mono (List.Subset.refl _) fun t ht => ⟨cause, flags, fun hc => ⟨(hs hc).2 hm, (hs hc).1⟩, ht.1⟩
    · simp only [bne_iff_ne, ne_eq, z, not_false_iff, if_true]
      obtain ⟨cause, e, hs⟩ := s.trapFcsr_eq (r.conds.setWidth 6)
      exact ⟨cause, hs, by rw [e]⟩
  | imprecise =>
    have hpt : (s.readFprs fmt srcs).2.pendingFpTrap = s.pendingFpTrap := fr.fpTrap (by simp [State.sourceTags])
    obtain ⟨cause, flags, e, hs⟩ := s.doneFcsr_eq r.conds (if p then r.conds &&& ~~~condV else r.conds)
    have k := completes_writeDest (w := .fpTrap :: s.sourceTags srcs)
      (u := { (s.readFprs fmt srcs).2 with
        fcsr := s.doneFcsr r.conds (if p then r.conds &&& ~~~condV else r.conds)
        pendingFpTrap := (s.readFprs fmt srcs).2.pendingFpTrap || r.conds &&& enablesOf s.fcsrView != 0 })
      d r.bits cause flags hn
      ((fr.mono (by simp)).trans
        ((Frame.mono (Frame.setFcsr _ (s.doneFcsr r.conds (if p then r.conds &&& ~~~condV else r.conds))) (by simp)).trans
          ((Frame.setFpTrap _ _).mono (by simp))))
      ⟨hb.pc, hb.delay, hb.recentMF⟩ e
    refine k.mono (by intro x; simp only [List.cons_append, List.mem_append, List.mem_cons]; tauto) fun t ht =>
      ⟨?_, cause, flags, fun hc => (hs hc).1, ht.1⟩
    rw [ht.2, ← or_bne_zero, ← hpt]

/-- The same for one, two and three operands in the same format as the result. -/
theorem fpResult_fpUnary {s : State} {i : Instr} {fmt : FpFmt} {fs fd : Reg} {a : Dword}
    (g : FpFmt → Word → Dword → Rounded) (h : s.FpReady i fmt [fs] [fd] [a]) :
    FpResult s (s.fpUnary i fmt fs fd g) fmt [fs] (.fpr fd fmt) false fun f =>
      nanFirst s.env fmt [flushOperand s.env fmt f a] (g fmt f (flushOperand s.env fmt f a)) := by
  have r := fpResult_fpArith (d := .fpr fd fmt) false (fun c vs => nanFirst s.env fmt vs (g fmt c (vs.getD 0 0))) h
  unfold State.fpUnary
  simpa only [List.map_cons, List.map_nil, List.getD_cons_zero] using r

theorem fpResult_fpBinary {s : State} {i : Instr} {fmt : FpFmt} {fs ft fd : Reg} {a b : Dword}
    (g : FpFmt → Word → Dword → Dword → Rounded) (h : s.FpReady i fmt [fs, ft] [fd] [a, b]) :
    FpResult s (s.fpBinary i fmt fs ft fd g) fmt [fs, ft] (.fpr fd fmt) false fun f =>
      nanFirst s.env fmt [flushOperand s.env fmt f a, flushOperand s.env fmt f b]
        (g fmt f (flushOperand s.env fmt f a) (flushOperand s.env fmt f b)) := by
  have r := fpResult_fpArith (d := .fpr fd fmt) false
    (fun c vs => nanFirst s.env fmt vs (g fmt c (vs.getD 0 0) (vs.getD 1 0))) h
  unfold State.fpBinary
  simpa only [List.map_cons, List.map_nil, List.getD_cons_zero, List.getD_cons_succ] using r

theorem fpResult_fpTernary {s : State} {i : Instr} {fmt : FpFmt} {fr ft fs fd : Reg} {a b c : Dword} (sub neg : Bool)
    (h : s.FpReady i fmt [fs, ft, fr] [fd] [a, b, c]) (hc : s.fpTernary i fmt fr ft fs fd sub neg =
      s.fpArith i fmt [fs, ft, fr] (.fpr fd fmt) false fun f vs =>
        nanFirst s.env fmt vs (fpMulAcc s.env fmt f sub neg (vs.getD 0 0) (vs.getD 1 0) (vs.getD 2 0))) :
    FpResult s (s.fpTernary i fmt fr ft fs fd sub neg) fmt [fs, ft, fr] (.fpr fd fmt) false fun f =>
      nanFirst s.env fmt [flushOperand s.env fmt f a, flushOperand s.env fmt f b, flushOperand s.env fmt f c]
        (fpMulAcc s.env fmt f sub neg (flushOperand s.env fmt f a) (flushOperand s.env fmt f b)
          (flushOperand s.env fmt f c)) := by
  have r := fpResult_fpArith (d := .fpr fd fmt) false (fun f vs =>
    nanFirst s.env fmt vs (fpMulAcc s.env fmt f sub neg (vs.getD 0 0) (vs.getD 1 0) (vs.getD 2 0))) h
  rw [hc]
  simpa only [List.map_cons, List.map_nil, List.getD_cons_zero, List.getD_cons_succ] using r

/-- Sources, readable or not, change at most their own registers. -/
theorem Frame.readFpr_any (s : State) (n : Reg) (f : FpFmt) : Frame s (s.readFpr n f).2 (s.fprParts n) := by
  unfold State.readFpr
  split
  · exact (Frame.setTag s n _).mono (by simpa using s.tag_mem_fprParts n)
  · split
    · exact Frame.refl _ _
    · exact Frame.spoil s n
  · exact Frame.refl _ _

theorem Frame.fprParts {s t : State} {w : List Part} (h : Frame s t w) (n : Reg) : t.fprParts n = s.fprParts n := by
  unfold State.fprParts; rw [h.fgr64]

theorem Frame.readFprs_any (s : State) (f : FpFmt) (l : List Reg) :
    Frame s (s.readFprs f l).2 (l.flatMap s.fprParts) := by
  induction l generalizing s with
  | nil => exact Frame.refl _ _
  | cons n l ih =>
    rw [State.readFprs]
    have one := Frame.readFpr_any s n f
    have rest := ih (s.readFpr n f).2
    have e : l.flatMap (s.readFpr n f).2.fprParts = l.flatMap s.fprParts :=
      congrArg (fun g => List.flatMap g l) (funext fun m => one.fprParts m)
    rw [e] at rest
    exact (one.mono (by simp)).trans (rest.mono (by simp))

/-- An undefined result, from a state `u` that differs from `s` in the parts `w` and in the FCSR. -/
theorem fpUndefined_spoilDest {s u : State} {w : List Part} (d : FpDest) (f : Frame s u (.fcsr :: w)) (b : Before s u)
    (hu : u.fcsr = s.undefinedFcsr) :
    FpUndefined s (.next ((u.spoilDest d).retireWith (s.destHazard d) .none)) w d := by
  have e : s.undefinedFcsr = withFlags (withCause s.fcsr ((s.draw slotCause).extractLsb' 0 6))
    ((s.draw slotFlags).extractLsb' 0 5) := rfl
  cases d with
  | cond cc =>
    refine completes_retireWith (u := u.spoilDest (.cond cc)) ?_ ⟨b.pc, b.delay, b.recentMF⟩ _ _
      ⟨(s.draw slotCause).extractLsb' 0 6, (s.draw slotFlags).extractLsb' 0 5, u.flipCoin slotCond, ?_⟩
    · exact (f.mono (by simp [State.destParts])).trans ((Frame.setFcsr _ _).mono (by simp [State.destParts]))
    · show withFcc u.fcsr cc _ = _
      rw [hu, e]
  | fpr n fm =>
    have fu : Frame s u (s.destParts (.fpr n fm) ++ w) := f.mono (by simp [State.destParts])
    refine completes_retireWith (u := u.spoil n) ?_ ?_ _ _
      ⟨(s.draw slotCause).extractLsb' 0 6, (s.draw slotFlags).extractLsb' 0 5, ?_, ?_⟩
    · refine fu.trans ((Frame.spoil u n).mono ?_)
      rw [fu.fprParts]
      simp [State.destParts]
    · exact ⟨by simpa using b.pc, by simpa using b.delay, by simpa using b.recentMF⟩
    · exact State.tagOf_setTag _ n _
    · show (u.spoil n).fcsr = _
      rw [← e, ← hu]; simp

/-- The course of an instruction with an operand that is unknown or of another format, from the state `t` that reading its
operands left (46_fpu_model.md R523, R533). -/
theorem fpUnreadable_fpUnknown {s t : State} {w : List Part} (d : FpDest) (f : Frame s t w) (b : Before s t) :
    FpUnreadable s (s.fpUnknown t d) w d := by
  unfold State.fpUnknown
  cases hm : s.env.fpMode with
  | precise =>
    by_cases c : s.flipCoin slotTrap = true
    · simp only [c, if_true]
      exact .inr (.inl ⟨hm, _, rfl⟩)
    · simp only [c]
      refine .inl (fpUndefined_spoilDest (u := { t with fcsr := s.undefinedFcsr }) d ?_ ⟨b.pc, b.delay, b.recentMF⟩ rfl)
      exact (f.mono (by simp)).trans ((Frame.setFcsr _ _).mono (by simp))
  | imprecise =>
    by_cases c : s.flipCoin slotTrap = true
    · simp only [c, if_true]
      exact .inr (.inr ⟨hm, unimplemented_trapUnimplemented s⟩)
    · simp only [c]
      refine .inl (fpUndefined_spoilDest (u := { t with
        fcsr := s.undefinedFcsr
        pendingFpTrap := t.pendingFpTrap || s.flipCoin slotPend }) d ?_ ⟨b.pc, b.delay, b.recentMF⟩ rfl)
      exact (f.mono (by simp)).trans
        ((Frame.mono (Frame.setFcsr _ s.undefinedFcsr) (by simp)).trans ((Frame.setFpTrap _ _).mono (by simp)))

/-- The course of an FPU arithmetic instruction without operands or implementation (46_fpu_model.md R511, R523, R533,
R541). -/
theorem fpAside_fpArith (s : State) (i : Instr) (fmt : FpFmt) (srcs : List Reg) (d : FpDest) (p : Bool)
    (f : Word → List Dword → Rounded) : FpAside s (s.fpArith i fmt srcs d p f) i fmt srcs d := by
  refine ⟨fun h => ?_, fun h hn => ?_, fun ws h hw hi => ?_⟩
  · unfold State.fpArith
    rw [if_pos h]
    exact fpUndefined_spoilDest (u := { s with fcsr := s.undefinedFcsr }) d (Frame.setFcsr s _) ⟨rfl, rfl, rfl⟩ rfl
  · unfold State.fpArith
    simp only [h, hn, Bool.false_eq_true, if_false]
    exact fpUnreadable_fpUnknown d (Frame.readFprs_any s fmt srcs)
      (Before.of_quiet (Quiet.readFprs s fmt srcs) (by simp))
  · unfold State.fpArith
    simpa [h, hw, hi] using unimplemented_trapUnimplemented s

/-! ### Coprocessor operations and the environment's handler -/

/-- A coprocessor operation that is no branch, or outside a taken slot, is not refused. -/
theorem State.needFlow_goes {s : State} {f : CopFlow} (h : f.isBranch = false ∨ s.notInTakenSlot) (k : Out) :
    s.needFlow f k = k := by
  unfold State.needFlow
  split
  · next hb =>
    unfold State.notInSlot
    split
    · next t ht => exact absurd ht ((h.resolve_left (by simp [hb])) t)
    · rfl
  · rfl

/-- A coprocessor operation that is a branch is refused in a taken slot. -/
theorem State.needFlow_refused {s : State} {f : CopFlow} (h : f.isBranch = true) (hs : ¬ s.notInTakenSlot) (k : Out) :
    s.needFlow f k = .refused .branchInDelaySlot := by
  unfold State.needFlow State.notInSlot
  rw [if_pos h]
  split
  · rfl
  · next hn => exact absurd (fun t ht => hn t ht) hs

/-- Whatever the environment's handler answers, the machine continues in a state that keeps every invariant. -/
theorem State.legalise_inv (s t : State) : (s.legalise t).Inv where
  mem := State.legalise_wf s t
  zero := by simp [State.ZeroIsZero]
  fcsr := by
    unfold State.FcsrLegal
    rw [State.legalise_fcsr, show (s.legalise t).fcsrMask = s.fcsrMask from rfl]
    ext i hi
    simp
  link h := by simp at h
  trackers h := by simp at h; simp [h]
  branch x hx := by
    simp only [State.legalise_delay] at hx
    cases hd : t.delay <;> simp_all [State.normDelay, Delay.isTarget]
  contained := by
    have hn : (s.legalise t).norm = s.norm := rfl
    refine ⟨fun r => ?_, by simp [hn], by simp [hn], by simp [hn], fun x hx => ?_⟩
    · rw [hn, State.legalise_gpr, regGet_regSet]
      split
      · unfold State.norm; split <;> simp
      · unfold regGet; simp
    · rw [hn]
      simp only [State.legalise_delay] at hx
      cases hd : t.delay <;> simp_all [State.normDelay]
      rw [← hx]; simp

end Sys2Proof.Machine
end

