-- ==== Sys2Proof/Laws/Encoding.lean ====
section
/-! SUPPORT. Every field of a packed word is what was packed, and a word is the packing of its fields. -/

namespace Sys2Proof

@[simp] theorem fOp_packI (op : BitVec 6) (rs rt : BitVec 5) (imm : BitVec 16) : fOp (packI op rs rt imm) = op := by
  show BitVec.extractLsb' 26 6 (op ++ rs ++ rt ++ imm : BitVec (6+5+5+16)) = op
  refine BitVec.eq_of_getLsbD_eq fun i hi => ?_
  simp only [BitVec.getLsbD_extractLsb', BitVec.getLsbD_append, hi, decide_true, Bool.true_and]
  repeat' split
  all_goals first | omega | (congr 1; omega)
@[simp] theorem fRs_packI (op : BitVec 6) (rs rt : BitVec 5) (imm : BitVec 16) : fRs (packI op rs rt imm) = rs := by
  show BitVec.extractLsb' 21 5 (op ++ rs ++ rt ++ imm : BitVec (6+5+5+16)) = rs
  refine BitVec.eq_of_getLsbD_eq fun i hi => ?_
  simp only [BitVec.getLsbD_extractLsb', BitVec.getLsbD_append, hi, decide_true, Bool.true_and]
  repeat' split
  all_goals first | omega | (congr 1; omega)
@[simp] theorem fRt_packI (op : BitVec 6) (rs rt : BitVec 5) (imm : BitVec 16) : fRt (packI op rs rt imm) = rt := by
  show BitVec.extractLsb' 16 5 (op ++ rs ++ rt ++ imm : BitVec (6+5+5+16)) = rt
  refine BitVec.eq_of_getLsbD_eq fun i hi => ?_
  simp only [BitVec.getLsbD_extractLsb', BitVec.getLsbD_append, hi, decide_true, Bool.true_and]
  repeat' split
  all_goals first | omega | (congr 1; omega)
@[simp] theorem fImm_packI (op : BitVec 6) (rs rt : BitVec 5) (imm : BitVec 16) : fImm (packI op rs rt imm) = imm := by
  show BitVec.extractLsb' 0 16 (op ++ rs ++ rt ++ imm : BitVec (6+5+5+16)) = imm
  refine BitVec.eq_of_getLsbD_eq fun i hi => ?_
  simp only [BitVec.getLsbD_extractLsb', BitVec.getLsbD_append, hi, decide_true, Bool.true_and]
  repeat' split
  all_goals first | omega | (congr 1; omega)

@[simp] theorem fOp_packR (op : BitVec 6) (rs rt rd sa : BitVec 5) (fn : BitVec 6) : fOp (packR op rs rt rd sa fn) = op := by
  show BitVec.extractLsb' 26 6 (op ++ rs ++ rt ++ rd ++ sa ++ fn : BitVec (6+5+5+5+5+6)) = op
  refine BitVec.eq_of_getLsbD_eq fun i hi => ?_
  simp only [BitVec.getLsbD_extractLsb', BitVec.getLsbD_append, hi, decide_true, Bool.true_and]
  repeat' split
  all_goals first | omega | (congr 1; omega)
@[simp] theorem fRs_packR (op : BitVec 6) (rs rt rd sa : BitVec 5) (fn : BitVec 6) : fRs (packR op rs rt rd sa fn) = rs := by
  show BitVec.extractLsb' 21 5 (op ++ rs ++ rt ++ rd ++ sa ++ fn : BitVec (6+5+5+5+5+6)) = rs
  refine BitVec.eq_of_getLsbD_eq fun i hi => ?_
  simp only [BitVec.getLsbD_extractLsb', BitVec.getLsbD_append, hi, decide_true, Bool.true_and]
  repeat' split
  all_goals first | omega | (congr 1; omega)
@[simp] theorem fRt_packR (op : BitVec 6) (rs rt rd sa : BitVec 5) (fn : BitVec 6) : fRt (packR op rs rt rd sa fn) = rt := by
  show BitVec.extractLsb' 16 5 (op ++ rs ++ rt ++ rd ++ sa ++ fn : BitVec (6+5+5+5+5+6)) = rt
  refine BitVec.eq_of_getLsbD_eq fun i hi => ?_
  simp only [BitVec.getLsbD_extractLsb', BitVec.getLsbD_append, hi, decide_true, Bool.true_and]
  repeat' split
  all_goals first | omega | (congr 1; omega)
@[simp] theorem fRd_packR (op : BitVec 6) (rs rt rd sa : BitVec 5) (fn : BitVec 6) : fRd (packR op rs rt rd sa fn) = rd := by
  show BitVec.extractLsb' 11 5 (op ++ rs ++ rt ++ rd ++ sa ++ fn : BitVec (6+5+5+5+5+6)) = rd
  refine BitVec.eq_of_getLsbD_eq fun i hi => ?_
  simp only [BitVec.getLsbD_extractLsb', BitVec.getLsbD_append, hi, decide_true, Bool.true_and]
  repeat' split
  all_goals first | omega | (congr 1; omega)
@[simp] theorem fSa_packR (op : BitVec 6) (rs rt rd sa : BitVec 5) (fn : BitVec 6) : fSa (packR op rs rt rd sa fn) = sa := by
  show BitVec.extractLsb' 6 5 (op ++ rs ++ rt ++ rd ++ sa ++ fn : BitVec (6+5+5+5+5+6)) = sa
  refine BitVec.eq_of_getLsbD_eq fun i hi => ?_
  simp only [BitVec.getLsbD_extractLsb', BitVec.getLsbD_append, hi, decide_true, Bool.true_and]
  repeat' split
  all_goals first | omega | (congr 1; omega)
@[simp] theorem fFn_packR (op : BitVec 6) (rs rt rd sa : BitVec 5) (fn : BitVec 6) : fFn (packR op rs rt rd sa fn) = fn := by
  show BitVec.extractLsb' 0 6 (op ++ rs ++ rt ++ rd ++ sa ++ fn : BitVec (6+5+5+5+5+6)) = fn
  refine BitVec.eq_of_getLsbD_eq fun i hi => ?_
  simp only [BitVec.getLsbD_extractLsb', BitVec.getLsbD_append, hi, decide_true, Bool.true_and]
  repeat' split
  all_goals first | omega | (congr 1; omega)

@[simp] theorem fOp_packJ (op : BitVec 6) (index : BitVec 26) : fOp (packJ op index) = op := by
  show BitVec.extractLsb' 26 6 (op ++ index : BitVec (6+26)) = op
  refine BitVec.eq_of_getLsbD_eq fun i hi => ?_
  simp only [BitVec.getLsbD_extractLsb', BitVec.getLsbD_append, hi, decide_true, Bool.true_and]
  repeat' split
  all_goals first | omega | (congr 1; omega)
@[simp] theorem fIndex_packJ (op : BitVec 6) (index : BitVec 26) : fIndex (packJ op index) = index := by
  show BitVec.extractLsb' 0 26 (op ++ index : BitVec (6+26)) = index
  refine BitVec.eq_of_getLsbD_eq fun i hi => ?_
  simp only [BitVec.getLsbD_extractLsb', BitVec.getLsbD_append, hi, decide_true, Bool.true_and]
  repeat' split
  all_goals first | omega | (congr 1; omega)

@[simp] theorem fOp_packCode20 (op : BitVec 6) (code : BitVec 20) (fn : BitVec 6) : fOp (packCode20 op code fn) = op := by
  show BitVec.extractLsb' 26 6 (op ++ code ++ fn : BitVec (6+20+6)) = op
  refine BitVec.eq_of_getLsbD_eq fun i hi => ?_
  simp only [BitVec.getLsbD_extractLsb', BitVec.getLsbD_append, hi, decide_true, Bool.true_and]
  repeat' split
  all_goals first | omega | (congr 1; omega)
@[simp] theorem fCode20_packCode20 (op : BitVec 6) (code : BitVec 20) (fn : BitVec 6) : fCode20 (packCode20 op code fn) = code := by
  show BitVec.extractLsb' 6 20 (op ++ code ++ fn : BitVec (6+20+6)) = code
  refine BitVec.eq_of_getLsbD_eq fun i hi => ?_
  simp only [BitVec.getLsbD_extractLsb', BitVec.getLsbD_append, hi, decide_true, Bool.true_and]
  repeat' split
  all_goals first | omega | (congr 1; omega)
@[simp] theorem fFn_packCode20 (op : BitVec 6) (code : BitVec 20) (fn : BitVec 6) : fFn (packCode20 op code fn) = fn := by
  show BitVec.extractLsb' 0 6 (op ++ code ++ fn : BitVec (6+20+6)) = fn
  refine BitVec.eq_of_getLsbD_eq fun i hi => ?_
  simp only [BitVec.getLsbD_extractLsb', BitVec.getLsbD_append, hi, decide_true, Bool.true_and]
  repeat' split
  all_goals first | omega | (congr 1; omega)

@[simp] theorem fOp_packCode10 (op : BitVec 6) (rs rt : BitVec 5) (code : BitVec 10) (fn : BitVec 6) : fOp (packCode10 op rs rt code fn) = op := by
  show BitVec.extractLsb' 26 6 (op ++ rs ++ rt ++ code ++ fn : BitVec (6+5+5+10+6)) = op
  refine BitVec.eq_of_getLsbD_eq fun i hi => ?_
  simp only [BitVec.getLsbD_extractLsb', BitVec.getLsbD_append, hi, decide_true, Bool.true_and]
  repeat' split
  all_goals first | omega | (congr 1; omega)
@[simp] theorem fRs_packCode10 (op : BitVec 6) (rs rt : BitVec 5) (code : BitVec 10) (fn : BitVec 6) : fRs (packCode10 op rs rt code fn) = rs := by
  show BitVec.extractLsb' 21 5 (op ++ rs ++ rt ++ code ++ fn : BitVec (6+5+5+10+6)) = rs
  refine BitVec.eq_of_getLsbD_eq fun i hi => ?_
  simp only [BitVec.getLsbD_extractLsb', BitVec.getLsbD_append, hi, decide_true, Bool.true_and]
  repeat' split
  all_goals first | omega | (congr 1; omega)
@[simp] theorem fRt_packCode10 (op : BitVec 6) (rs rt : BitVec 5) (code : BitVec 10) (fn : BitVec 6) : fRt (packCode10 op rs rt code fn) = rt := by
  show BitVec.extractLsb' 16 5 (op ++ rs ++ rt ++ code ++ fn : BitVec (6+5+5+10+6)) = rt
  refine BitVec.eq_of_getLsbD_eq fun i hi => ?_
  simp only [BitVec.getLsbD_extractLsb', BitVec.getLsbD_append, hi, decide_true, Bool.true_and]
  repeat' split
  all_goals first | omega | (congr 1; omega)
@[simp] theorem fCode10_packCode10 (op : BitVec 6) (rs rt : BitVec 5) (code : BitVec 10) (fn : BitVec 6) : fCode10 (packCode10 op rs rt code fn) = code := by
  show BitVec.extractLsb' 6 10 (op ++ rs ++ rt ++ code ++ fn : BitVec (6+5+5+10+6)) = code
  refine BitVec.eq_of_getLsbD_eq fun i hi => ?_
  simp only [BitVec.getLsbD_extractLsb', BitVec.getLsbD_append, hi, decide_true, Bool.true_and]
  repeat' split
  all_goals first | omega | (congr 1; omega)
@[simp] theorem fFn_packCode10 (op : BitVec 6) (rs rt : BitVec 5) (code : BitVec 10) (fn : BitVec 6) : fFn (packCode10 op rs rt code fn) = fn := by
  show BitVec.extractLsb' 0 6 (op ++ rs ++ rt ++ code ++ fn : BitVec (6+5+5+10+6)) = fn
  refine BitVec.eq_of_getLsbD_eq fun i hi => ?_
  simp only [BitVec.getLsbD_extractLsb', BitVec.getLsbD_append, hi, decide_true, Bool.true_and]
  repeat' split
  all_goals first | omega | (congr 1; omega)

@[simp] theorem ccOf_packCc (cc : BitVec 3) (low : BitVec 2) : ccOf (packCc cc low) = cc := by
  revert cc low; decide
@[simp] theorem ccLow_packCc (cc : BitVec 3) (low : BitVec 2) : ccLow (packCc cc low) = low := by
  revert cc low; decide
theorem packCc_split (f : BitVec 5) : packCc (ccOf f) (ccLow f) = f := by
  revert f; decide

theorem packI_split (w : Word) : packI (fOp w) (fRs w) (fRt w) (fImm w) = w := by
  show (w.extractLsb' 26 6 ++ w.extractLsb' 21 5 ++ w.extractLsb' 16 5 ++ w.extractLsb' 0 16 : BitVec (6+5+5+16)) = w
  refine BitVec.eq_of_getLsbD_eq fun i hi => ?_
  simp only [BitVec.getLsbD_extractLsb', BitVec.getLsbD_append]
  repeat' split
  all_goals (rw [decide_eq_true (by omega)]; simp only [Bool.true_and]; congr 1; omega)
theorem packR_split (w : Word) : packR (fOp w) (fRs w) (fRt w) (fRd w) (fSa w) (fFn w) = w := by
  show (w.extractLsb' 26 6 ++ w.extractLsb' 21 5 ++ w.extractLsb' 16 5 ++ w.extractLsb' 11 5 ++ w.extractLsb' 6 5 ++ w.extractLsb' 0 6 : BitVec (6+5+5+5+5+6)) = w
  refine BitVec.eq_of_getLsbD_eq fun i hi => ?_
  simp only [BitVec.getLsbD_extractLsb', BitVec.getLsbD_append]
  repeat' split
  all_goals (rw [decide_eq_true (by omega)]; simp only [Bool.true_and]; congr 1; omega)
theorem packJ_split (w : Word) : packJ (fOp w) (fIndex w) = w := by
  show (w.extractLsb' 26 6 ++ w.extractLsb' 0 26 : BitVec (6+26)) = w
  refine BitVec.eq_of_getLsbD_eq fun i hi => ?_
  simp only [BitVec.getLsbD_extractLsb', BitVec.getLsbD_append]
  repeat' split
  all_goals (rw [decide_eq_true (by omega)]; simp only [Bool.true_and]; congr 1; omega)
theorem packCode20_split (w : Word) : packCode20 (fOp w) (fCode20 w) (fFn w) = w := by
  show (w.extractLsb' 26 6 ++ w.extractLsb' 6 20 ++ w.extractLsb' 0 6 : BitVec (6+20+6)) = w
  refine BitVec.eq_of_getLsbD_eq fun i hi => ?_
  simp only [BitVec.getLsbD_extractLsb', BitVec.getLsbD_append]
  repeat' split
  all_goals (rw [decide_eq_true (by omega)]; simp only [Bool.true_and]; congr 1; omega)
theorem packCode10_split (w : Word) : packCode10 (fOp w) (fRs w) (fRt w) (fCode10 w) (fFn w) = w := by
  show (w.extractLsb' 26 6 ++ w.extractLsb' 21 5 ++ w.extractLsb' 16 5 ++ w.extractLsb' 6 10 ++ w.extractLsb' 0 6 : BitVec (6+5+5+10+6)) = w
  refine BitVec.eq_of_getLsbD_eq fun i hi => ?_
  simp only [BitVec.getLsbD_extractLsb', BitVec.getLsbD_append]
  repeat' split
  all_goals (rw [decide_eq_true (by omega)]; simp only [Bool.true_and]; congr 1; omega)

end Sys2Proof
end

