-- ==== Sys2Proof/Laws/ExecEffect.lean ====
section
/-! SUPPORT. Every next state of an instruction is an `Effect`: one lemma per meaning, then `exec`, then a step. -/

namespace Sys2Proof.Machine

theorem execLb_effects (s : State) (base rt : Reg) (offset : BitVec 16) : Effects s (execLb base rt offset s) :=
  effects_loadAligned _ _ _ _ _ _
theorem execLbu_effects (s : State) (base rt : Reg) (offset : BitVec 16) : Effects s (execLbu base rt offset s) :=
  effects_loadAligned _ _ _ _ _ _
theorem execLh_effects (s : State) (base rt : Reg) (offset : BitVec 16) : Effects s (execLh base rt offset s) :=
  effects_loadAligned _ _ _ _ _ _
theorem execLhu_effects (s : State) (base rt : Reg) (offset : BitVec 16) : Effects s (execLhu base rt offset s) :=
  effects_loadAligned _ _ _ _ _ _
theorem execLw_effects (s : State) (base rt : Reg) (offset : BitVec 16) : Effects s (execLw base rt offset s) :=
  effects_loadAligned _ _ _ _ _ _
theorem execLwu_effects (s : State) (base rt : Reg) (offset : BitVec 16) : Effects s (execLwu base rt offset s) :=
  effects_needLevel _ (effects_loadAligned _ _ _ _ _ _)
theorem execLd_effects (s : State) (base rt : Reg) (offset : BitVec 16) : Effects s (execLd base rt offset s) :=
  effects_wasCop3 _ _ (effects_loadAligned _ _ _ _ _ _)
theorem execSb_effects (s : State) (base rt : Reg) (offset : BitVec 16) : Effects s (execSb base rt offset s) :=
  effects_storeAligned _ _ _ _ _
theorem execSh_effects (s : State) (base rt : Reg) (offset : BitVec 16) : Effects s (execSh base rt offset s) :=
  effects_storeAligned _ _ _ _ _
theorem execSw_effects (s : State) (base rt : Reg) (offset : BitVec 16) : Effects s (execSw base rt offset s) :=
  effects_storeAligned _ _ _ _ _
theorem execSd_effects (s : State) (base rt : Reg) (offset : BitVec 16) : Effects s (execSd base rt offset s) :=
  effects_wasCop3 _ _ (effects_storeAligned _ _ _ _ _)
theorem execLwl_effects (s : State) (base rt : Reg) (offset : BitVec 16) : Effects s (execLwl base rt offset s) :=
  effects_loadPart _ _ _ _ _ _
theorem execLwr_effects (s : State) (base rt : Reg) (offset : BitVec 16) : Effects s (execLwr base rt offset s) :=
  effects_loadPart _ _ _ _ _ _
theorem execLdl_effects (s : State) (base rt : Reg) (offset : BitVec 16) : Effects s (execLdl base rt offset s) :=
  effects_needLevel _ (effects_loadPart _ _ _ _ _ _)
theorem execLdr_effects (s : State) (base rt : Reg) (offset : BitVec 16) : Effects s (execLdr base rt offset s) :=
  effects_needLevel _ (effects_loadPart _ _ _ _ _ _)
theorem execSwl_effects (s : State) (base rt : Reg) (offset : BitVec 16) : Effects s (execSwl base rt offset s) :=
  effects_storePart _ _ _ _ _ _
theorem execSwr_effects (s : State) (base rt : Reg) (offset : BitVec 16) : Effects s (execSwr base rt offset s) :=
  effects_storePart _ _ _ _ _ _
theorem execSdl_effects (s : State) (base rt : Reg) (offset : BitVec 16) : Effects s (execSdl base rt offset s) :=
  effects_needLevel _ (effects_storePart _ _ _ _ _ _)
theorem execSdr_effects (s : State) (base rt : Reg) (offset : BitVec 16) : Effects s (execSdr base rt offset s) :=
  effects_needLevel _ (effects_storePart _ _ _ _ _ _)
theorem execLl_effects (s : State) (base rt : Reg) (offset : BitVec 16) : Effects s (execLl base rt offset s) :=
  effects_needLevel _ (effects_loadLinked _ _ _ _ _ _)
theorem execLld_effects (s : State) (base rt : Reg) (offset : BitVec 16) : Effects s (execLld base rt offset s) :=
  effects_needLevel _ (effects_loadLinked _ _ _ _ _ _)
theorem execSc_effects (s : State) (base rt : Reg) (offset : BitVec 16) : Effects s (execSc base rt offset s) :=
  effects_needLevel _ (effects_storeConditional _ _ _ _ _)
theorem execScd_effects (s : State) (base rt : Reg) (offset : BitVec 16) : Effects s (execScd base rt offset s) :=
  effects_needLevel _ (effects_storeConditional _ _ _ _ _)
theorem execLwc2_effects (s : State) (base rt : Reg) (offset : BitVec 16) : Effects s (execLwc2 base rt offset s) :=
  effects_needCop2 _ (effects_loadCop2 _ _ _ _ _)
theorem execSwc2_effects (s : State) (base rt : Reg) (offset : BitVec 16) : Effects s (execSwc2 base rt offset s) :=
  effects_needCop2 _ (effects_storeCop2 _ _ _ _ _)
theorem execLdc2_effects (s : State) (base rt : Reg) (offset : BitVec 16) : Effects s (execLdc2 base rt offset s) :=
  effects_needCop2 _ (effects_loadCop2 _ _ _ _ _)
theorem execSdc2_effects (s : State) (base rt : Reg) (offset : BitVec 16) : Effects s (execSdc2 base rt offset s) :=
  effects_needCop2 _ (effects_storeCop2 _ _ _ _ _)
theorem execPref_effects (s : State) (base : Reg) (hint : BitVec 5) (offset : BitVec 16) : Effects s (execPref base hint offset s) :=
  effects_wasCop3 _ _ (effects_next (Body.refl s).retire)
theorem execAddi_effects (s : State) (rs rt : Reg) (imm : BitVec 16) : Effects s (execAddi rs rt imm s) :=
  effects_trappingWord _ _ _ _ _ _
theorem execAddiu_effects (s : State) (rs rt : Reg) (imm : BitVec 16) : Effects s (execAddiu rs rt imm s) :=
  effects_writeResult _ _ _ _
theorem execSlti_effects (s : State) (rs rt : Reg) (imm : BitVec 16) : Effects s (execSlti rs rt imm s) :=
  effects_writeResult _ _ _ _
theorem execSltiu_effects (s : State) (rs rt : Reg) (imm : BitVec 16) : Effects s (execSltiu rs rt imm s) :=
  effects_writeResult _ _ _ _
theorem execAndi_effects (s : State) (rs rt : Reg) (imm : BitVec 16) : Effects s (execAndi rs rt imm s) :=
  effects_writeResult _ _ _ _
theorem execOri_effects (s : State) (rs rt : Reg) (imm : BitVec 16) : Effects s (execOri rs rt imm s) :=
  effects_writeResult _ _ _ _
theorem execXori_effects (s : State) (rs rt : Reg) (imm : BitVec 16) : Effects s (execXori rs rt imm s) :=
  effects_writeResult _ _ _ _
theorem execDaddi_effects (s : State) (rs rt : Reg) (imm : BitVec 16) : Effects s (execDaddi rs rt imm s) :=
  effects_needLevel _ (effects_trappingDword _ _ _ _ _)
theorem execDaddiu_effects (s : State) (rs rt : Reg) (imm : BitVec 16) : Effects s (execDaddiu rs rt imm s) :=
  effects_needLevel _ (effects_writeResult _ _ _ _)
theorem execLui_effects (s : State) (rt : Reg) (imm : BitVec 16) : Effects s (execLui rt imm s) :=
  effects_writeGpr _ _ _
theorem execBeq_effects (s : State) (rs rt : Reg) (offset : BitVec 16) : Effects s (execBeq rs rt offset s) :=
  effects_notInSlot (effects_next ((Body.refl s).branchIf _ _ _))
theorem execBne_effects (s : State) (rs rt : Reg) (offset : BitVec 16) : Effects s (execBne rs rt offset s) :=
  effects_notInSlot (effects_next ((Body.refl s).branchIf _ _ _))
theorem execBeql_effects (s : State) (rs rt : Reg) (offset : BitVec 16) : Effects s (execBeql rs rt offset s) :=
  effects_needLevel _ (effects_notInSlot (effects_next ((Body.refl s).branchIf _ _ _)))
theorem execBnel_effects (s : State) (rs rt : Reg) (offset : BitVec 16) : Effects s (execBnel rs rt offset s) :=
  effects_needLevel _ (effects_notInSlot (effects_next ((Body.refl s).branchIf _ _ _)))
theorem execBlez_effects (s : State) (rs : Reg) (offset : BitVec 16) : Effects s (execBlez rs offset s) :=
  effects_notInSlot (effects_next ((Body.refl s).branchIf _ _ _))
theorem execBgtz_effects (s : State) (rs : Reg) (offset : BitVec 16) : Effects s (execBgtz rs offset s) :=
  effects_notInSlot (effects_next ((Body.refl s).branchIf _ _ _))
theorem execBlezl_effects (s : State) (rs : Reg) (offset : BitVec 16) : Effects s (execBlezl rs offset s) :=
  effects_needLevel _ (effects_notInSlot (effects_next ((Body.refl s).branchIf _ _ _)))
theorem execBgtzl_effects (s : State) (rs : Reg) (offset : BitVec 16) : Effects s (execBgtzl rs offset s) :=
  effects_needLevel _ (effects_notInSlot (effects_next ((Body.refl s).branchIf _ _ _)))
theorem execBltz_effects (s : State) (rs : Reg) (offset : BitVec 16) : Effects s (execBltz rs offset s) :=
  effects_notInSlot (effects_next ((Body.refl s).branchIf _ _ _))
theorem execBgez_effects (s : State) (rs : Reg) (offset : BitVec 16) : Effects s (execBgez rs offset s) :=
  effects_notInSlot (effects_next ((Body.refl s).branchIf _ _ _))
theorem execBltzl_effects (s : State) (rs : Reg) (offset : BitVec 16) : Effects s (execBltzl rs offset s) :=
  effects_needLevel _ (effects_notInSlot (effects_next ((Body.refl s).branchIf _ _ _)))
theorem execBgezl_effects (s : State) (rs : Reg) (offset : BitVec 16) : Effects s (execBgezl rs offset s) :=
  effects_needLevel _ (effects_notInSlot (effects_next ((Body.refl s).branchIf _ _ _)))
theorem execBltzal_effects (s : State) (rs : Reg) (offset : BitVec 16) : Effects s (execBltzal rs offset s) :=
  effects_branchLink _ _ _ _ _
theorem execBgezal_effects (s : State) (rs : Reg) (offset : BitVec 16) : Effects s (execBgezal rs offset s) :=
  effects_branchLink _ _ _ _ _
theorem execBltzall_effects (s : State) (rs : Reg) (offset : BitVec 16) : Effects s (execBltzall rs offset s) :=
  effects_needLevel _ (effects_branchLink _ _ _ _ _)
theorem execBgezall_effects (s : State) (rs : Reg) (offset : BitVec 16) : Effects s (execBgezall rs offset s) :=
  effects_needLevel _ (effects_branchLink _ _ _ _ _)
theorem execTgei_effects (s : State) (rs : Reg) (imm : BitVec 16) : Effects s (execTgei rs imm s) :=
  effects_trapIf _ _
theorem execTgeiu_effects (s : State) (rs : Reg) (imm : BitVec 16) : Effects s (execTgeiu rs imm s) :=
  effects_trapIf _ _
theorem execTlti_effects (s : State) (rs : Reg) (imm : BitVec 16) : Effects s (execTlti rs imm s) :=
  effects_trapIf _ _
theorem execTltiu_effects (s : State) (rs : Reg) (imm : BitVec 16) : Effects s (execTltiu rs imm s) :=
  effects_trapIf _ _
theorem execTeqi_effects (s : State) (rs : Reg) (imm : BitVec 16) : Effects s (execTeqi rs imm s) :=
  effects_trapIf _ _
theorem execTnei_effects (s : State) (rs : Reg) (imm : BitVec 16) : Effects s (execTnei rs imm s) :=
  effects_trapIf _ _
theorem execJ_effects (s : State) (index : BitVec 26) : Effects s (execJ index s) :=
  effects_notInSlot (effects_next ((Body.refl s).jump _))
theorem execJal_effects (s : State) (index : BitVec 26) : Effects s (execJal index s) :=
  effects_notInSlot (effects_next ((Body.setGpr _ _ _).jump _))
theorem execAdd_effects (s : State) (rs rt rd : Reg) : Effects s (execAdd rs rt rd s) :=
  effects_trappingWord _ _ _ _ _ _
theorem execAddu_effects (s : State) (rs rt rd : Reg) : Effects s (execAddu rs rt rd s) :=
  effects_writeResult _ _ _ _
theorem execSub_effects (s : State) (rs rt rd : Reg) : Effects s (execSub rs rt rd s) :=
  effects_trappingWord _ _ _ _ _ _
theorem execSubu_effects (s : State) (rs rt rd : Reg) : Effects s (execSubu rs rt rd s) :=
  effects_writeResult _ _ _ _
theorem execAnd_effects (s : State) (rs rt rd : Reg) : Effects s (execAnd rs rt rd s) :=
  effects_writeResult _ _ _ _
theorem execOr_effects (s : State) (rs rt rd : Reg) : Effects s (execOr rs rt rd s) :=
  effects_writeResult _ _ _ _
theorem execXor_effects (s : State) (rs rt rd : Reg) : Effects s (execXor rs rt rd s) :=
  effects_writeResult _ _ _ _
theorem execNor_effects (s : State) (rs rt rd : Reg) : Effects s (execNor rs rt rd s) :=
  effects_writeResult _ _ _ _
theorem execSlt_effects (s : State) (rs rt rd : Reg) : Effects s (execSlt rs rt rd s) :=
  effects_writeResult _ _ _ _
theorem execSltu_effects (s : State) (rs rt rd : Reg) : Effects s (execSltu rs rt rd s) :=
  effects_writeResult _ _ _ _
theorem execDadd_effects (s : State) (rs rt rd : Reg) : Effects s (execDadd rs rt rd s) :=
  effects_needLevel _ (effects_trappingDword _ _ _ _ _)
theorem execDaddu_effects (s : State) (rs rt rd : Reg) : Effects s (execDaddu rs rt rd s) :=
  effects_needLevel _ (effects_writeResult _ _ _ _)
theorem execDsub_effects (s : State) (rs rt rd : Reg) : Effects s (execDsub rs rt rd s) :=
  effects_needLevel _ (effects_trappingDword _ _ _ _ _)
theorem execDsubu_effects (s : State) (rs rt rd : Reg) : Effects s (execDsubu rs rt rd s) :=
  effects_needLevel _ (effects_writeResult _ _ _ _)
theorem execSllv_effects (s : State) (rs rt rd : Reg) : Effects s (execSllv rs rt rd s) :=
  effects_writeResult _ _ _ _
theorem execSrlv_effects (s : State) (rs rt rd : Reg) : Effects s (execSrlv rs rt rd s) :=
  effects_writeResult _ _ _ _
theorem execSrav_effects (s : State) (rs rt rd : Reg) : Effects s (execSrav rs rt rd s) :=
  effects_writeResult _ _ _ _
theorem execDsllv_effects (s : State) (rs rt rd : Reg) : Effects s (execDsllv rs rt rd s) :=
  effects_needLevel _ (effects_writeResult _ _ _ _)
theorem execDsrlv_effects (s : State) (rs rt rd : Reg) : Effects s (execDsrlv rs rt rd s) :=
  effects_needLevel _ (effects_writeResult _ _ _ _)
theorem execDsrav_effects (s : State) (rs rt rd : Reg) : Effects s (execDsrav rs rt rd s) :=
  effects_needLevel _ (effects_writeResult _ _ _ _)
theorem execMovz_effects (s : State) (rs rt rd : Reg) : Effects s (execMovz rs rt rd s) :=
  effects_needLevel _ (effects_next (by split; exacts [(Body.setGpr _ _ _).retire, (Body.refl s).retire]))
theorem execMovn_effects (s : State) (rs rt rd : Reg) : Effects s (execMovn rs rt rd s) :=
  effects_needLevel _ (effects_next (by split; exacts [(Body.setGpr _ _ _).retire, (Body.refl s).retire]))
theorem execSll_effects (s : State) (rt rd : Reg) (sa : BitVec 5) : Effects s (execSll rt rd sa s) :=
  effects_writeResult _ _ _ _
theorem execSrl_effects (s : State) (rt rd : Reg) (sa : BitVec 5) : Effects s (execSrl rt rd sa s) :=
  effects_writeResult _ _ _ _
theorem execSra_effects (s : State) (rt rd : Reg) (sa : BitVec 5) : Effects s (execSra rt rd sa s) :=
  effects_writeResult _ _ _ _
theorem execDsll_effects (s : State) (rt rd : Reg) (sa : BitVec 5) : Effects s (execDsll rt rd sa s) :=
  effects_needLevel _ (effects_writeResult _ _ _ _)
theorem execDsrl_effects (s : State) (rt rd : Reg) (sa : BitVec 5) : Effects s (execDsrl rt rd sa s) :=
  effects_needLevel _ (effects_writeResult _ _ _ _)
theorem execDsra_effects (s : State) (rt rd : Reg) (sa : BitVec 5) : Effects s (execDsra rt rd sa s) :=
  effects_needLevel _ (effects_writeResult _ _ _ _)
theorem execDsll32_effects (s : State) (rt rd : Reg) (sa : BitVec 5) : Effects s (execDsll32 rt rd sa s) :=
  effects_needLevel _ (effects_writeResult _ _ _ _)
theorem execDsrl32_effects (s : State) (rt rd : Reg) (sa : BitVec 5) : Effects s (execDsrl32 rt rd sa s) :=
  effects_needLevel _ (effects_writeResult _ _ _ _)
theorem execDsra32_effects (s : State) (rt rd : Reg) (sa : BitVec 5) : Effects s (execDsra32 rt rd sa s) :=
  effects_needLevel _ (effects_writeResult _ _ _ _)
theorem execMult_effects (s : State) (rs rt : Reg) : Effects s (execMult rs rt s) :=
  effects_computeWordHiLo _ _ _ _ _
theorem execMultu_effects (s : State) (rs rt : Reg) : Effects s (execMultu rs rt s) :=
  effects_computeWordHiLo _ _ _ _ _
theorem execDiv_effects (s : State) (rs rt : Reg) : Effects s (execDiv rs rt s) :=
  effects_divideWordHiLo _ _ _ _ _
theorem execDivu_effects (s : State) (rs rt : Reg) : Effects s (execDivu rs rt s) :=
  effects_divideWordHiLo _ _ _ _ _
theorem execDmult_effects (s : State) (rs rt : Reg) : Effects s (execDmult rs rt s) :=
  effects_needLevel _ (effects_computeHiLo _ _ _ _)
theorem execDmultu_effects (s : State) (rs rt : Reg) : Effects s (execDmultu rs rt s) :=
  effects_needLevel _ (effects_computeHiLo _ _ _ _)
theorem execDdiv_effects (s : State) (rs rt : Reg) : Effects s (execDdiv rs rt s) :=
  effects_needLevel _ (effects_divideHiLo _ _ _ _ _)
theorem execDdivu_effects (s : State) (rs rt : Reg) : Effects s (execDdivu rs rt s) :=
  effects_needLevel _ (effects_divideHiLo _ _ _ _ _)
theorem execMfhi_effects (s : State) (rd : Reg) : Effects s (execMfhi rd s) :=
  effects_next (((Body.setGpr _ _ _).retireWith _ _ fun _ => rfl).withPending _)
theorem execMflo_effects (s : State) (rd : Reg) : Effects s (execMflo rd s) :=
  effects_next (((Body.setGpr _ _ _).retireWith _ _ fun _ => rfl).withPending _)
theorem execMthi_effects (s : State) (rs : Reg) : Effects s (execMthi rs s) :=
  effects_needHiLo _ _ (effects_next (Body.moveToHi _ _).retire)
theorem execMtlo_effects (s : State) (rs : Reg) : Effects s (execMtlo rs s) :=
  effects_needHiLo _ _ (effects_next (Body.moveToLo _ _).retire)
theorem execJr_effects (s : State) (rs : Reg) : Effects s (execJr rs s) :=
  effects_notInSlot (effects_next ((Body.refl s).jumpRegister _))
theorem execJalr_effects (s : State) (rs rd : Reg) : Effects s (execJalr rs rd s) :=
  effects_notInSlot (effects_ite (fun _ => effects_refused _ _) fun _ => effects_next ((Body.setGpr _ _ _).jumpRegister _))
theorem execSyscall_effects (s : State) (code : BitVec 20) : Effects s (execSyscall code s) :=
  effects_raise _ _
theorem execBreakpoint_effects (s : State) (code : BitVec 20) : Effects s (execBreakpoint code s) :=
  effects_raise _ _
theorem execSync_effects (s : State) (stype : BitVec 5) : Effects s (execSync stype s) :=
  effects_needLevel _ (effects_next (Body.refl s).retire)
theorem execTge_effects (s : State) (rs rt : Reg) (code : BitVec 10) : Effects s (execTge rs rt code s) :=
  effects_trapIf _ _
theorem execTgeu_effects (s : State) (rs rt : Reg) (code : BitVec 10) : Effects s (execTgeu rs rt code s) :=
  effects_trapIf _ _
theorem execTlt_effects (s : State) (rs rt : Reg) (code : BitVec 10) : Effects s (execTlt rs rt code s) :=
  effects_trapIf _ _
theorem execTltu_effects (s : State) (rs rt : Reg) (code : BitVec 10) : Effects s (execTltu rs rt code s) :=
  effects_trapIf _ _
theorem execTeq_effects (s : State) (rs rt : Reg) (code : BitVec 10) : Effects s (execTeq rs rt code s) :=
  effects_trapIf _ _
theorem execTne_effects (s : State) (rs rt : Reg) (code : BitVec 10) : Effects s (execTne rs rt code s) :=
  effects_trapIf _ _
theorem execMovf_effects (s : State) (rs : Reg) (cc : BitVec 3) (rd : Reg) : Effects s (execMovf rs cc rd s) :=
  effects_moveOnFcc _ _ _ _ _
theorem execMovt_effects (s : State) (rs : Reg) (cc : BitVec 3) (rd : Reg) : Effects s (execMovt rs cc rd s) :=
  effects_moveOnFcc _ _ _ _ _
theorem execCop0_effects (s : State) (copFun : BitVec 26) : Effects s (execCop0 copFun s) :=
  effects_needCop _ (effects_cop0Operation _ _ _)
theorem execCop2_effects (s : State) (copFun : BitVec 26) : Effects s (execCop2 copFun s) :=
  effects_needCop2 _ (effects_cop2Operation _ _)
theorem execLwc1_effects (s : State) (base ft : Reg) (offset : BitVec 16) : Effects s (execLwc1 base ft offset s) :=
  effects_needCop _ (effects_withOffset _ _ _ _ fun _ => effects_loadWordC1 _ _ _ _)
theorem execSwc1_effects (s : State) (base ft : Reg) (offset : BitVec 16) : Effects s (execSwc1 base ft offset s) :=
  effects_needCop _ (effects_withOffset _ _ _ _ fun _ => effects_storeC1 _ _ _ _)
theorem execLdc1_effects (s : State) (base ft : Reg) (offset : BitVec 16) : Effects s (execLdc1 base ft offset s) :=
  effects_needCop _ (effects_needLevel _ (effects_withOffset _ _ _ _ fun _ => effects_loadDwordC1 _ _ _ _))
theorem execSdc1_effects (s : State) (base ft : Reg) (offset : BitVec 16) : Effects s (execSdc1 base ft offset s) :=
  effects_needCop _ (effects_needLevel _ (effects_withOffset _ _ _ _ fun _ => effects_storeC1 _ _ _ _))
theorem execMfc1_effects (s : State) (rt fs : Reg) : Effects s (execMfc1 rt fs s) :=
  effects_needCop _ (effects_moveFrom _ _ _)
theorem execDmfc1_effects (s : State) (rt fs : Reg) : Effects s (execDmfc1 rt fs s) :=
  effects_needCop _ (effects_needFpLevel _ (effects_moveFrom _ _ _))
theorem execCfc1_effects (s : State) (rt fs : Reg) : Effects s (execCfc1 rt fs s) :=
  effects_needCop _ (effects_moveFrom _ _ _)
theorem execMtc1_effects (s : State) (rt fs : Reg) : Effects s (execMtc1 rt fs s) :=
  effects_needCop _ (effects_next ((Quiet.loadWordFgr _ _ _).body.retireWith _ _ fun h => State.moveToHazard_four _ h))
theorem execDmtc1_effects (s : State) (rt fs : Reg) : Effects s (execDmtc1 rt fs s) :=
  effects_needCop _ (effects_needFpLevel _ (effects_next ((Quiet.loadDwordFgr _ _ _).body.retireWith _ _ fun h => State.moveToHazard_four _ h)))
theorem execCtc1_effects (s : State) (rt fs : Reg) : Effects s (execCtc1 rt fs s) :=
  effects_needCop _ (effects_ite (fun _ => effects_writeFcsr _ _) fun _ => effects_ite
    (fun _ => effects_next (Quiet.setFcr0 s _).body.retire) fun _ => effects_refused _ _)
theorem execBc1f_effects (s : State) (cc : BitVec 3) (offset : BitVec 16) : Effects s (execBc1f cc offset s) :=
  effects_fpBranch _ _ _ _ _ _
theorem execBc1t_effects (s : State) (cc : BitVec 3) (offset : BitVec 16) : Effects s (execBc1t cc offset s) :=
  effects_fpBranch _ _ _ _ _ _
theorem execBc1fl_effects (s : State) (cc : BitVec 3) (offset : BitVec 16) : Effects s (execBc1fl cc offset s) :=
  effects_fpBranch _ _ _ _ _ _
theorem execBc1tl_effects (s : State) (cc : BitVec 3) (offset : BitVec 16) : Effects s (execBc1tl cc offset s) :=
  effects_fpBranch _ _ _ _ _ _
theorem execAddS_effects (s : State) (ft fs fd : Reg) : Effects s (execAddS ft fs fd s) :=
  effects_needCop _ (effects_fpBinary _ _ _ _ _ _ _)
theorem execAddD_effects (s : State) (ft fs fd : Reg) : Effects s (execAddD ft fs fd s) :=
  effects_needCop _ (effects_fpBinary _ _ _ _ _ _ _)
theorem execSubS_effects (s : State) (ft fs fd : Reg) : Effects s (execSubS ft fs fd s) :=
  effects_needCop _ (effects_fpBinary _ _ _ _ _ _ _)
theorem execSubD_effects (s : State) (ft fs fd : Reg) : Effects s (execSubD ft fs fd s) :=
  effects_needCop _ (effects_fpBinary _ _ _ _ _ _ _)
theorem execMulS_effects (s : State) (ft fs fd : Reg) : Effects s (execMulS ft fs fd s) :=
  effects_needCop _ (effects_fpBinary _ _ _ _ _ _ _)
theorem execMulD_effects (s : State) (ft fs fd : Reg) : Effects s (execMulD ft fs fd s) :=
  effects_needCop _ (effects_fpBinary _ _ _ _ _ _ _)
theorem execDivS_effects (s : State) (ft fs fd : Reg) : Effects s (execDivS ft fs fd s) :=
  effects_needCop _ (effects_fpBinary _ _ _ _ _ _ _)
theorem execDivD_effects (s : State) (ft fs fd : Reg) : Effects s (execDivD ft fs fd s) :=
  effects_needCop _ (effects_fpBinary _ _ _ _ _ _ _)
theorem execSqrtS_effects (s : State) (fs fd : Reg) : Effects s (execSqrtS fs fd s) :=
  effects_needCop _ (effects_needFpLevel _ (effects_fpUnary _ _ _ _ _ _))
theorem execSqrtD_effects (s : State) (fs fd : Reg) : Effects s (execSqrtD fs fd s) :=
  effects_needCop _ (effects_needFpLevel _ (effects_fpUnary _ _ _ _ _ _))
theorem execAbsS_effects (s : State) (fs fd : Reg) : Effects s (execAbsS fs fd s) :=
  effects_needCop _ (effects_fpUnary _ _ _ _ _ _)
theorem execAbsD_effects (s : State) (fs fd : Reg) : Effects s (execAbsD fs fd s) :=
  effects_needCop _ (effects_fpUnary _ _ _ _ _ _)
theorem execMovS_effects (s : State) (fs fd : Reg) : Effects s (execMovS fs fd s) :=
  effects_needCop _ (effects_fpMove _ _ _ _ _ _ _)
theorem execMovD_effects (s : State) (fs fd : Reg) : Effects s (execMovD fs fd s) :=
  effects_needCop _ (effects_fpMove _ _ _ _ _ _ _)
theorem execNegS_effects (s : State) (fs fd : Reg) : Effects s (execNegS fs fd s) :=
  effects_needCop _ (effects_fpUnary _ _ _ _ _ _)
theorem execNegD_effects (s : State) (fs fd : Reg) : Effects s (execNegD fs fd s) :=
  effects_needCop _ (effects_fpUnary _ _ _ _ _ _)
theorem execRecipS_effects (s : State) (fs fd : Reg) : Effects s (execRecipS fs fd s) :=
  effects_needCop _ (effects_needFpLevel _ (effects_fpUnary _ _ _ _ _ _))
theorem execRecipD_effects (s : State) (fs fd : Reg) : Effects s (execRecipD fs fd s) :=
  effects_needCop _ (effects_needFpLevel _ (effects_fpUnary _ _ _ _ _ _))
theorem execRsqrtS_effects (s : State) (fs fd : Reg) : Effects s (execRsqrtS fs fd s) :=
  effects_needCop _ (effects_needFpLevel _ (effects_fpUnary _ _ _ _ _ _))
theorem execRsqrtD_effects (s : State) (fs fd : Reg) : Effects s (execRsqrtD fs fd s) :=
  effects_needCop _ (effects_needFpLevel _ (effects_fpUnary _ _ _ _ _ _))
theorem execRoundLS_effects (s : State) (fs fd : Reg) : Effects s (execRoundLS fs fd s) :=
  effects_needCop _ (effects_needFpLevel _ (effects_fpToFixed _ _ _ _ _ _ _))
theorem execRoundLD_effects (s : State) (fs fd : Reg) : Effects s (execRoundLD fs fd s) :=
  effects_needCop _ (effects_needFpLevel _ (effects_fpToFixed _ _ _ _ _ _ _))
theorem execTruncLS_effects (s : State) (fs fd : Reg) : Effects s (execTruncLS fs fd s) :=
  effects_needCop _ (effects_needFpLevel _ (effects_fpToFixed _ _ _ _ _ _ _))
theorem execTruncLD_effects (s : State) (fs fd : Reg) : Effects s (execTruncLD fs fd s) :=
  effects_needCop _ (effects_needFpLevel _ (effects_fpToFixed _ _ _ _ _ _ _))
theorem execCeilLS_effects (s : State) (fs fd : Reg) : Effects s (execCeilLS fs fd s) :=
  effects_needCop _ (effects_needFpLevel _ (effects_fpToFixed _ _ _ _ _ _ _))
theorem execCeilLD_effects (s : State) (fs fd : Reg) : Effects s (execCeilLD fs fd s) :=
  effects_needCop _ (effects_needFpLevel _ (effects_fpToFixed _ _ _ _ _ _ _))
theorem execFloorLS_effects (s : State) (fs fd : Reg) : Effects s (execFloorLS fs fd s) :=
  effects_needCop _ (effects_needFpLevel _ (effects_fpToFixed _ _ _ _ _ _ _))
theorem execFloorLD_effects (s : State) (fs fd : Reg) : Effects s (execFloorLD fs fd s) :=
  effects_needCop _ (effects_needFpLevel _ (effects_fpToFixed _ _ _ _ _ _ _))
theorem execRoundWS_effects (s : State) (fs fd : Reg) : Effects s (execRoundWS fs fd s) :=
  effects_needCop _ (effects_needFpLevel _ (effects_fpToFixed _ _ _ _ _ _ _))
theorem execRoundWD_effects (s : State) (fs fd : Reg) : Effects s (execRoundWD fs fd s) :=
  effects_needCop _ (effects_needFpLevel _ (effects_fpToFixed _ _ _ _ _ _ _))
theorem execTruncWS_effects (s : State) (fs fd : Reg) : Effects s (execTruncWS fs fd s) :=
  effects_needCop _ (effects_needFpLevel _ (effects_fpToFixed _ _ _ _ _ _ _))
theorem execTruncWD_effects (s : State) (fs fd : Reg) : Effects s (execTruncWD fs fd s) :=
  effects_needCop _ (effects_needFpLevel _ (effects_fpToFixed _ _ _ _ _ _ _))
theorem execCeilWS_effects (s : State) (fs fd : Reg) : Effects s (execCeilWS fs fd s) :=
  effects_needCop _ (effects_needFpLevel _ (effects_fpToFixed _ _ _ _ _ _ _))
theorem execCeilWD_effects (s : State) (fs fd : Reg) : Effects s (execCeilWD fs fd s) :=
  effects_needCop _ (effects_needFpLevel _ (effects_fpToFixed _ _ _ _ _ _ _))
theorem execFloorWS_effects (s : State) (fs fd : Reg) : Effects s (execFloorWS fs fd s) :=
  effects_needCop _ (effects_needFpLevel _ (effects_fpToFixed _ _ _ _ _ _ _))
theorem execFloorWD_effects (s : State) (fs fd : Reg) : Effects s (execFloorWD fs fd s) :=
  effects_needCop _ (effects_needFpLevel _ (effects_fpToFixed _ _ _ _ _ _ _))
theorem execCvtSD_effects (s : State) (fs fd : Reg) : Effects s (execCvtSD fs fd s) :=
  effects_needCop _ (effects_fpToFp _ _ _ _ _ _)
theorem execCvtSW_effects (s : State) (fs fd : Reg) : Effects s (execCvtSW fs fd s) :=
  effects_needCop _ (effects_fpFromFixed _ _ _ _ _ _)
theorem execCvtSL_effects (s : State) (fs fd : Reg) : Effects s (execCvtSL fs fd s) :=
  effects_needCop _ (effects_needFpLevel _ (effects_fpFromFixed _ _ _ _ _ _))
theorem execCvtDS_effects (s : State) (fs fd : Reg) : Effects s (execCvtDS fs fd s) :=
  effects_needCop _ (effects_fpToFp _ _ _ _ _ _)
theorem execCvtDW_effects (s : State) (fs fd : Reg) : Effects s (execCvtDW fs fd s) :=
  effects_needCop _ (effects_fpFromFixed _ _ _ _ _ _)
theorem execCvtDL_effects (s : State) (fs fd : Reg) : Effects s (execCvtDL fs fd s) :=
  effects_needCop _ (effects_needFpLevel _ (effects_fpFromFixed _ _ _ _ _ _))
theorem execCvtWS_effects (s : State) (fs fd : Reg) : Effects s (execCvtWS fs fd s) :=
  effects_needCop _ (effects_fpToFixed _ _ _ _ _ _ _)
theorem execCvtWD_effects (s : State) (fs fd : Reg) : Effects s (execCvtWD fs fd s) :=
  effects_needCop _ (effects_fpToFixed _ _ _ _ _ _ _)
theorem execCvtLS_effects (s : State) (fs fd : Reg) : Effects s (execCvtLS fs fd s) :=
  effects_needCop _ (effects_needFpLevel _ (effects_fpToFixed _ _ _ _ _ _ _))
theorem execCvtLD_effects (s : State) (fs fd : Reg) : Effects s (execCvtLD fs fd s) :=
  effects_needCop _ (effects_needFpLevel _ (effects_fpToFixed _ _ _ _ _ _ _))
theorem execCFS_effects (s : State) (ft fs : Reg) (cc : BitVec 3) : Effects s (execCFS ft fs cc s) :=
  effects_fpCompareOp _ _ _ _ _ _ _
theorem execCFD_effects (s : State) (ft fs : Reg) (cc : BitVec 3) : Effects s (execCFD ft fs cc s) :=
  effects_fpCompareOp _ _ _ _ _ _ _
theorem execCUnS_effects (s : State) (ft fs : Reg) (cc : BitVec 3) : Effects s (execCUnS ft fs cc s) :=
  effects_fpCompareOp _ _ _ _ _ _ _
theorem execCUnD_effects (s : State) (ft fs : Reg) (cc : BitVec 3) : Effects s (execCUnD ft fs cc s) :=
  effects_fpCompareOp _ _ _ _ _ _ _
theorem execCEqS_effects (s : State) (ft fs : Reg) (cc : BitVec 3) : Effects s (execCEqS ft fs cc s) :=
  effects_fpCompareOp _ _ _ _ _ _ _
theorem execCEqD_effects (s : State) (ft fs : Reg) (cc : BitVec 3) : Effects s (execCEqD ft fs cc s) :=
  effects_fpCompareOp _ _ _ _ _ _ _
theorem execCUeqS_effects (s : State) (ft fs : Reg) (cc : BitVec 3) : Effects s (execCUeqS ft fs cc s) :=
  effects_fpCompareOp _ _ _ _ _ _ _
theorem execCUeqD_effects (s : State) (ft fs : Reg) (cc : BitVec 3) : Effects s (execCUeqD ft fs cc s) :=
  effects_fpCompareOp _ _ _ _ _ _ _
theorem execCOltS_effects (s : State) (ft fs : Reg) (cc : BitVec 3) : Effects s (execCOltS ft fs cc s) :=
  effects_fpCompareOp _ _ _ _ _ _ _
theorem execCOltD_effects (s : State) (ft fs : Reg) (cc : BitVec 3) : Effects s (execCOltD ft fs cc s) :=
  effects_fpCompareOp _ _ _ _ _ _ _
theorem execCUltS_effects (s : State) (ft fs : Reg) (cc : BitVec 3) : Effects s (execCUltS ft fs cc s) :=
  effects_fpCompareOp _ _ _ _ _ _ _
theorem execCUltD_effects (s : State) (ft fs : Reg) (cc : BitVec 3) : Effects s (execCUltD ft fs cc s) :=
  effects_fpCompareOp _ _ _ _ _ _ _
theorem execCOleS_effects (s : State) (ft fs : Reg) (cc : BitVec 3) : Effects s (execCOleS ft fs cc s) :=
  effects_fpCompareOp _ _ _ _ _ _ _
theorem execCOleD_effects (s : State) (ft fs : Reg) (cc : BitVec 3) : Effects s (execCOleD ft fs cc s) :=
  effects_fpCompareOp _ _ _ _ _ _ _
theorem execCUleS_effects (s : State) (ft fs : Reg) (cc : BitVec 3) : Effects s (execCUleS ft fs cc s) :=
  effects_fpCompareOp _ _ _ _ _ _ _
theorem execCUleD_effects (s : State) (ft fs : Reg) (cc : BitVec 3) : Effects s (execCUleD ft fs cc s) :=
  effects_fpCompareOp _ _ _ _ _ _ _
theorem execCSfS_effects (s : State) (ft fs : Reg) (cc : BitVec 3) : Effects s (execCSfS ft fs cc s) :=
  effects_fpCompareOp _ _ _ _ _ _ _
theorem execCSfD_effects (s : State) (ft fs : Reg) (cc : BitVec 3) : Effects s (execCSfD ft fs cc s) :=
  effects_fpCompareOp _ _ _ _ _ _ _
theorem execCNgleS_effects (s : State) (ft fs : Reg) (cc : BitVec 3) : Effects s (execCNgleS ft fs cc s) :=
  effects_fpCompareOp _ _ _ _ _ _ _
theorem execCNgleD_effects (s : State) (ft fs : Reg) (cc : BitVec 3) : Effects s (execCNgleD ft fs cc s) :=
  effects_fpCompareOp _ _ _ _ _ _ _
theorem execCSeqS_effects (s : State) (ft fs : Reg) (cc : BitVec 3) : Effects s (execCSeqS ft fs cc s) :=
  effects_fpCompareOp _ _ _ _ _ _ _
theorem execCSeqD_effects (s : State) (ft fs : Reg) (cc : BitVec 3) : Effects s (execCSeqD ft fs cc s) :=
  effects_fpCompareOp _ _ _ _ _ _ _
theorem execCNglS_effects (s : State) (ft fs : Reg) (cc : BitVec 3) : Effects s (execCNglS ft fs cc s) :=
  effects_fpCompareOp _ _ _ _ _ _ _
theorem execCNglD_effects (s : State) (ft fs : Reg) (cc : BitVec 3) : Effects s (execCNglD ft fs cc s) :=
  effects_fpCompareOp _ _ _ _ _ _ _
theorem execCLtS_effects (s : State) (ft fs : Reg) (cc : BitVec 3) : Effects s (execCLtS ft fs cc s) :=
  effects_fpCompareOp _ _ _ _ _ _ _
theorem execCLtD_effects (s : State) (ft fs : Reg) (cc : BitVec 3) : Effects s (execCLtD ft fs cc s) :=
  effects_fpCompareOp _ _ _ _ _ _ _
theorem execCNgeS_effects (s : State) (ft fs : Reg) (cc : BitVec 3) : Effects s (execCNgeS ft fs cc s) :=
  effects_fpCompareOp _ _ _ _ _ _ _
theorem execCNgeD_effects (s : State) (ft fs : Reg) (cc : BitVec 3) : Effects s (execCNgeD ft fs cc s) :=
  effects_fpCompareOp _ _ _ _ _ _ _
theorem execCLeS_effects (s : State) (ft fs : Reg) (cc : BitVec 3) : Effects s (execCLeS ft fs cc s) :=
  effects_fpCompareOp _ _ _ _ _ _ _
theorem execCLeD_effects (s : State) (ft fs : Reg) (cc : BitVec 3) : Effects s (execCLeD ft fs cc s) :=
  effects_fpCompareOp _ _ _ _ _ _ _
theorem execCNgtS_effects (s : State) (ft fs : Reg) (cc : BitVec 3) : Effects s (execCNgtS ft fs cc s) :=
  effects_fpCompareOp _ _ _ _ _ _ _
theorem execCNgtD_effects (s : State) (ft fs : Reg) (cc : BitVec 3) : Effects s (execCNgtD ft fs cc s) :=
  effects_fpCompareOp _ _ _ _ _ _ _
theorem execMovfS_effects (s : State) (cc : BitVec 3) (fs fd : Reg) : Effects s (execMovfS cc fs fd s) :=
  effects_needCop _ (effects_needFpLevel _ (effects_fpMove _ _ _ _ _ _ _))
theorem execMovfD_effects (s : State) (cc : BitVec 3) (fs fd : Reg) : Effects s (execMovfD cc fs fd s) :=
  effects_needCop _ (effects_needFpLevel _ (effects_fpMove _ _ _ _ _ _ _))
theorem execMovtS_effects (s : State) (cc : BitVec 3) (fs fd : Reg) : Effects s (execMovtS cc fs fd s) :=
  effects_needCop _ (effects_needFpLevel _ (effects_fpMove _ _ _ _ _ _ _))
theorem execMovtD_effects (s : State) (cc : BitVec 3) (fs fd : Reg) : Effects s (execMovtD cc fs fd s) :=
  effects_needCop _ (effects_needFpLevel _ (effects_fpMove _ _ _ _ _ _ _))
theorem execMovzS_effects (s : State) (rt fs fd : Reg) : Effects s (execMovzS rt fs fd s) :=
  effects_needCop _ (effects_needFpLevel _ (effects_fpMove _ _ _ _ _ _ _))
theorem execMovzD_effects (s : State) (rt fs fd : Reg) : Effects s (execMovzD rt fs fd s) :=
  effects_needCop _ (effects_needFpLevel _ (effects_fpMove _ _ _ _ _ _ _))
theorem execMovnS_effects (s : State) (rt fs fd : Reg) : Effects s (execMovnS rt fs fd s) :=
  effects_needCop _ (effects_needFpLevel _ (effects_fpMove _ _ _ _ _ _ _))
theorem execMovnD_effects (s : State) (rt fs fd : Reg) : Effects s (execMovnD rt fs fd s) :=
  effects_needCop _ (effects_needFpLevel _ (effects_fpMove _ _ _ _ _ _ _))
theorem execLwxc1_effects (s : State) (base index fd : Reg) : Effects s (execLwxc1 base index fd s) :=
  effects_needCop1x (effects_withIndex _ _ _ _ fun _ => effects_loadWordC1 _ _ _ _)
theorem execLdxc1_effects (s : State) (base index fd : Reg) : Effects s (execLdxc1 base index fd s) :=
  effects_needCop1x (effects_withIndex _ _ _ _ fun _ => effects_loadDwordC1 _ _ _ _)
theorem execSwxc1_effects (s : State) (base index fs : Reg) : Effects s (execSwxc1 base index fs s) :=
  effects_needCop1x (effects_withIndex _ _ _ _ fun _ => effects_storeC1 _ _ _ _)
theorem execSdxc1_effects (s : State) (base index fs : Reg) : Effects s (execSdxc1 base index fs s) :=
  effects_needCop1x (effects_withIndex _ _ _ _ fun _ => effects_storeC1 _ _ _ _)
theorem execPrefx_effects (s : State) (base index : Reg) (hint : BitVec 5) : Effects s (execPrefx base index hint s) :=
  effects_needCop1x (effects_needRegion _ _ (effects_next (Body.refl s).retire))
theorem execMaddS_effects (s : State) (fr ft fs fd : Reg) : Effects s (execMaddS fr ft fs fd s) :=
  effects_fpTernary _ _ _ _ _ _ _ _ _
theorem execMaddD_effects (s : State) (fr ft fs fd : Reg) : Effects s (execMaddD fr ft fs fd s) :=
  effects_fpTernary _ _ _ _ _ _ _ _ _
theorem execMsubS_effects (s : State) (fr ft fs fd : Reg) : Effects s (execMsubS fr ft fs fd s) :=
  effects_fpTernary _ _ _ _ _ _ _ _ _
theorem execMsubD_effects (s : State) (fr ft fs fd : Reg) : Effects s (execMsubD fr ft fs fd s) :=
  effects_fpTernary _ _ _ _ _ _ _ _ _
theorem execNmaddS_effects (s : State) (fr ft fs fd : Reg) : Effects s (execNmaddS fr ft fs fd s) :=
  effects_fpTernary _ _ _ _ _ _ _ _ _
theorem execNmaddD_effects (s : State) (fr ft fs fd : Reg) : Effects s (execNmaddD fr ft fs fd s) :=
  effects_fpTernary _ _ _ _ _ _ _ _ _
theorem execNmsubS_effects (s : State) (fr ft fs fd : Reg) : Effects s (execNmsubS fr ft fs fd s) :=
  effects_fpTernary _ _ _ _ _ _ _ _ _
theorem execNmsubD_effects (s : State) (fr ft fs fd : Reg) : Effects s (execNmsubD fr ft fs fd s) :=
  effects_fpTernary _ _ _ _ _ _ _ _ _

/-- Every next state of `exec` is an effect. -/
theorem exec_effects (i : Instr) (s : State) : Effects s (exec i s) := by
  cases i
  case lb x0 x1 x2 => exact execLb_effects s x0 x1 x2
  case lbu x0 x1 x2 => exact execLbu_effects s x0 x1 x2
  case lh x0 x1 x2 => exact execLh_effects s x0 x1 x2
  case lhu x0 x1 x2 => exact execLhu_effects s x0 x1 x2
  case lw x0 x1 x2 => exact execLw_effects s x0 x1 x2
  case lwu x0 x1 x2 => exact execLwu_effects s x0 x1 x2
  case ld x0 x1 x2 => exact execLd_effects s x0 x1 x2
  case sb x0 x1 x2 => exact execSb_effects s x0 x1 x2
  case sh x0 x1 x2 => exact execSh_effects s x0 x1 x2
  case sw x0 x1 x2 => exact execSw_effects s x0 x1 x2
  case sd x0 x1 x2 => exact execSd_effects s x0 x1 x2
  case lwl x0 x1 x2 => exact execLwl_effects s x0 x1 x2
  case lwr x0 x1 x2 => exact execLwr_effects s x0 x1 x2
  case ldl x0 x1 x2 => exact execLdl_effects s x0 x1 x2
  case ldr x0 x1 x2 => exact execLdr_effects s x0 x1 x2
  case swl x0 x1 x2 => exact execSwl_effects s x0 x1 x2
  case swr x0 x1 x2 => exact execSwr_effects s x0 x1 x2
  case sdl x0 x1 x2 => exact execSdl_effects s x0 x1 x2
  case sdr x0 x1 x2 => exact execSdr_effects s x0 x1 x2
  case ll x0 x1 x2 => exact execLl_effects s x0 x1 x2
  case lld x0 x1 x2 => exact execLld_effects s x0 x1 x2
  case sc x0 x1 x2 => exact execSc_effects s x0 x1 x2
  case scd x0 x1 x2 => exact execScd_effects s x0 x1 x2
  case lwc2 x0 x1 x2 => exact execLwc2_effects s x0 x1 x2
  case swc2 x0 x1 x2 => exact execSwc2_effects s x0 x1 x2
  case ldc2 x0 x1 x2 => exact execLdc2_effects s x0 x1 x2
  case sdc2 x0 x1 x2 => exact execSdc2_effects s x0 x1 x2
  case pref x0 x1 x2 => exact execPref_effects s x0 x1 x2
  case addi x0 x1 x2 => exact execAddi_effects s x0 x1 x2
  case addiu x0 x1 x2 => exact execAddiu_effects s x0 x1 x2
  case slti x0 x1 x2 => exact execSlti_effects s x0 x1 x2
  case sltiu x0 x1 x2 => exact execSltiu_effects s x0 x1 x2
  case andi x0 x1 x2 => exact execAndi_effects s x0 x1 x2
  case ori x0 x1 x2 => exact execOri_effects s x0 x1 x2
  case xori x0 x1 x2 => exact execXori_effects s x0 x1 x2
  case daddi x0 x1 x2 => exact execDaddi_effects s x0 x1 x2
  case daddiu x0 x1 x2 => exact execDaddiu_effects s x0 x1 x2
  case lui x0 x1 => exact execLui_effects s x0 x1
  case beq x0 x1 x2 => exact execBeq_effects s x0 x1 x2
  case bne x0 x1 x2 => exact execBne_effects s x0 x1 x2
  case beql x0 x1 x2 => exact execBeql_effects s x0 x1 x2
  case bnel x0 x1 x2 => exact execBnel_effects s x0 x1 x2
  case blez x0 x1 => exact execBlez_effects s x0 x1
  case bgtz x0 x1 => exact execBgtz_effects s x0 x1
  case blezl x0 x1 => exact execBlezl_effects s x0 x1
  case bgtzl x0 x1 => exact execBgtzl_effects s x0 x1
  case bltz x0 x1 => exact execBltz_effects s x0 x1
  case bgez x0 x1 => exact execBgez_effects s x0 x1
  case bltzl x0 x1 => exact execBltzl_effects s x0 x1
  case bgezl x0 x1 => exact execBgezl_effects s x0 x1
  case bltzal x0 x1 => exact execBltzal_effects s x0 x1
  case bgezal x0 x1 => exact execBgezal_effects s x0 x1
  case bltzall x0 x1 => exact execBltzall_effects s x0 x1
  case bgezall x0 x1 => exact execBgezall_effects s x0 x1
  case tgei x0 x1 => exact execTgei_effects s x0 x1
  case tgeiu x0 x1 => exact execTgeiu_effects s x0 x1
  case tlti x0 x1 => exact execTlti_effects s x0 x1
  case tltiu x0 x1 => exact execTltiu_effects s x0 x1
  case teqi x0 x1 => exact execTeqi_effects s x0 x1
  case tnei x0 x1 => exact execTnei_effects s x0 x1
  case j x0 => exact execJ_effects s x0
  case jal x0 => exact execJal_effects s x0
  case add x0 x1 x2 => exact execAdd_effects s x0 x1 x2
  case addu x0 x1 x2 => exact execAddu_effects s x0 x1 x2
  case sub x0 x1 x2 => exact execSub_effects s x0 x1 x2
  case subu x0 x1 x2 => exact execSubu_effects s x0 x1 x2
  case and x0 x1 x2 => exact execAnd_effects s x0 x1 x2
  case or x0 x1 x2 => exact execOr_effects s x0 x1 x2
  case xor x0 x1 x2 => exact execXor_effects s x0 x1 x2
  case nor x0 x1 x2 => exact execNor_effects s x0 x1 x2
  case slt x0 x1 x2 => exact execSlt_effects s x0 x1 x2
  case sltu x0 x1 x2 => exact execSltu_effects s x0 x1 x2
  case dadd x0 x1 x2 => exact execDadd_effects s x0 x1 x2
  case daddu x0 x1 x2 => exact execDaddu_effects s x0 x1 x2
  case dsub x0 x1 x2 => exact execDsub_effects s x0 x1 x2
  case dsubu x0 x1 x2 => exact execDsubu_effects s x0 x1 x2
  case sllv x0 x1 x2 => exact execSllv_effects s x0 x1 x2
  case srlv x0 x1 x2 => exact execSrlv_effects s x0 x1 x2
  case srav x0 x1 x2 => exact execSrav_effects s x0 x1 x2
  case dsllv x0 x1 x2 => exact execDsllv_effects s x0 x1 x2
  case dsrlv x0 x1 x2 => exact execDsrlv_effects s x0 x1 x2
  case dsrav x0 x1 x2 => exact execDsrav_effects s x0 x1 x2
  case movz x0 x1 x2 => exact execMovz_effects s x0 x1 x2
  case movn x0 x1 x2 => exact execMovn_effects s x0 x1 x2
  case sll x0 x1 x2 => exact execSll_effects s x0 x1 x2
  case srl x0 x1 x2 => exact execSrl_effects s x0 x1 x2
  case sra x0 x1 x2 => exact execSra_effects s x0 x1 x2
  case dsll x0 x1 x2 => exact execDsll_effects s x0 x1 x2
  case dsrl x0 x1 x2 => exact execDsrl_effects s x0 x1 x2
  case dsra x0 x1 x2 => exact execDsra_effects s x0 x1 x2
  case dsll32 x0 x1 x2 => exact execDsll32_effects s x0 x1 x2
  case dsrl32 x0 x1 x2 => exact execDsrl32_effects s x0 x1 x2
  case dsra32 x0 x1 x2 => exact execDsra32_effects s x0 x1 x2
  case mult x0 x1 => exact execMult_effects s x0 x1
  case multu x0 x1 => exact execMultu_effects s x0 x1
  case div x0 x1 => exact execDiv_effects s x0 x1
  case divu x0 x1 => exact execDivu_effects s x0 x1
  case dmult x0 x1 => exact execDmult_effects s x0 x1
  case dmultu x0 x1 => exact execDmultu_effects s x0 x1
  case ddiv x0 x1 => exact execDdiv_effects s x0 x1
  case ddivu x0 x1 => exact execDdivu_effects s x0 x1
  case mfhi x0 => exact execMfhi_effects s x0
  case mflo x0 => exact execMflo_effects s x0
  case mthi x0 => exact execMthi_effects s x0
  case mtlo x0 => exact execMtlo_effects s x0
  case jr x0 => exact execJr_effects s x0
  case jalr x0 x1 => exact execJalr_effects s x0 x1
  case syscall x0 => exact execSyscall_effects s x0
  case breakpoint x0 => exact execBreakpoint_effects s x0
  case sync x0 => exact execSync_effects s x0
  case tge x0 x1 x2 => exact execTge_effects s x0 x1 x2
  case tgeu x0 x1 x2 => exact execTgeu_effects s x0 x1 x2
  case tlt x0 x1 x2 => exact execTlt_effects s x0 x1 x2
  case tltu x0 x1 x2 => exact execTltu_effects s x0 x1 x2
  case teq x0 x1 x2 => exact execTeq_effects s x0 x1 x2
  case tne x0 x1 x2 => exact execTne_effects s x0 x1 x2
  case movf x0 x1 x2 => exact execMovf_effects s x0 x1 x2
  case movt x0 x1 x2 => exact execMovt_effects s x0 x1 x2
  case cop0 x0 => exact execCop0_effects s x0
  case cop2 x0 => exact execCop2_effects s x0
  case lwc1 x0 x1 x2 => exact execLwc1_effects s x0 x1 x2
  case swc1 x0 x1 x2 => exact execSwc1_effects s x0 x1 x2
  case ldc1 x0 x1 x2 => exact execLdc1_effects s x0 x1 x2
  case sdc1 x0 x1 x2 => exact execSdc1_effects s x0 x1 x2
  case mfc1 x0 x1 => exact execMfc1_effects s x0 x1
  case dmfc1 x0 x1 => exact execDmfc1_effects s x0 x1
  case cfc1 x0 x1 => exact execCfc1_effects s x0 x1
  case mtc1 x0 x1 => exact execMtc1_effects s x0 x1
  case dmtc1 x0 x1 => exact execDmtc1_effects s x0 x1
  case ctc1 x0 x1 => exact execCtc1_effects s x0 x1
  case bc1f x0 x1 => exact execBc1f_effects s x0 x1
  case bc1t x0 x1 => exact execBc1t_effects s x0 x1
  case bc1fl x0 x1 => exact execBc1fl_effects s x0 x1
  case bc1tl x0 x1 => exact execBc1tl_effects s x0 x1
  case addS x0 x1 x2 => exact execAddS_effects s x0 x1 x2
  case addD x0 x1 x2 => exact execAddD_effects s x0 x1 x2
  case subS x0 x1 x2 => exact execSubS_effects s x0 x1 x2
  case subD x0 x1 x2 => exact execSubD_effects s x0 x1 x2
  case mulS x0 x1 x2 => exact execMulS_effects s x0 x1 x2
  case mulD x0 x1 x2 => exact execMulD_effects s x0 x1 x2
  case divS x0 x1 x2 => exact execDivS_effects s x0 x1 x2
  case divD x0 x1 x2 => exact execDivD_effects s x0 x1 x2
  case sqrtS x0 x1 => exact execSqrtS_effects s x0 x1
  case sqrtD x0 x1 => exact execSqrtD_effects s x0 x1
  case absS x0 x1 => exact execAbsS_effects s x0 x1
  case absD x0 x1 => exact execAbsD_effects s x0 x1
  case movS x0 x1 => exact execMovS_effects s x0 x1
  case movD x0 x1 => exact execMovD_effects s x0 x1
  case negS x0 x1 => exact execNegS_effects s x0 x1
  case negD x0 x1 => exact execNegD_effects s x0 x1
  case recipS x0 x1 => exact execRecipS_effects s x0 x1
  case recipD x0 x1 => exact execRecipD_effects s x0 x1
  case rsqrtS x0 x1 => exact execRsqrtS_effects s x0 x1
  case rsqrtD x0 x1 => exact execRsqrtD_effects s x0 x1
  case roundLS x0 x1 => exact execRoundLS_effects s x0 x1
  case roundLD x0 x1 => exact execRoundLD_effects s x0 x1
  case truncLS x0 x1 => exact execTruncLS_effects s x0 x1
  case truncLD x0 x1 => exact execTruncLD_effects s x0 x1
  case ceilLS x0 x1 => exact execCeilLS_effects s x0 x1
  case ceilLD x0 x1 => exact execCeilLD_effects s x0 x1
  case floorLS x0 x1 => exact execFloorLS_effects s x0 x1
  case floorLD x0 x1 => exact execFloorLD_effects s x0 x1
  case roundWS x0 x1 => exact execRoundWS_effects s x0 x1
  case roundWD x0 x1 => exact execRoundWD_effects s x0 x1
  case truncWS x0 x1 => exact execTruncWS_effects s x0 x1
  case truncWD x0 x1 => exact execTruncWD_effects s x0 x1
  case ceilWS x0 x1 => exact execCeilWS_effects s x0 x1
  case ceilWD x0 x1 => exact execCeilWD_effects s x0 x1
  case floorWS x0 x1 => exact execFloorWS_effects s x0 x1
  case floorWD x0 x1 => exact execFloorWD_effects s x0 x1
  case cvtSD x0 x1 => exact execCvtSD_effects s x0 x1
  case cvtSW x0 x1 => exact execCvtSW_effects s x0 x1
  case cvtSL x0 x1 => exact execCvtSL_effects s x0 x1
  case cvtDS x0 x1 => exact execCvtDS_effects s x0 x1
  case cvtDW x0 x1 => exact execCvtDW_effects s x0 x1
  case cvtDL x0 x1 => exact execCvtDL_effects s x0 x1
  case cvtWS x0 x1 => exact execCvtWS_effects s x0 x1
  case cvtWD x0 x1 => exact execCvtWD_effects s x0 x1
  case cvtLS x0 x1 => exact execCvtLS_effects s x0 x1
  case cvtLD x0 x1 => exact execCvtLD_effects s x0 x1
  case cFS x0 x1 x2 => exact execCFS_effects s x0 x1 x2
  case cFD x0 x1 x2 => exact execCFD_effects s x0 x1 x2
  case cUnS x0 x1 x2 => exact execCUnS_effects s x0 x1 x2
  case cUnD x0 x1 x2 => exact execCUnD_effects s x0 x1 x2
  case cEqS x0 x1 x2 => exact execCEqS_effects s x0 x1 x2
  case cEqD x0 x1 x2 => exact execCEqD_effects s x0 x1 x2
  case cUeqS x0 x1 x2 => exact execCUeqS_effects s x0 x1 x2
  case cUeqD x0 x1 x2 => exact execCUeqD_effects s x0 x1 x2
  case cOltS x0 x1 x2 => exact execCOltS_effects s x0 x1 x2
  case cOltD x0 x1 x2 => exact execCOltD_effects s x0 x1 x2
  case cUltS x0 x1 x2 => exact execCUltS_effects s x0 x1 x2
  case cUltD x0 x1 x2 => exact execCUltD_effects s x0 x1 x2
  case cOleS x0 x1 x2 => exact execCOleS_effects s x0 x1 x2
  case cOleD x0 x1 x2 => exact execCOleD_effects s x0 x1 x2
  case cUleS x0 x1 x2 => exact execCUleS_effects s x0 x1 x2
  case cUleD x0 x1 x2 => exact execCUleD_effects s x0 x1 x2
  case cSfS x0 x1 x2 => exact execCSfS_effects s x0 x1 x2
  case cSfD x0 x1 x2 => exact execCSfD_effects s x0 x1 x2
  case cNgleS x0 x1 x2 => exact execCNgleS_effects s x0 x1 x2
  case cNgleD x0 x1 x2 => exact execCNgleD_effects s x0 x1 x2
  case cSeqS x0 x1 x2 => exact execCSeqS_effects s x0 x1 x2
  case cSeqD x0 x1 x2 => exact execCSeqD_effects s x0 x1 x2
  case cNglS x0 x1 x2 => exact execCNglS_effects s x0 x1 x2
  case cNglD x0 x1 x2 => exact execCNglD_effects s x0 x1 x2
  case cLtS x0 x1 x2 => exact execCLtS_effects s x0 x1 x2
  case cLtD x0 x1 x2 => exact execCLtD_effects s x0 x1 x2
  case cNgeS x0 x1 x2 => exact execCNgeS_effects s x0 x1 x2
  case cNgeD x0 x1 x2 => exact execCNgeD_effects s x0 x1 x2
  case cLeS x0 x1 x2 => exact execCLeS_effects s x0 x1 x2
  case cLeD x0 x1 x2 => exact execCLeD_effects s x0 x1 x2
  case cNgtS x0 x1 x2 => exact execCNgtS_effects s x0 x1 x2
  case cNgtD x0 x1 x2 => exact execCNgtD_effects s x0 x1 x2
  case movfS x0 x1 x2 => exact execMovfS_effects s x0 x1 x2
  case movfD x0 x1 x2 => exact execMovfD_effects s x0 x1 x2
  case movtS x0 x1 x2 => exact execMovtS_effects s x0 x1 x2
  case movtD x0 x1 x2 => exact execMovtD_effects s x0 x1 x2
  case movzS x0 x1 x2 => exact execMovzS_effects s x0 x1 x2
  case movzD x0 x1 x2 => exact execMovzD_effects s x0 x1 x2
  case movnS x0 x1 x2 => exact execMovnS_effects s x0 x1 x2
  case movnD x0 x1 x2 => exact execMovnD_effects s x0 x1 x2
  case lwxc1 x0 x1 x2 => exact execLwxc1_effects s x0 x1 x2
  case ldxc1 x0 x1 x2 => exact execLdxc1_effects s x0 x1 x2
  case swxc1 x0 x1 x2 => exact execSwxc1_effects s x0 x1 x2
  case sdxc1 x0 x1 x2 => exact execSdxc1_effects s x0 x1 x2
  case prefx x0 x1 x2 => exact execPrefx_effects s x0 x1 x2
  case maddS x0 x1 x2 x3 => exact execMaddS_effects s x0 x1 x2 x3
  case maddD x0 x1 x2 x3 => exact execMaddD_effects s x0 x1 x2 x3
  case msubS x0 x1 x2 x3 => exact execMsubS_effects s x0 x1 x2 x3
  case msubD x0 x1 x2 x3 => exact execMsubD_effects s x0 x1 x2 x3
  case nmaddS x0 x1 x2 x3 => exact execNmaddS_effects s x0 x1 x2 x3
  case nmaddD x0 x1 x2 x3 => exact execNmaddD_effects s x0 x1 x2 x3
  case nmsubS x0 x1 x2 x3 => exact execNmsubS_effects s x0 x1 x2 x3
  case nmsubD x0 x1 x2 x3 => exact execNmsubD_effects s x0 x1 x2 x3

/-- Every next state of the instruction at `pc` is one. -/
theorem instrStep_effects (s : State) : Effects s s.instrStep := by
  refine effects_ite (fun _ => fun t h => nomatch h) fun _ => ?_
  refine effects_orRaise _ _ fun bs _ => ?_
  split
  · exact effects_rejected s _
  · split
    · exact effects_refused s _
    · exact exec_effects _ s

/-- The four ways a step answers with a next state: by the environment's handler, over a nullified slot, by an instruction,
or by an event. -/
theorem step_next {s t : State} (h : step s = .next t) : s.ended = false ∧
    ((s.trapped = true ∧ t = s.runHandler) ∨ s.trapped = false ∧
    ((s.delay = .nullify ∧ t = s.skipSlot) ∨
    (s.delay ≠ .nullify ∧
      ((s.agenda = [] ∧ s.instrStep = .next t) ∨
      (∃ l, s.agenda = .idle :: l ∧ State.instrStep { s with agenda := l } = .next t) ∨
      ∃ e l, s.agenda = e :: l ∧ e ≠ .idle ∧ t = State.deliver { s with agenda := l } e)))) := by
  unfold step at h
  split at h
  · cases h
  · next he =>
    refine ⟨by simpa using he, ?_⟩
    split at h
    · next ht => cases h; exact .inl ⟨ht, rfl⟩
    next ht =>
    refine .inr ⟨by simpa using ht, ?_⟩
    split at h
    · next hd => cases h; exact .inl ⟨hd, rfl⟩
    · next hd =>
      refine .inr ⟨hd, ?_⟩
      split at h
      · next ha => exact .inl ⟨ha, h⟩
      · next l ha => exact .inr (.inl ⟨l, ha, h⟩)
      · next e l hne ha => cases h; exact .inr (.inr ⟨e, l, ha, fun c => hne c, rfl⟩)

end Sys2Proof.Machine
end

