-- ==== Sys2Proof/WellFormed.lean ====
section
/-! DEFINITION. The restrictions on an instruction that its word alone can break: the source calls what such an
instruction does undefined. The decoder accepts them (they are instructions); their meanings refuse by name. -/

namespace Sys2Proof

/-- The low-order `n` bits of an offset field are zero (20_memory.md R106, the MIPS IV offset restriction). -/
def offsetAligned (n : Nat) (offset : BitVec 16) : Bool := offset.toNat % 2 ^ n == 0

/-- The register a linking branch tests is not the one it links to (44_cpu_jump_branch.md R366). -/
def linkOk (rs rd : Reg) : Bool := rs != rd

/-- No restriction that the word alone can break is broken. -/
def WellFormed : Instr → Bool
  | .lb _ _ _ => true
  | .lbu _ _ _ => true
  | .lh _ _ offset => offsetAligned 1 offset
  | .lhu _ _ offset => offsetAligned 1 offset
  | .lw _ _ offset => offsetAligned 2 offset
  | .lwu _ _ offset => offsetAligned 2 offset
  | .ld _ _ offset => offsetAligned 3 offset
  | .sb _ _ _ => true
  | .sh _ _ offset => offsetAligned 1 offset
  | .sw _ _ offset => offsetAligned 2 offset
  | .sd _ _ offset => offsetAligned 3 offset
  | .lwl _ _ _ => true
  | .lwr _ _ _ => true
  | .ldl _ _ _ => true
  | .ldr _ _ _ => true
  | .swl _ _ _ => true
  | .swr _ _ _ => true
  | .sdl _ _ _ => true
  | .sdr _ _ _ => true
  | .ll _ _ offset => offsetAligned 2 offset
  | .lld _ _ offset => offsetAligned 3 offset
  | .sc _ _ offset => offsetAligned 2 offset
  | .scd _ _ offset => offsetAligned 3 offset
  | .lwc2 _ _ offset => offsetAligned 2 offset
  | .swc2 _ _ offset => offsetAligned 2 offset
  | .ldc2 _ _ offset => offsetAligned 3 offset
  | .sdc2 _ _ offset => offsetAligned 3 offset
  | .pref _ _ _ => true
  | .addi _ _ _ => true
  | .addiu _ _ _ => true
  | .slti _ _ _ => true
  | .sltiu _ _ _ => true
  | .andi _ _ _ => true
  | .ori _ _ _ => true
  | .xori _ _ _ => true
  | .daddi _ _ _ => true
  | .daddiu _ _ _ => true
  | .lui _ _ => true
  | .beq _ _ _ => true
  | .bne _ _ _ => true
  | .beql _ _ _ => true
  | .bnel _ _ _ => true
  | .blez _ _ => true
  | .bgtz _ _ => true
  | .blezl _ _ => true
  | .bgtzl _ _ => true
  | .bltz _ _ => true
  | .bgez _ _ => true
  | .bltzl _ _ => true
  | .bgezl _ _ => true
  | .bltzal rs _ => linkOk rs 31
  | .bgezal rs _ => linkOk rs 31
  | .bltzall rs _ => linkOk rs 31
  | .bgezall rs _ => linkOk rs 31
  | .tgei _ _ => true
  | .tgeiu _ _ => true
  | .tlti _ _ => true
  | .tltiu _ _ => true
  | .teqi _ _ => true
  | .tnei _ _ => true
  | .j _ => true
  | .jal _ => true
  | .add _ _ _ => true
  | .addu _ _ _ => true
  | .sub _ _ _ => true
  | .subu _ _ _ => true
  | .and _ _ _ => true
  | .or _ _ _ => true
  | .xor _ _ _ => true
  | .nor _ _ _ => true
  | .slt _ _ _ => true
  | .sltu _ _ _ => true
  | .dadd _ _ _ => true
  | .daddu _ _ _ => true
  | .dsub _ _ _ => true
  | .dsubu _ _ _ => true
  | .sllv _ _ _ => true
  | .srlv _ _ _ => true
  | .srav _ _ _ => true
  | .dsllv _ _ _ => true
  | .dsrlv _ _ _ => true
  | .dsrav _ _ _ => true
  | .movz _ _ _ => true
  | .movn _ _ _ => true
  | .sll _ _ _ => true
  | .srl _ _ _ => true
  | .sra _ _ _ => true
  | .dsll _ _ _ => true
  | .dsrl _ _ _ => true
  | .dsra _ _ _ => true
  | .dsll32 _ _ _ => true
  | .dsrl32 _ _ _ => true
  | .dsra32 _ _ _ => true
  | .mult _ _ => true
  | .multu _ _ => true
  | .div _ _ => true
  | .divu _ _ => true
  | .dmult _ _ => true
  | .dmultu _ _ => true
  | .ddiv _ _ => true
  | .ddivu _ _ => true
  | .mfhi _ => true
  | .mflo _ => true
  | .mthi _ => true
  | .mtlo _ => true
  | .jr _ => true
  | .jalr rs rd => linkOk rs rd
  | .syscall _ => true
  | .breakpoint _ => true
  | .sync _ => true
  | .tge _ _ _ => true
  | .tgeu _ _ _ => true
  | .tlt _ _ _ => true
  | .tltu _ _ _ => true
  | .teq _ _ _ => true
  | .tne _ _ _ => true
  | .movf _ _ _ => true
  | .movt _ _ _ => true
  | .cop0 _ => true
  | .cop2 _ => true
  | .lwc1 _ _ offset => offsetAligned 2 offset
  | .swc1 _ _ offset => offsetAligned 2 offset
  | .ldc1 _ _ offset => offsetAligned 3 offset
  | .sdc1 _ _ offset => offsetAligned 3 offset
  | .mfc1 _ _ => true
  | .dmfc1 _ _ => true
  | .cfc1 _ _ => true
  | .mtc1 _ _ => true
  | .dmtc1 _ _ => true
  | .ctc1 _ _ => true
  | .bc1f _ _ => true
  | .bc1t _ _ => true
  | .bc1fl _ _ => true
  | .bc1tl _ _ => true
  | .addS _ _ _ => true
  | .addD _ _ _ => true
  | .subS _ _ _ => true
  | .subD _ _ _ => true
  | .mulS _ _ _ => true
  | .mulD _ _ _ => true
  | .divS _ _ _ => true
  | .divD _ _ _ => true
  | .sqrtS _ _ => true
  | .sqrtD _ _ => true
  | .absS _ _ => true
  | .absD _ _ => true
  | .movS _ _ => true
  | .movD _ _ => true
  | .negS _ _ => true
  | .negD _ _ => true
  | .recipS _ _ => true
  | .recipD _ _ => true
  | .rsqrtS _ _ => true
  | .rsqrtD _ _ => true
  | .roundLS _ _ => true
  | .roundLD _ _ => true
  | .truncLS _ _ => true
  | .truncLD _ _ => true
  | .ceilLS _ _ => true
  | .ceilLD _ _ => true
  | .floorLS _ _ => true
  | .floorLD _ _ => true
  | .roundWS _ _ => true
  | .roundWD _ _ => true
  | .truncWS _ _ => true
  | .truncWD _ _ => true
  | .ceilWS _ _ => true
  | .ceilWD _ _ => true
  | .floorWS _ _ => true
  | .floorWD _ _ => true
  | .cvtSD _ _ => true
  | .cvtSW _ _ => true
  | .cvtSL _ _ => true
  | .cvtDS _ _ => true
  | .cvtDW _ _ => true
  | .cvtDL _ _ => true
  | .cvtWS _ _ => true
  | .cvtWD _ _ => true
  | .cvtLS _ _ => true
  | .cvtLD _ _ => true
  | .cFS _ _ _ => true
  | .cFD _ _ _ => true
  | .cUnS _ _ _ => true
  | .cUnD _ _ _ => true
  | .cEqS _ _ _ => true
  | .cEqD _ _ _ => true
  | .cUeqS _ _ _ => true
  | .cUeqD _ _ _ => true
  | .cOltS _ _ _ => true
  | .cOltD _ _ _ => true
  | .cUltS _ _ _ => true
  | .cUltD _ _ _ => true
  | .cOleS _ _ _ => true
  | .cOleD _ _ _ => true
  | .cUleS _ _ _ => true
  | .cUleD _ _ _ => true
  | .cSfS _ _ _ => true
  | .cSfD _ _ _ => true
  | .cNgleS _ _ _ => true
  | .cNgleD _ _ _ => true
  | .cSeqS _ _ _ => true
  | .cSeqD _ _ _ => true
  | .cNglS _ _ _ => true
  | .cNglD _ _ _ => true
  | .cLtS _ _ _ => true
  | .cLtD _ _ _ => true
  | .cNgeS _ _ _ => true
  | .cNgeD _ _ _ => true
  | .cLeS _ _ _ => true
  | .cLeD _ _ _ => true
  | .cNgtS _ _ _ => true
  | .cNgtD _ _ _ => true
  | .movfS _ _ _ => true
  | .movfD _ _ _ => true
  | .movtS _ _ _ => true
  | .movtD _ _ _ => true
  | .movzS _ _ _ => true
  | .movzD _ _ _ => true
  | .movnS _ _ _ => true
  | .movnD _ _ _ => true
  | .lwxc1 _ _ _ => true
  | .ldxc1 _ _ _ => true
  | .swxc1 _ _ _ => true
  | .sdxc1 _ _ _ => true
  | .prefx _ _ _ => true
  | .maddS _ _ _ _ => true
  | .maddD _ _ _ _ => true
  | .msubS _ _ _ _ => true
  | .msubD _ _ _ _ => true
  | .nmaddS _ _ _ _ => true
  | .nmaddD _ _ _ _ => true
  | .nmsubS _ _ _ _ => true
  | .nmsubD _ _ _ _ => true

end Sys2Proof
end

