-- ==== Sys2Proof/Tests/Slice0.lean ====
section
/-! SUPPORT. Small checks of the model against the spec: the well-formedness checks, a word of every encoding, worked
examples and derived vectors (spec/95_test_vectors.md, 60_exceptions.md R750, 70_reset_and_hazards.md R845), and for
every statement with hypotheses a state that meets them. -/

namespace Sys2Proof.Tests

open Sys2Proof Sys2Proof.Machine

/-! ### Well-formedness -/

/-- Offsets whose low bits are not zero (R106): one term for each of the instructions checked. -/
def badOffsets : List Instr :=
  [.lh 1 2 1, .lhu 1 2 1, .lw 1 2 2, .lwu 1 2 1, .ld 1 2 4, .sh 1 2 1, .sw 1 2 3, .sd 1 2 4, .ll 1 2 2, .lld 1 2 4,
    .sc 1 2 2, .scd 1 2 4, .lwc2 1 2 2, .swc2 1 2 2, .ldc2 1 2 4, .sdc2 1 2 4, .lwc1 1 2 2, .swc1 1 2 2, .ldc1 1 2 4,
    .sdc1 1 2 4]

theorem test_bad_offsets_are_ill_formed : badOffsets.all (fun i => !WellFormed i) = true := by decide

/-- Link registers that are read (R366, R373). -/
theorem test_bad_links_are_ill_formed :
    ([.bltzal 31 0, .bgezal 31 0, .bltzall 31 0, .bgezall 31 0, .jalr 5 5] : List Instr).all (fun i => !WellFormed i)
      = true := by
  decide

/-- The neighbours of the terms refused are accepted. -/
theorem test_good_neighbours_are_well_formed :
    ([.lh 1 2 2, .lw 1 2 0xFFFC, .ld 1 2 8, .lb 1 2 1, .lwl 1 2 1, .bltzal 30 0, .jalr 5 31] : List Instr).all
      WellFormed
      = true := by decide

/-! ### Decoding: a word of every encoding, its fields written out from spec/30_encoding.md -/

/-- Every word of the list decodes to the instruction beside it. -/
def decodesAll (l : List (Word × Instr)) : Bool :=
  l.all fun p => match decode p.1 with | .ok i => i == p.2 | .error _ => false

theorem test_decode_loads_and_stores_1 : decodesAll [
    (0b100000_00100_00010_1111111111111000#32, .lb 4 2 0xfff8),
    (0b100100_00100_00010_1111111111111000#32, .lbu 4 2 0xfff8),
    (0b100001_00100_00010_1111111111111000#32, .lh 4 2 0xfff8),
    (0b100101_00100_00010_1111111111111000#32, .lhu 4 2 0xfff8),
    (0b100011_00100_00010_1111111111111000#32, .lw 4 2 0xfff8),
    (0b100111_00100_00010_1111111111111000#32, .lwu 4 2 0xfff8),
    (0b110111_00100_00010_1111111111111000#32, .ld 4 2 0xfff8),
    (0b101000_00100_00010_1111111111111000#32, .sb 4 2 0xfff8),
    (0b101001_00100_00010_1111111111111000#32, .sh 4 2 0xfff8),
    (0b101011_00100_00010_1111111111111000#32, .sw 4 2 0xfff8),
    (0b111111_00100_00010_1111111111111000#32, .sd 4 2 0xfff8),
    (0b100010_00100_00010_1111111111111000#32, .lwl 4 2 0xfff8),
    (0b100110_00100_00010_1111111111111000#32, .lwr 4 2 0xfff8),
    (0b011010_00100_00010_1111111111111000#32, .ldl 4 2 0xfff8),
    (0b011011_00100_00010_1111111111111000#32, .ldr 4 2 0xfff8),
    (0b101010_00100_00010_1111111111111000#32, .swl 4 2 0xfff8)] = true := by decide

theorem test_decode_loads_and_stores_2 : decodesAll [
    (0b101110_00100_00010_1111111111111000#32, .swr 4 2 0xfff8),
    (0b101100_00100_00010_1111111111111000#32, .sdl 4 2 0xfff8),
    (0b101101_00100_00010_1111111111111000#32, .sdr 4 2 0xfff8),
    (0b110000_00100_00010_1111111111111000#32, .ll 4 2 0xfff8),
    (0b110100_00100_00010_1111111111111000#32, .lld 4 2 0xfff8),
    (0b111000_00100_00010_1111111111111000#32, .sc 4 2 0xfff8),
    (0b111100_00100_00010_1111111111111000#32, .scd 4 2 0xfff8),
    (0b110010_00100_00010_1111111111111000#32, .lwc2 4 2 0xfff8),
    (0b111010_00100_00010_1111111111111000#32, .swc2 4 2 0xfff8),
    (0b110110_00100_00010_1111111111111000#32, .ldc2 4 2 0xfff8),
    (0b111110_00100_00010_1111111111111000#32, .sdc2 4 2 0xfff8),
    (0b110011_00100_10011_1111111111111000#32, .pref 4 0x13 0xfff8),
    (0b110001_00100_00111_1111111111111000#32, .lwc1 4 7 0xfff8),
    (0b111001_00100_00111_1111111111111000#32, .swc1 4 7 0xfff8),
    (0b110101_00100_00111_1111111111111000#32, .ldc1 4 7 0xfff8),
    (0b111101_00100_00111_1111111111111000#32, .sdc1 4 7 0xfff8)] = true := by decide

theorem test_decode_jumps_branches_immediates_1 : decodesAll [
    (0b001000_00001_00010_1000000000000001#32, .addi 1 2 0x8001),
    (0b001001_00001_00010_1000000000000001#32, .addiu 1 2 0x8001),
    (0b001010_00001_00010_1000000000000001#32, .slti 1 2 0x8001),
    (0b001011_00001_00010_1000000000000001#32, .sltiu 1 2 0x8001),
    (0b001100_00001_00010_1000000000000001#32, .andi 1 2 0x8001),
    (0b001101_00001_00010_1000000000000001#32, .ori 1 2 0x8001),
    (0b001110_00001_00010_1000000000000001#32, .xori 1 2 0x8001),
    (0b011000_00001_00010_1000000000000001#32, .daddi 1 2 0x8001),
    (0b011001_00001_00010_1000000000000001#32, .daddiu 1 2 0x8001),
    (0b00111100000_00010_1000000000000001#32, .lui 2 0x8001),
    (0b000100_00001_00010_1111111111111000#32, .beq 1 2 0xfff8),
    (0b000101_00001_00010_1111111111111000#32, .bne 1 2 0xfff8),
    (0b010100_00001_00010_1111111111111000#32, .beql 1 2 0xfff8),
    (0b010101_00001_00010_1111111111111000#32, .bnel 1 2 0xfff8),
    (0b000110_00001_00000_1111111111111000#32, .blez 1 0xfff8),
    (0b000111_00001_00000_1111111111111000#32, .bgtz 1 0xfff8)] = true := by decide

theorem test_decode_jumps_branches_immediates_2 : decodesAll [
    (0b010110_00001_00000_1111111111111000#32, .blezl 1 0xfff8),
    (0b010111_00001_00000_1111111111111000#32, .bgtzl 1 0xfff8),
    (0b000010_00000000000000000000000101#32, .j 5),
    (0b000011_00000000000000000000000101#32, .jal 5)] = true := by decide

theorem test_decode_regimm : decodesAll [
    (0b000001_00001_00000_1111111111111000#32, .bltz 1 0xfff8),
    (0b000001_00001_00001_1111111111111000#32, .bgez 1 0xfff8),
    (0b000001_00001_00010_1111111111111000#32, .bltzl 1 0xfff8),
    (0b000001_00001_00011_1111111111111000#32, .bgezl 1 0xfff8),
    (0b000001_00001_10000_1111111111111000#32, .bltzal 1 0xfff8),
    (0b000001_00001_10001_1111111111111000#32, .bgezal 1 0xfff8),
    (0b000001_00001_10010_1111111111111000#32, .bltzall 1 0xfff8),
    (0b000001_00001_10011_1111111111111000#32, .bgezall 1 0xfff8),
    (0b000001_00001_01000_1000000000000001#32, .tgei 1 0x8001),
    (0b000001_00001_01001_1000000000000001#32, .tgeiu 1 0x8001),
    (0b000001_00001_01010_1000000000000001#32, .tlti 1 0x8001),
    (0b000001_00001_01011_1000000000000001#32, .tltiu 1 0x8001),
    (0b000001_00001_01100_1000000000000001#32, .teqi 1 0x8001),
    (0b000001_00001_01110_1000000000000001#32, .tnei 1 0x8001)] = true := by decide

theorem test_decode_special_shift_and_arithmetic_1 : decodesAll [
    (0b000000_00001_00010_00011_00000100000#32, .add 1 2 3),
    (0b000000_00001_00010_00011_00000100001#32, .addu 1 2 3),
    (0b000000_00001_00010_00011_00000100010#32, .sub 1 2 3),
    (0b000000_00001_00010_00011_00000100011#32, .subu 1 2 3),
    (0b000000_00001_00010_00011_00000100100#32, .and 1 2 3),
    (0b000000_00001_00010_00011_00000100101#32, .or 1 2 3),
    (0b000000_00001_00010_00011_00000100110#32, .xor 1 2 3),
    (0b000000_00001_00010_00011_00000100111#32, .nor 1 2 3),
    (0b000000_00001_00010_00011_00000101010#32, .slt 1 2 3),
    (0b000000_00001_00010_00011_00000101011#32, .sltu 1 2 3),
    (0b000000_00001_00010_00011_00000101100#32, .dadd 1 2 3),
    (0b000000_00001_00010_00011_00000101101#32, .daddu 1 2 3),
    (0b000000_00001_00010_00011_00000101110#32, .dsub 1 2 3),
    (0b000000_00001_00010_00011_00000101111#32, .dsubu 1 2 3),
    (0b000000_00001_00010_00011_00000000100#32, .sllv 1 2 3),
    (0b000000_00001_00010_00011_00000000110#32, .srlv 1 2 3)] = true := by decide

theorem test_decode_special_shift_and_arithmetic_2 : decodesAll [
    (0b000000_00001_00010_00011_00000000111#32, .srav 1 2 3),
    (0b000000_00001_00010_00011_00000010100#32, .dsllv 1 2 3),
    (0b000000_00001_00010_00011_00000010110#32, .dsrlv 1 2 3),
    (0b000000_00001_00010_00011_00000010111#32, .dsrav 1 2 3),
    (0b00000000000_00010_00011_10101_000000#32, .sll 2 3 0x15),
    (0b00000000000_00010_00011_10101_000010#32, .srl 2 3 0x15),
    (0b00000000000_00010_00011_10101_000011#32, .sra 2 3 0x15),
    (0b00000000000_00010_00011_10101_111000#32, .dsll 2 3 0x15),
    (0b00000000000_00010_00011_10101_111010#32, .dsrl 2 3 0x15),
    (0b00000000000_00010_00011_10101_111011#32, .dsra 2 3 0x15),
    (0b00000000000_00010_00011_10101_111100#32, .dsll32 2 3 0x15),
    (0b00000000000_00010_00011_10101_111110#32, .dsrl32 2 3 0x15),
    (0b00000000000_00010_00011_10101_111111#32, .dsra32 2 3 0x15)] = true := by decide

theorem test_decode_special_others_1 : decodesAll [
    (0b000000_00001_00010_00011_00000001010#32, .movz 1 2 3),
    (0b000000_00001_00010_00011_00000001011#32, .movn 1 2 3),
    (0b000000_00001_00010_0000000000011000#32, .mult 1 2),
    (0b000000_00001_00010_0000000000011001#32, .multu 1 2),
    (0b000000_00001_00010_0000000000011010#32, .div 1 2),
    (0b000000_00001_00010_0000000000011011#32, .divu 1 2),
    (0b000000_00001_00010_0000000000011100#32, .dmult 1 2),
    (0b000000_00001_00010_0000000000011101#32, .dmultu 1 2),
    (0b000000_00001_00010_0000000000011110#32, .ddiv 1 2),
    (0b000000_00001_00010_0000000000011111#32, .ddivu 1 2),
    (0b0000000000000000_00011_00000010000#32, .mfhi 3),
    (0b0000000000000000_00011_00000010010#32, .mflo 3),
    (0b000000_00001_000000000000000010001#32, .mthi 1),
    (0b000000_00001_000000000000000010011#32, .mtlo 1),
    (0b000000_00001_000000000000000001000#32, .jr 1),
    (0b000000_00001_00000_00011_00000001001#32, .jalr 1 3)] = true := by decide

theorem test_decode_special_others_2 : decodesAll [
    (0b000000_10101011110011011110_001100#32, .syscall 0xabcde),
    (0b000000_10101011110011011110_001101#32, .breakpoint 0xabcde),
    (0b000000000000000000000_10001_001111#32, .sync 0x11),
    (0b000000_00001_00010_0011011110_110000#32, .tge 1 2 0xde),
    (0b000000_00001_00010_0011011110_110001#32, .tgeu 1 2 0xde),
    (0b000000_00001_00010_0011011110_110010#32, .tlt 1 2 0xde),
    (0b000000_00001_00010_0011011110_110011#32, .tltu 1 2 0xde),
    (0b000000_00001_00010_0011011110_110100#32, .teq 1 2 0xde),
    (0b000000_00001_00010_0011011110_110110#32, .tne 1 2 0xde),
    (0b000000_00001_101_00_00011_00000000001#32, .movf 1 5 3),
    (0b000000_00001_101_01_00011_00000000001#32, .movt 1 5 3)] = true := by decide

theorem test_decode_cop0_and_cop2 : decodesAll [
    (0b010000_10101010111100110111101111#32, .cop0 0x2abcdef),
    (0b010010_10101010111100110111101111#32, .cop2 0x2abcdef)] = true := by decide

theorem test_decode_cop1_others : decodesAll [
    (0b01000100000_00010_00110_00000000000#32, .mfc1 2 6),
    (0b01000100001_00010_00110_00000000000#32, .dmfc1 2 6),
    (0b01000100010_00010_00110_00000000000#32, .cfc1 2 6),
    (0b01000100100_00010_00110_00000000000#32, .mtc1 2 6),
    (0b01000100101_00010_00110_00000000000#32, .dmtc1 2 6),
    (0b01000100110_00010_00110_00000000000#32, .ctc1 2 6),
    (0b01000101000_101_00_1111111111111000#32, .bc1f 5 0xfff8),
    (0b01000101000_101_01_1111111111111000#32, .bc1t 5 0xfff8),
    (0b01000101000_101_10_1111111111111000#32, .bc1fl 5 0xfff8),
    (0b01000101000_101_11_1111111111111000#32, .bc1tl 5 0xfff8),
    (0b0100011010000000_00110_01000_100000#32, .cvtSW 6 8),
    (0b0100011010100000_00110_01000_100000#32, .cvtSL 6 8),
    (0b0100011010000000_00110_01000_100001#32, .cvtDW 6 8),
    (0b0100011010100000_00110_01000_100001#32, .cvtDL 6 8)] = true := by decide

theorem test_decode_cop1_single_1 : decodesAll [
    (0b01000110000_00111_00110_01000_000000#32, .addS 7 6 8),
    (0b01000110000_00111_00110_01000_000001#32, .subS 7 6 8),
    (0b01000110000_00111_00110_01000_000010#32, .mulS 7 6 8),
    (0b01000110000_00111_00110_01000_000011#32, .divS 7 6 8),
    (0b0100011000000000_00110_01000_000100#32, .sqrtS 6 8),
    (0b0100011000000000_00110_01000_000101#32, .absS 6 8),
    (0b0100011000000000_00110_01000_000110#32, .movS 6 8),
    (0b0100011000000000_00110_01000_000111#32, .negS 6 8),
    (0b0100011000000000_00110_01000_010101#32, .recipS 6 8),
    (0b0100011000000000_00110_01000_010110#32, .rsqrtS 6 8),
    (0b0100011000000000_00110_01000_001000#32, .roundLS 6 8),
    (0b0100011000000000_00110_01000_001001#32, .truncLS 6 8),
    (0b0100011000000000_00110_01000_001010#32, .ceilLS 6 8),
    (0b0100011000000000_00110_01000_001011#32, .floorLS 6 8),
    (0b0100011000000000_00110_01000_001100#32, .roundWS 6 8),
    (0b0100011000000000_00110_01000_001101#32, .truncWS 6 8)] = true := by decide

theorem test_decode_cop1_single_2 : decodesAll [
    (0b0100011000000000_00110_01000_001110#32, .ceilWS 6 8),
    (0b0100011000000000_00110_01000_001111#32, .floorWS 6 8),
    (0b0100011000000000_00110_01000_100001#32, .cvtDS 6 8),
    (0b0100011000000000_00110_01000_100100#32, .cvtWS 6 8),
    (0b0100011000000000_00110_01000_100101#32, .cvtLS 6 8),
    (0b01000110000_101_00_00110_01000_010001#32, .movfS 5 6 8),
    (0b01000110000_101_01_00110_01000_010001#32, .movtS 5 6 8),
    (0b01000110000_00010_00110_01000_010010#32, .movzS 2 6 8),
    (0b01000110000_00010_00110_01000_010011#32, .movnS 2 6 8)] = true := by decide

theorem test_decode_cop1_double_1 : decodesAll [
    (0b01000110001_00111_00110_01000_000000#32, .addD 7 6 8),
    (0b01000110001_00111_00110_01000_000001#32, .subD 7 6 8),
    (0b01000110001_00111_00110_01000_000010#32, .mulD 7 6 8),
    (0b01000110001_00111_00110_01000_000011#32, .divD 7 6 8),
    (0b0100011000100000_00110_01000_000100#32, .sqrtD 6 8),
    (0b0100011000100000_00110_01000_000101#32, .absD 6 8),
    (0b0100011000100000_00110_01000_000110#32, .movD 6 8),
    (0b0100011000100000_00110_01000_000111#32, .negD 6 8),
    (0b0100011000100000_00110_01000_010101#32, .recipD 6 8),
    (0b0100011000100000_00110_01000_010110#32, .rsqrtD 6 8),
    (0b0100011000100000_00110_01000_001000#32, .roundLD 6 8),
    (0b0100011000100000_00110_01000_001001#32, .truncLD 6 8),
    (0b0100011000100000_00110_01000_001010#32, .ceilLD 6 8),
    (0b0100011000100000_00110_01000_001011#32, .floorLD 6 8),
    (0b0100011000100000_00110_01000_001100#32, .roundWD 6 8),
    (0b0100011000100000_00110_01000_001101#32, .truncWD 6 8)] = true := by decide

theorem test_decode_cop1_double_2 : decodesAll [
    (0b0100011000100000_00110_01000_001110#32, .ceilWD 6 8),
    (0b0100011000100000_00110_01000_001111#32, .floorWD 6 8),
    (0b0100011000100000_00110_01000_100000#32, .cvtSD 6 8),
    (0b0100011000100000_00110_01000_100100#32, .cvtWD 6 8),
    (0b0100011000100000_00110_01000_100101#32, .cvtLD 6 8),
    (0b01000110001_101_00_00110_01000_010001#32, .movfD 5 6 8),
    (0b01000110001_101_01_00110_01000_010001#32, .movtD 5 6 8),
    (0b01000110001_00010_00110_01000_010010#32, .movzD 2 6 8),
    (0b01000110001_00010_00110_01000_010011#32, .movnD 2 6 8)] = true := by decide

theorem test_decode_compare_single : decodesAll [
    (0b01000110000_00111_00110_101_00110000#32, .cFS 7 6 5),
    (0b01000110000_00111_00110_101_00110001#32, .cUnS 7 6 5),
    (0b01000110000_00111_00110_101_00110010#32, .cEqS 7 6 5),
    (0b01000110000_00111_00110_101_00110011#32, .cUeqS 7 6 5),
    (0b01000110000_00111_00110_101_00110100#32, .cOltS 7 6 5),
    (0b01000110000_00111_00110_101_00110101#32, .cUltS 7 6 5),
    (0b01000110000_00111_00110_101_00110110#32, .cOleS 7 6 5),
    (0b01000110000_00111_00110_101_00110111#32, .cUleS 7 6 5),
    (0b01000110000_00111_00110_101_00111000#32, .cSfS 7 6 5),
    (0b01000110000_00111_00110_101_00111001#32, .cNgleS 7 6 5),
    (0b01000110000_00111_00110_101_00111010#32, .cSeqS 7 6 5),
    (0b01000110000_00111_00110_101_00111011#32, .cNglS 7 6 5),
    (0b01000110000_00111_00110_101_00111100#32, .cLtS 7 6 5),
    (0b01000110000_00111_00110_101_00111101#32, .cNgeS 7 6 5),
    (0b01000110000_00111_00110_101_00111110#32, .cLeS 7 6 5),
    (0b01000110000_00111_00110_101_00111111#32, .cNgtS 7 6 5)] = true := by decide

theorem test_decode_compare_double : decodesAll [
    (0b01000110001_00111_00110_101_00110000#32, .cFD 7 6 5),
    (0b01000110001_00111_00110_101_00110001#32, .cUnD 7 6 5),
    (0b01000110001_00111_00110_101_00110010#32, .cEqD 7 6 5),
    (0b01000110001_00111_00110_101_00110011#32, .cUeqD 7 6 5),
    (0b01000110001_00111_00110_101_00110100#32, .cOltD 7 6 5),
    (0b01000110001_00111_00110_101_00110101#32, .cUltD 7 6 5),
    (0b01000110001_00111_00110_101_00110110#32, .cOleD 7 6 5),
    (0b01000110001_00111_00110_101_00110111#32, .cUleD 7 6 5),
    (0b01000110001_00111_00110_101_00111000#32, .cSfD 7 6 5),
    (0b01000110001_00111_00110_101_00111001#32, .cNgleD 7 6 5),
    (0b01000110001_00111_00110_101_00111010#32, .cSeqD 7 6 5),
    (0b01000110001_00111_00110_101_00111011#32, .cNglD 7 6 5),
    (0b01000110001_00111_00110_101_00111100#32, .cLtD 7 6 5),
    (0b01000110001_00111_00110_101_00111101#32, .cNgeD 7 6 5),
    (0b01000110001_00111_00110_101_00111110#32, .cLeD 7 6 5),
    (0b01000110001_00111_00110_101_00111111#32, .cNgtD 7 6 5)] = true := by decide

theorem test_decode_cop1x : decodesAll [
    (0b010011_00100_00101_00000_01000_000000#32, .lwxc1 4 5 8),
    (0b010011_00100_00101_00000_01000_000001#32, .ldxc1 4 5 8),
    (0b010011_00100_00101_00110_00000001000#32, .swxc1 4 5 6),
    (0b010011_00100_00101_00110_00000001001#32, .sdxc1 4 5 6),
    (0b010011_00100_00101_10011_00000001111#32, .prefx 4 5 0x13),
    (0b010011_01001_00111_00110_01000_100000#32, .maddS 9 7 6 8),
    (0b010011_01001_00111_00110_01000_100001#32, .maddD 9 7 6 8),
    (0b010011_01001_00111_00110_01000_101000#32, .msubS 9 7 6 8),
    (0b010011_01001_00111_00110_01000_101001#32, .msubD 9 7 6 8),
    (0b010011_01001_00111_00110_01000_110000#32, .nmaddS 9 7 6 8),
    (0b010011_01001_00111_00110_01000_110001#32, .nmaddD 9 7 6 8),
    (0b010011_01001_00111_00110_01000_111000#32, .nmsubS 9 7 6 8),
    (0b010011_01001_00111_00110_01000_111001#32, .nmsubD 9 7 6 8)] = true := by decide

/-- Reserved words, by the reason of their rejection (spec/95_test_vectors.md V30). -/
def rejectedFor (w : Word) (r : Reject) : Bool := match decode w with | .ok _ => false | .error q => q == r

theorem test_reserved_words_do_not_decode :
    (rejectedFor 0x00000005 .reservedCpu && rejectedFor 0x70000000 .reservedCpu && rejectedFor 0x04040000 .reservedCpu
      &&
      rejectedFor 0x00221860 .requiredZero && rejectedFor 0x44600000 .reservedCop1 && rejectedFor 0x46801000
        .reservedCop1 &&
      rejectedFor 0x46001020 .reservedCop1 && rejectedFor 0x4C000002 .reservedCop1x && rejectedFor 0xEC000000
        .opcodeSwc3)
      = true := by decide

/-- The bytes of a word in both byte orders decode alike; a short list does not. -/
theorem test_bytes_in_both_orders :
    decodeBytes true [0x00, 0x22, 0x18, 0x21] = .ok (.addu 1 2 3, []) ∧
    decodeBytes false [0x21, 0x18, 0x22, 0x00] = .ok (.addu 1 2 3, []) ∧
    decodeBytes true [0x00, 0x22, 0x18] = .error .length := ⟨rfl, rfl, rfl⟩

theorem test_decode_table_word : decodeTableWord 32 0x00221821 = some (.addu 1 2 3) := by decide

/-! ### One step -/

/-- The machine after reset at 0x1000 with some general registers set. -/
def startAt (l : List (Reg × Dword)) : State :=
  l.foldl (fun s p => { s with gpr := regSet s.gpr p.1 p.2 }) { State.reset with pc := 0x1000 }
/-- The step that runs the word. -/
def after (w : Word) (s : State) : Out := step (s.withFetchWord 32 w.toNat)
/-- The next state, when there is one, and the check holds of it. -/
def next (o : Out) (p : State → Bool) : Bool :=
  match o with
  | .next t => p t
  | _ => false
/-- A general register holds the value. -/
def gprIs (o : Out) (r : Reg) (v : Dword) : Bool := next o fun t => regGet t.gpr r == v
/-- HI and LO hold the values. -/
def hiLoIs (o : Out) (hi lo : Dword) : Bool := next o fun t => t.hi == hi && t.lo == lo
/-- The exception was raised. -/
def raised (o : Out) (c : Cause) : Bool := next o fun t => t.exc.any (·.cause == c)
/-- The slot at 0x1004 is next, and then this. -/
def targets (o : Out) (d : Delay) : Bool := next o fun t => t.delay == d && t.pc == 0x1004
/-- The instruction ran without an exception. -/
def runs (o : Out) : Bool := next o fun t => t.exc.isNone
/-- The step stops by this name. -/
def refuses (o : Out) (r : Refusal) : Bool :=
  match o with
  | .refused q => q == r
  | _ => false
/-- The bytes from `a` on. -/
def bytesAre (o : Out) (a : Nat) (l : List Byte) : Bool :=
  next o fun t => (List.range l.length).map (fun i => memRead t.mem (a + i)) == l
/-- Bytes placed in memory from `a` on. -/
def memFrom (s : State) (a : Nat) (l : List Byte) : State :=
  { s with mem := memWriteAll s.mem (((List.range l.length).map (a + ·)).zip l) }
/-- Little-endian memory. -/
def little (s : State) : State := { s with env := { s.env with bigEndianMem := false } }
/-- At an architecture level. -/
def atLevel (n : Nat) (s : State) : State := { s with env := { s.env with archLevel := n } }
/-- FPU registers and the FCSR set. -/
def fprs (l : List (Reg × Dword)) (f : Word) (s : State) : State :=
  l.foldl (fun s p => { s with
    fgrLo := regSet s.fgrLo p.1 (lowWord p.2)
    fgrHi := regSet s.fgrHi p.1 (p.2.extractLsb' 32 32) }) { s with fcsr := f }
/-- An FGR holds the word and nothing was raised. -/
def wordIs (o : Out) (n : Reg) (v : Dword) : Bool := next o fun t => zextWord (regGet t.fgrLo n) == v && t.exc.isNone
/-- A 64-bit FGR holds the doubleword and nothing was raised. -/
def dwordIs (o : Out) (n : Reg) (v : Dword) : Bool :=
  next o fun t => (regGet t.fgrHi n ++ regGet t.fgrLo n : BitVec (32 + 32)) == v && t.exc.isNone
/-- Cause and flags are these conditions. -/
def condsAre (o : Out) (c : BitVec 5) : Bool := next o fun t => causeOf t.fcsr == c.setWidth 6 && flagsOf t.fcsr == c
/-- The FPU instruction leaves the word `v` in FPR 0 and the conditions `c` in the cause and flag fields. -/
def givesWord (w : Word) (l : List (Reg × Dword)) (f : Word) (v : Dword) (c : BitVec 5) : Bool :=
  wordIs (after w (fprs l f (startAt []))) 0 v && condsAre (after w (fprs l f (startAt []))) c
/-- The FPU instruction leaves the doubleword `v` in FPR 0 and the conditions `c` in the cause and flag fields. -/
def givesDword (w : Word) (l : List (Reg × Dword)) (f : Word) (v : Dword) (c : BitVec 5) : Bool :=
  dwordIs (after w (fprs l f (startAt []))) 0 v && condsAre (after w (fprs l f (startAt []))) c
/-- The byte at 0x2000 + i holds 0x80 + i, GPR 4 the address, GPR 2 eight different bytes (V40). -/
def loaded (a : Dword) : State :=
  memFrom (startAt [(4, a), (2, 0x1122334455667788)]) 0x2000 ((List.range 16).map fun i => BitVec.ofNat 8 (0x80 + i))

theorem test_add :
    (raised (after 0x00221820 (startAt [(1, 0x7FFFFFFF), (2, 1)])) .integerOverflow &&
      raised (after 0x00221820 (startAt [(1, 0xFFFFFFFF80000000), (2, 0xFFFFFFFFFFFFFFFF)])) .integerOverflow) = true
        := by decide

theorem test_addu :
    (gprIs (after 0x00221821 (startAt [(1, 0x7FFFFFFF), (2, 1)])) 3 0xFFFFFFFF80000000 &&
      gprIs (after 0x00221821 (startAt [(1, 0xFFFFFFFFFFFFFFFF), (2, 0xFFFFFFFFFFFFFFFF)])) 3 0xFFFFFFFFFFFFFFFE) =
        true := by decide

theorem test_sub :
    (raised (after 0x00221822 (startAt [(1, 0xFFFFFFFF80000000), (2, 1)])) .integerOverflow &&
      gprIs (after 0x00221822 (startAt [(1, 5), (2, 7)])) 3 0xFFFFFFFFFFFFFFFE) = true := by decide

theorem test_subu :
    (gprIs (after 0x00221823 (startAt [(1, 0xFFFFFFFF80000000), (2, 1)])) 3 0x7FFFFFFF &&
      gprIs (after 0x00221823 (startAt [(1, 0), (2, 1)])) 3 0xFFFFFFFFFFFFFFFF) = true := by decide

theorem test_dadd :
    (raised (after 0x0022182C (startAt [(1, 0x7FFFFFFFFFFFFFFF), (2, 1)])) .integerOverflow &&
      gprIs (after 0x0022182C (startAt [(1, 0x7FFFFFFF), (2, 1)])) 3 0x80000000) = true := by decide

theorem test_dsub :
    (raised (after 0x0022182E (startAt [(1, 0x8000000000000000), (2, 1)])) .integerOverflow) = true := by decide

theorem test_daddu :
    (gprIs (after 0x0022182D (startAt [(1, 0x7FFFFFFFFFFFFFFF), (2, 1)])) 3 0x8000000000000000) = true := by decide

theorem test_dsubu :
    (gprIs (after 0x0022182F (startAt [(1, 0), (2, 1)])) 3 0xFFFFFFFFFFFFFFFF) = true := by decide

theorem test_slt :
    (gprIs (after 0x0022182A (startAt [(1, 0xFFFFFFFFFFFFFFFF), (2, 1)])) 3 1 &&
      gprIs (after 0x0022182A (startAt [(1, 0xFFFFFFFF80000000), (2, 0)])) 3 1) = true := by decide

theorem test_sltu :
    (gprIs (after 0x0022182B (startAt [(1, 0xFFFFFFFFFFFFFFFF), (2, 1)])) 3 0) = true := by decide

theorem test_and :
    (gprIs (after 0x00221824 (startAt [(1, 0xFF00FF00FF00FF00), (2, 0x0FF00FF00FF00FF0)])) 3 0x0F000F000F000F00) =
      true := by decide

theorem test_or :
    (gprIs (after 0x00221825 (startAt [(1, 0xFF00FF00FF00FF00), (2, 0x0FF00FF00FF00FF0)])) 3 0xFFF0FFF0FFF0FFF0) =
      true := by decide

theorem test_xor :
    (gprIs (after 0x00221826 (startAt [(1, 0xFF00FF00FF00FF00), (2, 0x0FF00FF00FF00FF0)])) 3 0xF0F0F0F0F0F0F0F0) =
      true := by decide

theorem test_nor :
    (gprIs (after 0x00221827 (startAt [(1, 0xFF00FF00FF00FF00), (2, 0x0FF00FF00FF00FF0)])) 3 0x000F000F000F000F &&
      gprIs (after 0x00221827 (startAt [(1, 0), (2, 0)])) 3 0xFFFFFFFFFFFFFFFF) = true := by decide

theorem test_addi :
    (raised (after 0x20230001 (startAt [(1, 0x7FFFFFFF)])) .integerOverflow &&
      gprIs (after 0x2023FFFF (startAt [(1, 0x7FFFFFFF)])) 3 0x7FFFFFFE) = true := by decide

theorem test_addiu :
    (gprIs (after 0x24230001 (startAt [(1, 0x7FFFFFFF)])) 3 0xFFFFFFFF80000000 &&
      gprIs (after 0x24200001 (startAt [(1, 5)])) 0 0) = true := by decide

theorem test_daddiu :
    (gprIs (after 0x64230001 (startAt [(1, 0x7FFFFFFF)])) 3 0x80000000 &&
      gprIs (after 0x6423FFFF (startAt [(1, 0)])) 3 0xFFFFFFFFFFFFFFFF) = true := by decide

theorem test_daddi :
    (raised (after 0x60230001 (startAt [(1, 0x7FFFFFFFFFFFFFFF)])) .integerOverflow) = true := by decide

theorem test_slti :
    (gprIs (after 0x28230000 (startAt [(1, 0xFFFFFFFFFFFFFFFF)])) 3 1 &&
      gprIs (after 0x2823FFFF (startAt [(1, 0)])) 3 0) = true := by decide

theorem test_sltiu :
    (gprIs (after 0x2C23FFFF (startAt [(1, 0)])) 3 1 &&
      gprIs (after 0x2C238000 (startAt [(1, 0xFFFFFFFFFFFF7FFF)])) 3 1) = true := by decide

theorem test_andi :
    (gprIs (after 0x30238001 (startAt [(1, 0xFFFFFFFFFFFFFFFF)])) 3 0x8001) = true := by decide

theorem test_ori :
    (gprIs (after 0x34238001 (startAt [(1, 0)])) 3 0x8001) = true := by decide

theorem test_xori :
    (gprIs (after 0x3823FFFF (startAt [(1, 0xFFFFFFFFFFFFFFFF)])) 3 0xFFFFFFFFFFFF0000) = true := by decide

theorem test_lui :
    (gprIs (after 0x3C038000 (startAt [])) 3 0xFFFFFFFF80000000 &&
      gprIs (after 0x3C037FFF (startAt [])) 3 0x7FFF0000) = true := by decide

theorem test_sll :
    (gprIs (after 0x00021840 (startAt [(2, 0x40000000)])) 3 0xFFFFFFFF80000000 &&
      gprIs (after 0x00021800 (startAt [(2, 0x80000000)])) 3 0xFFFFFFFF80000000) = true := by decide

theorem test_srl :
    (gprIs (after 0x00021FC2 (startAt [(2, 0xFFFFFFFF80000000)])) 3 1 &&
      gprIs (after 0x00021902 (startAt [(2, 0xFFFFFFFF80000000)])) 3 0x8000000) = true := by decide

theorem test_sra :
    (gprIs (after 0x00021903 (startAt [(2, 0xFFFFFFFF80000000)])) 3 0xFFFFFFFFF8000000 &&
      gprIs (after 0x00021F83 (startAt [(2, 0x40000000)])) 3 1) = true := by decide

theorem test_dsll :
    (gprIs (after 0x00021FF8 (startAt [(2, 1)])) 3 0x80000000) = true := by decide

theorem test_dsll32 :
    (gprIs (after 0x00021FFC (startAt [(2, 1)])) 3 0x8000000000000000 &&
      gprIs (after 0x0002183C (startAt [(2, 0xFFFFFFFFFFFFFFFF)])) 3 0xFFFFFFFF00000000) = true := by decide

theorem test_dsrl :
    (gprIs (after 0x0002187A (startAt [(2, 0x8000000000000000)])) 3 0x4000000000000000) = true := by decide

theorem test_dsrl32 :
    (gprIs (after 0x00021FFE (startAt [(2, 0x8000000000000000)])) 3 1) = true := by decide

theorem test_dsra :
    (gprIs (after 0x0002187B (startAt [(2, 0x8000000000000000)])) 3 0xC000000000000000) = true := by decide

theorem test_dsra32 :
    (gprIs (after 0x00021FFF (startAt [(2, 0x8000000000000000)])) 3 0xFFFFFFFFFFFFFFFF &&
      gprIs (after 0x0002183F (startAt [(2, 0x8000000000000000)])) 3 0xFFFFFFFF80000000) = true := by decide

theorem test_sllv :
    (gprIs (after 0x00221804 (startAt [(2, 1), (1, 0x21)])) 3 2) = true := by decide

theorem test_srlv :
    (gprIs (after 0x00221806 (startAt [(2, 0xFFFFFFFF80000000), (1, 0x1F)])) 3 1) = true := by decide

theorem test_srav :
    (gprIs (after 0x00221807 (startAt [(2, 0xFFFFFFFF80000000), (1, 0x24)])) 3 0xFFFFFFFFF8000000) = true := by decide

theorem test_dsllv :
    (gprIs (after 0x00221814 (startAt [(2, 1), (1, 0x3F)])) 3 0x8000000000000000 &&
      gprIs (after 0x00221814 (startAt [(2, 1), (1, 0x40)])) 3 1) = true := by decide

theorem test_dsrlv :
    (gprIs (after 0x00221816 (startAt [(2, 0x8000000000000000), (1, 0x7F)])) 3 1) = true := by decide

theorem test_dsrav :
    (gprIs (after 0x00221817 (startAt [(2, 0x8000000000000000), (1, 0x20)])) 3 0xFFFFFFFF80000000) = true := by decide

theorem test_mult :
    (hiLoIs (after 0x00220018 (startAt [(1, 0xFFFFFFFFFFFFFFFF), (2, 0xFFFFFFFFFFFFFFFF)])) 0 1 &&
      hiLoIs (after 0x00220018 (startAt [(1, 0xFFFFFFFF80000000), (2, 0xFFFFFFFF80000000)])) 0x40000000 0) = true :=
        by decide

theorem test_multu :
    (hiLoIs (after 0x00220019 (startAt [(1, 0xFFFFFFFFFFFFFFFF), (2, 0xFFFFFFFFFFFFFFFF)])) 0xFFFFFFFFFFFFFFFE 1 &&
      hiLoIs (after 0x00220019 (startAt [(1, 0xFFFFFFFF80000000), (2, 2)])) 1 0) = true := by decide

theorem test_dmult :
    (hiLoIs (after 0x0022001C (startAt [(1, 0xFFFFFFFFFFFFFFFF), (2, 0xFFFFFFFFFFFFFFFF)])) 0 1 &&
      hiLoIs (after 0x0022001C (startAt [(1, 0x8000000000000000), (2, 0x8000000000000000)])) 0x4000000000000000 0) =
        true := by decide

theorem test_dmultu :
    (hiLoIs (after 0x0022001D (startAt [(1, 0xFFFFFFFFFFFFFFFF), (2, 0xFFFFFFFFFFFFFFFF)])) 0xFFFFFFFFFFFFFFFE 1) =
      true := by decide

theorem test_div :
    (hiLoIs (after 0x0022001A (startAt [(1, 7), (2, 2)])) 1 3 &&
      hiLoIs (after 0x0022001A (startAt [(1, 0xFFFFFFFF80000000), (2, 0xFFFFFFFFFFFFFFFF)])) 0 0xFFFFFFFF80000000) =
        true := by decide

theorem test_divu :
    (hiLoIs (after 0x0022001B (startAt [(1, 0xFFFFFFFFFFFFFFFF), (2, 2)])) 1 0x7FFFFFFF &&
      hiLoIs (after 0x0022001B (startAt [(1, 0xFFFFFFFFFFFFFFF9), (2, 0xFFFFFFFFFFFFFFFF)])) 0xFFFFFFFFFFFFFFF9 0) =
        true := by decide

theorem test_ddiv :
    (hiLoIs (after 0x0022001E (startAt [(1, 0xFFFFFFFFFFFFFFF9), (2, 2)])) 0xFFFFFFFFFFFFFFFF 0xFFFFFFFFFFFFFFFD &&
      hiLoIs (after 0x0022001E (startAt [(1, 0x100000000), (2, 3)])) 1 0x55555555) = true := by decide

theorem test_ddivu :
    (hiLoIs (after 0x0022001F (startAt [(1, 0xFFFFFFFFFFFFFFFF), (2, 3)])) 0 0x5555555555555555) = true := by decide

theorem test_beq :
    (targets (after 0x1022FFFF (startAt [(1, 5), (2, 5)])) (.target 0x1000) &&
      targets (after 0x10220004 (startAt [(1, 5), (2, 6)])) .none) = true := by decide

theorem test_bne :
    (targets (after 0x14227FFF (startAt [(1, 0xFFFFFFFF), (2, 0xFFFFFFFFFFFFFFFF)])) (.target 0x21000) &&
      targets (after 0x14228000 (startAt [(1, 5), (2, 5)])) .none) = true := by decide

theorem test_beql :
    (targets (after 0x50220004 (startAt [(1, 1), (2, 2)])) .nullify) = true := by decide

theorem test_bnel :
    (targets (after 0x54220004 (startAt [(1, 1), (2, 2)])) (.target 0x1014)) = true := by decide

theorem test_blez :
    (targets (after 0x18200002 (startAt [(1, 0)])) (.target 0x100C)) = true := by decide

theorem test_bgtz :
    (targets (after 0x1C200002 (startAt [(1, 0)])) .none &&
      targets (after 0x1C200002 (startAt [(1, 0x8000000000000000)])) .none) = true := by decide

theorem test_blezl :
    (targets (after 0x58200002 (startAt [(1, 1)])) .nullify) = true := by decide

theorem test_bgtzl :
    (targets (after 0x5C200002 (startAt [(1, 1)])) (.target 0x100C)) = true := by decide

theorem test_bltz :
    (targets (after 0x04200002 (startAt [(1, 0xFFFFFFFFFFFFFFFF)])) (.target 0x100C) &&
      targets (after 0x04200002 (startAt [(1, 0x80000000)])) .none) = true := by decide

theorem test_bgez :
    (targets (after 0x04210002 (startAt [(1, 0)])) (.target 0x100C)) = true := by decide

theorem test_bltzl :
    (targets (after 0x04220002 (startAt [(1, 0)])) .nullify) = true := by decide

theorem test_bgezl :
    (targets (after 0x04230002 (startAt [(1, 0xFFFFFFFFFFFFFFFF)])) .nullify) = true := by decide

theorem test_bltzal :
    (targets (after 0x04300002 (startAt [(1, 1)])) .none && gprIs (after 0x04300002 (startAt [(1, 1)])) 31 0x1008 &&
      targets (after 0x0430FFFE (startAt [(1, 0xFFFFFFFFFFFFFFFF)])) (.target 0x0FFC) && gprIs (after 0x0430FFFE
        (startAt [(1, 0xFFFFFFFFFFFFFFFF)])) 31 0x1008) = true := by decide

theorem test_bgezal :
    (targets (after 0x04310002 (startAt [(1, 1)])) (.target 0x100C) && gprIs (after 0x04310002 (startAt [(1, 1)])) 31
      0x1008) = true := by decide

theorem test_bltzall :
    (targets (after 0x04320002 (startAt [(1, 1)])) .nullify && gprIs (after 0x04320002 (startAt [(1, 1)])) 31 0x1008)
      = true := by decide

theorem test_bgezall :
    (targets (after 0x04330002 (startAt [(1, 0xFFFFFFFFFFFFFFFF)])) .nullify && gprIs (after 0x04330002 (startAt [(1,
      0xFFFFFFFFFFFFFFFF)])) 31 0x1008) = true := by decide

theorem test_j :
    (targets (after 0x0BFFFFFF (startAt [])) (.target 0x0FFFFFFC) &&
      (next (after 0x08000004 ({ startAt [] with pc := 0x0FFFFFFC })) fun t => t.delay == .target 0x10000010)) = true
        := by decide

theorem test_jal :
    (targets (after 0x0C000100 (startAt [])) (.target 0x400) && gprIs (after 0x0C000100 (startAt [])) 31 0x1008) =
      true := by decide

theorem test_jr :
    (targets (after 0x00200008 (startAt [(1, 0x12345678)])) (.target 0x12345678) &&
      targets (after 0x00200008 (startAt [(1, 0x4002)])) (.target 0x4002)) = true := by decide

theorem test_jalr :
    (targets (after 0x0020F809 (startAt [(1, 0x4000)])) (.target 0x4000) && gprIs (after 0x0020F809 (startAt [(1,
      0x4000)])) 31 0x1008 &&
      targets (after 0x00202809 (startAt [(1, 0x4000)])) (.target 0x4000) && gprIs (after 0x00202809 (startAt [(1,
        0x4000)])) 5 0x1008) = true := by decide

theorem test_syscall :
    (raised (after 0xC (startAt [])) .systemCall &&
      raised (after 0x03FFFFCC (startAt [])) .systemCall) = true := by decide

theorem test_breakpoint :
    (raised (after 0xD (startAt [])) .breakpoint) = true := by decide

theorem test_tge :
    (raised (after 0x00220030 (startAt [(1, 5), (2, 5)])) .trap &&
      runs (after 0x00220030 (startAt [(1, 0xFFFFFFFFFFFFFFFF), (2, 0)]))) = true := by decide

theorem test_tgeu :
    (raised (after 0x00220031 (startAt [(1, 0xFFFFFFFFFFFFFFFF), (2, 0)])) .trap) = true := by decide

theorem test_tlt :
    (raised (after 0x00220032 (startAt [(1, 0x8000000000000000), (2, 0)])) .trap) = true := by decide

theorem test_tltu :
    (runs (after 0x00220033 (startAt [(1, 0x8000000000000000), (2, 0)]))) = true := by decide

theorem test_teq :
    (runs (after 0x00220034 (startAt [(1, 0xFFFFFFFF), (2, 0xFFFFFFFFFFFFFFFF)])) &&
      raised (after 0x00220034 ({ startAt [] with env := { Env.default with archLevel := 1 } })) .reservedInstruction)
        = true := by decide

theorem test_tne :
    (raised (after 0x00220036 (startAt [(1, 0xFFFFFFFF), (2, 0xFFFFFFFFFFFFFFFF)])) .trap) = true := by decide

theorem test_tgei :
    (raised (after 0x0428FFFF (startAt [(1, 0)])) .trap) = true := by decide

theorem test_tgeiu :
    (runs (after 0x0429FFFF (startAt [(1, 0xFFFFFFFFFFFFFFFE)]))) = true := by decide

theorem test_tlti :
    (raised (after 0x042A0000 (startAt [(1, 0xFFFFFFFFFFFFFFFF)])) .trap) = true := by decide

theorem test_tltiu :
    (raised (after 0x042B8000 (startAt [(1, 0x7FFF)])) .trap) = true := by decide

theorem test_teqi :
    (raised (after 0x042CFFFF (startAt [(1, 0xFFFFFFFFFFFFFFFF)])) .trap) = true := by decide

theorem test_tnei :
    (runs (after 0x042EFFFF (startAt [(1, 0xFFFFFFFFFFFFFFFF)]))) = true := by decide

theorem test_sync :
    (runs (after 0xF (startAt []))) = true := by decide

theorem test_movn :
    (gprIs (after 0x0022180B (startAt [(1, 0x1234), (2, 0), (3, 9)])) 3 9 &&
      gprIs (after 0x0022180B (startAt [(1, 0x1234), (2, 5)])) 3 0x1234) = true := by decide

theorem test_movz :
    (gprIs (after 0x0022180A (startAt [(1, 0x1234), (2, 0)])) 3 0x1234 &&
      gprIs (after 0x0022180A (startAt [(1, 0x1234), (2, 5), (3, 9)])) 3 9) = true := by decide

theorem test_pref :
    (runs (after 0xCC800000 (startAt [])) &&
      runs (after 0xCC9F0001 (startAt []))) = true := by decide

theorem test_lb :
    (gprIs (after 0x80820001 (loaded 0x2000)) 2 0xFFFFFFFFFFFFFF81 &&
      gprIs (after 0x80820001 (little (loaded 0x2000))) 2 0xFFFFFFFFFFFFFF81) = true := by decide

theorem test_lbu :
    (gprIs (after 0x90820001 (loaded 0x2000)) 2 0x81 &&
      gprIs (after 0x90820001 (little (loaded 0x2000))) 2 0x81) = true := by decide

theorem test_lh :
    (gprIs (after 0x84820002 (loaded 0x2000)) 2 0xFFFFFFFFFFFF8283 &&
      raised (after 0x84820001 (little (loaded 0x2000))) (.addressError .load 0x2001)) = true := by decide

theorem test_lhu :
    (gprIs (after 0x94820002 (loaded 0x2000)) 2 0x8283 &&
      gprIs (after 0x94820002 (little (loaded 0x2000))) 2 0x8382) = true := by decide

theorem test_lw :
    (gprIs (after 0x8C820004 (loaded 0x2000)) 2 0xFFFFFFFF84858687 &&
      gprIs (after 0x8C800004 (little (loaded 0x2000))) 0 0) = true := by decide

theorem test_lwu :
    (gprIs (after 0x9C820004 (loaded 0x2000)) 2 0x84858687 &&
      gprIs (after 0x9C820004 (little (loaded 0x2000))) 2 0x87868584) = true := by decide

theorem test_ld :
    (gprIs (after 0xDC820008 (loaded 0x2000)) 2 0x88898A8B8C8D8E8F &&
      raised (after 0xDC820004 (little (loaded 0x2000))) (.addressError .load 0x2004)) = true := by decide

theorem test_lwl :
    (gprIs (after 0x88820005 (loaded 0x2000)) 2 0xFFFFFFFF85868788 &&
      gprIs (after 0x88820007 (little (loaded 0x2000))) 2 0xFFFFFFFF87868584) = true := by decide

theorem test_lwr :
    (gprIs (after 0x98820005 (loaded 0x2000)) 2 0x1122334455668485 &&
      gprIs (after 0x98820004 (little (loaded 0x2000))) 2 0xFFFFFFFF87868584) = true := by decide

theorem test_ldl :
    (gprIs (after 0x6882000B (loaded 0x2000)) 2 0x8B8C8D8E8F667788 &&
      gprIs (after 0x6882000B (little (loaded 0x2000))) 2 0x8B8A898855667788) = true := by decide

theorem test_ldr :
    (gprIs (after 0x6C82000B (loaded 0x2000)) 2 0x1122334488898A8B &&
      gprIs (after 0x6C82000B (little (loaded 0x2000))) 2 0x1122338F8E8D8C8B) = true := by decide

theorem test_sb :
    (bytesAre (after 0xA0820003 (loaded 0x2000)) 0x2003 [0x88] &&
      bytesAre (after 0xA0820003 (little (loaded 0x2000))) 0x2003 [0x88]) = true := by decide

theorem test_sh :
    (bytesAre (after 0xA4820002 (loaded 0x2000)) 0x2002 [0x77, 0x88] &&
      raised (after 0xA4820003 (little (loaded 0x2000))) (.addressError .store 0x2003)) = true := by decide

theorem test_sw :
    (bytesAre (after 0xAC820004 (loaded 0x2000)) 0x2004 [0x55, 0x66, 0x77, 0x88] &&
      bytesAre (after 0xAC800004 (little (loaded 0x2000))) 0x2004 [0x00, 0x00, 0x00, 0x00]) = true := by decide

theorem test_sd :
    (bytesAre (after 0xFC820008 (loaded 0x2000)) 0x2008 [0x11, 0x22, 0x33, 0x44, 0x55, 0x66, 0x77, 0x88] &&
      raised (after 0xFC820004 (little (loaded 0x2000))) (.addressError .store 0x2004)) = true := by decide

theorem test_swl :
    (bytesAre (after 0xA8820005 (loaded 0x2000)) 0x2005 [0x55, 0x66, 0x77] &&
      bytesAre (after 0xA8820004 (little (loaded 0x2000))) 0x2004 [0x55]) = true := by decide

theorem test_swr :
    (bytesAre (after 0xB8820005 (loaded 0x2000)) 0x2004 [0x77, 0x88] &&
      bytesAre (after 0xB8820007 (little (loaded 0x2000))) 0x2007 [0x88]) = true := by decide

theorem test_sdl :
    (bytesAre (after 0xB082000B (loaded 0x2000)) 0x200B [0x11, 0x22, 0x33, 0x44, 0x55] &&
      bytesAre (after 0xB082000B (little (loaded 0x2000))) 0x2008 [0x44, 0x33, 0x22, 0x11]) = true := by decide

theorem test_sdr :
    (bytesAre (after 0xB482000B (loaded 0x2000)) 0x2008 [0x55, 0x66, 0x77, 0x88] &&
      bytesAre (after 0xB482000B (little (loaded 0x2000))) 0x200B [0x88, 0x77, 0x66, 0x55, 0x44]) = true := by decide

theorem test_add_s :
    (givesWord 0x46041000 [(2, 0x3F800000), (4, 0x40000000)] 0x0 0x40400000 0 &&
      givesWord 0x46041000 [(2, 0x7FC00000), (4, 0x3F800000)] 0x3 0x7FBFFFFF 16) = true := by decide

theorem test_add_d :
    (givesDword 0x46241000 [(2, 0x3FB999999999999A), (4, 0x3FC999999999999A)] 0x0 0x3FD3333333333334 1 &&
      givesDword 0x46241000 [(2, 0x7FF0000000000000), (4, 0xFFF0000000000000)] 0x3 0x7FF7FFFFFFFFFFFF 16) = true := by
        decide

theorem test_sub_s :
    (givesWord 0x46041001 [(2, 0x3F800000), (4, 0x3F800001)] 0x0 0xB4000000 0 &&
      givesWord 0x46041001 [(2, 0x3F800000), (4, 0x3F800001)] 0x3 0xB4000000 0) = true := by decide

theorem test_mul_s :
    (givesWord 0x46041002 [(2, 0x3FC00000), (4, 0x40200000)] 0x0 0x40700000 0 &&
      givesWord 0x46041002 [(2, 0x00800000), (4, 0x3F000000)] 0x1000003 0 3) = true := by decide

theorem test_mul_d :
    (givesDword 0x46241002 [(2, 0x7FEFFFFFFFFFFFFF), (4, 0x4000000000000000)] 0x0 0x7FF0000000000000 5 &&
      givesDword 0x46241002 [(2, 0x7FEFFFFFFFFFFFFF), (4, 0x4000000000000000)] 0x1 0x7FEFFFFFFFFFFFFF 5) = true := by
        decide

theorem test_div_s :
    (givesWord 0x46041003 [(2, 0x3F800000), (4, 0x40400000)] 0x0 0x3EAAAAAB 1 &&
      raised (after 0x46041003 (fprs [(2, 0x3F800000), (4, 0)] 0x400 (startAt []))) (.floatingPoint 8)) = true := by
        decide

theorem test_div_d :
    (givesDword 0x46241003 [(2, 0x4000000000000000), (4, 0x4008000000000000)] 0x0 0x3FE5555555555555 1) = true := by
      decide

theorem test_sqrt_s :
    (givesWord 0x46001004 [(2, 0x80000000)] 0x0 0x80000000 0 &&
      givesWord 0x46001004 [(2, 0xBF800000)] 0x3 0x7FBFFFFF 16) = true := by decide

theorem test_abs_s :
    (givesWord 0x46001005 [(2, 0xBFC00000)] 0x0 0x3FC00000 0 &&
      givesWord 0x46001005 [(2, 0xBFC00000)] 0x3 0x3FC00000 0) = true := by decide

theorem test_neg_s :
    (givesWord 0x46001007 [(2, 0)] 0x0 0x80000000 0 &&
      givesWord 0x46001007 [(2, 0)] 0x3 0x80000000 0) = true := by decide

theorem test_recip_s :
    (givesWord 0x46001015 [(2, 0)] 0x0 0x7F800000 8 &&
      givesWord 0x46001015 [(2, 0)] 0x3 0x7F800000 8) = true := by decide

theorem test_rsqrt_s :
    (givesWord 0x46001016 [(2, 0xC0800000)] 0x0 0x7FBFFFFF 16 &&
      givesWord 0x46001016 [(2, 0xC0800000)] 0x3 0x7FBFFFFF 16) = true := by decide

theorem test_madd_s :
    (givesWord 0x4CC41020 [(2, 0x40000000), (4, 0x40400000), (6, 0x3F800000)] 0x0 0x40E00000 0 &&
      givesWord 0x4CC41020 [(2, 0x40000000), (4, 0x40400000), (6, 0x3F800000)] 0x3 0x40E00000 0) = true := by decide

theorem test_msub_s :
    (givesWord 0x4CC41028 [(2, 0x40000000), (4, 0x40400000), (6, 0x3F800000)] 0x0 0x40A00000 0 &&
      givesWord 0x4CC41028 [(2, 0x40000000), (4, 0x40400000), (6, 0x3F800000)] 0x3 0x40A00000 0) = true := by decide

theorem test_nmadd_s :
    (givesWord 0x4CC41030 [(2, 0x40000000), (4, 0x40400000), (6, 0x3F800000)] 0x0 0xC0E00000 0 &&
      givesWord 0x4CC41030 [(2, 0x40000000), (4, 0x40400000), (6, 0x3F800000)] 0x3 0xC0E00000 0) = true := by decide

theorem test_nmsub_s :
    (givesWord 0x4CC41038 [(2, 0x40000000), (4, 0x40400000), (6, 0x3F800000)] 0x0 0xC0A00000 0 &&
      givesWord 0x4CC41038 [(2, 0x40000000), (4, 0x40400000), (6, 0x3F800000)] 0x3 0xC0A00000 0) = true := by decide

theorem test_cvt_s_d :
    (givesWord 0x46201020 [(2, 0x3FB999999999999A)] 0x0 0x3DCCCCCD 1 &&
      givesWord 0x46201020 [(2, 0x36A0000000000000)] 0x3 1 0) = true := by decide

theorem test_cvt_s_w :
    (givesWord 0x46801020 [(2, 0x01000001)] 0x0 0x4B800000 1 &&
      givesWord 0x46801020 [(2, 0x80000000)] 0x3 0xCF000000 0) = true := by decide

theorem test_cvt_s_l :
    (givesWord 0x46A01020 [(2, 0x7FFFFFFFFFFFFFFF)] 0x0 0x5F000000 1 &&
      givesWord 0x46A01020 [(2, 0x7FFFFFFFFFFFFFFF)] 0x3 0x5EFFFFFF 1) = true := by decide

theorem test_cvt_d_s :
    (givesDword 0x46001021 [(2, 0x3FC00000)] 0x0 0x3FF8000000000000 0 &&
      givesDword 0x46001021 [(2, 1)] 0x3 0x36A0000000000000 0) = true := by decide

theorem test_cvt_d_w :
    (givesDword 0x46801021 [(2, 0xFFFFFFFF)] 0x0 0xBFF0000000000000 0 &&
      givesDword 0x46801021 [(2, 0xFFFFFFFF)] 0x3 0xBFF0000000000000 0) = true := by decide

theorem test_cvt_d_l :
    (givesDword 0x46A01021 [(2, 0x0020000000000001)] 0x0 0x4340000000000000 1 &&
      givesDword 0x46A01021 [(2, 0x0020000000000001)] 0x2 0x4340000000000001 1) = true := by decide

theorem test_cvt_w_s :
    (givesWord 0x46001024 [(2, 0x40200000)] 0x0 2 1 &&
      raised (after 0x46001024 (fprs [(2, 0x4F000000)] 0x800 (startAt []))) (.floatingPoint 16)) = true := by decide

theorem test_cvt_l_d :
    (givesDword 0x46201025 [(2, 0x43E0000000000000)] 0x0 0x7FFFFFFFFFFFFFFF 16 &&
      givesDword 0x46201025 [(2, 0xC3E0000000000000)] 0x3 0x8000000000000000 0) = true := by decide

theorem test_round_w_s :
    (givesWord 0x4600100C [(2, 0x40200000)] 0x0 2 1 &&
      givesWord 0x4600100C [(2, 0xBF000000)] 0x3 0 1) = true := by decide

theorem test_trunc_w_d :
    (givesWord 0x4620100D [(2, 0x41DFFFFFFFE00000)] 0x0 0x7FFFFFFF 1 &&
      givesWord 0x4620100D [(2, 0x41DFFFFFFFE00000)] 0x3 0x7FFFFFFF 1) = true := by decide

theorem test_ceil_w_s :
    (givesWord 0x4600100E [(2, 1)] 0x0 1 1 &&
      givesWord 0x4600100E [(2, 1)] 0x3 1 1) = true := by decide

theorem test_floor_w_s :
    (givesWord 0x4600100F [(2, 0xBF000000)] 0x0 0xFFFFFFFF 1 &&
      givesWord 0x4600100F [(2, 0xBF000000)] 0x3 0xFFFFFFFF 1) = true := by decide

theorem test_floor_l_d :
    (givesDword 0x4620100B [(2, 0xC004000000000000)] 0x0 0xFFFFFFFFFFFFFFFD 1 &&
      givesDword 0x4620100B [(2, 0xC004000000000000)] 0x3 0xFFFFFFFFFFFFFFFD 1) = true := by decide

theorem test_bc1f :
    (targets (after 0x45000004 (fprs [] 0x0 (startAt []))) (.target 0x1014) &&
      targets (after 0x45000004 (fprs [] 0x800000 (startAt []))) .none) = true := by decide

theorem test_bc1t :
    (targets (after 0x45050002 (fprs [] 0x2000000 (startAt []))) (.target 0x100C) &&
      targets (after 0x450DFFFE (fprs [] 0x8000000 (startAt []))) (.target 0x0FFC)) = true := by decide

theorem test_bc1fl :
    (targets (after 0x45020004 (fprs [] 0x800000 (startAt []))) .nullify) = true := by decide

theorem test_bc1tl :
    (targets (after 0x45030004 (fprs [] 0x800000 (startAt []))) (.target 0x1014) &&
      targets (after 0x45030004 (fprs [] 0x0 (startAt []))) .nullify) = true := by decide

/-! ### HI, LO and the ordering rules (R338, R339, R353) -/

theorem test_mfhi : (gprIs (after 0x00001810 { startAt [] with hi := 0x123456789 }) 3 0x123456789) = true := by decide
theorem test_mflo : (gprIs (after 0x00001812 { startAt [] with lo := 0x123456789 }) 3 0x123456789) = true := by decide
theorem test_mthi : (hiLoIs (after 0x00200011 { startAt [(1, 7)] with lo := 9 }) 7 9 &&
    refuses (after 0x00200011 { startAt [] with recentMF := ⟨.none, .hi 2⟩ }) .hiLoReadWrite) = true := by decide
theorem test_mtlo : (hiLoIs (after 0x00200013 { startAt [(1, 7)] with hi := 9 }) 9 7 &&
    hiLoIs (after 0x00200013 { startAt [(1, 7)] with recentMF := ⟨.hi 2, .none⟩ }) 0 7) = true := by decide
theorem test_mult_after_mflo :
    (refuses (after 0x00220018 { startAt [] with recentMF := ⟨.none, .lo 2⟩ }) .hiLoReadWrite) = true := by decide

/-! ### Linked access (R227 to R234; program P5) -/

theorem test_ll :
    (next (after 0xC1090000 (memFrom (startAt [(8, 0x2000)]) 0x2000 [0, 0, 0, 5])) fun t =>
      regGet t.gpr 9 == 5 && t.llbit && t.llRecord == some ⟨0x2000, 0x2000, .cachedNoncoherent, false⟩) = true := by decide
theorem test_lld :
    (next (after 0xD1090000 (memFrom (startAt [(8, 0x2000)]) 0x2000 [0, 0, 0, 0, 0, 0, 0, 5])) fun t =>
      regGet t.gpr 9 == 5 && t.llbit && t.llRecord == some ⟨0x2000, 0x2000, .cachedNoncoherent, true⟩) = true := by decide

/-- A link to the word, or the doubleword, at 0x2000 and 6 in GPR 10. -/
def linked (double llbit : Bool) : State :=
  { startAt [(8, 0x2000), (10, 6)] with
    llbit := llbit
    llRecord := some ⟨0x2000, 0x2000, .cachedNoncoherent, double⟩ }

theorem test_sc :
    (next (after 0xE10A0000 (linked false true)) (fun t => regGet t.gpr 10 == 1 && memRead t.mem 0x2003 == 6 && !t.llbit) &&
      next (after 0xE10A0000 (linked false false)) (fun t => regGet t.gpr 10 == 0 && memRead t.mem 0x2003 == 0)) = true := by
  decide
theorem test_scd :
    (next (after 0xF10A0000 (linked true true)) (fun t => regGet t.gpr 10 == 1 && memRead t.mem 0x2007 == 6 && !t.llbit) &&
      next (after 0xF10A0000 (linked true false)) (fun t => regGet t.gpr 10 == 0 && memRead t.mem 0x2007 == 0)) = true := by
  decide
/-- R750, its last row: an exception between LL and SC clears the link. -/
theorem test_syscall_clears_the_link : (next (after 0x0000000C (linked false true)) fun t => !t.llbit) = true := by decide

/-! ### Coprocessors 0, 2 and 3 (R173, R240 to R243, R440 to R442) -/

/-- Coprocessor 2 present and usable. -/
def withCop2 (s : State) : State := { s with cu := 0b0110, env := { s.env with cop2Present := true } }

theorem test_cop2_unusable :
    (raised (after 0x48000000 (startAt [])) (.coprocessorUnusable 2) &&
      raised (after 0xC8820000 (startAt [])) (.coprocessorUnusable 2)) = true := by decide
theorem test_cop2 : (refuses (after 0x48000000 { startAt [] with cu := 4 }) .unimplementedCoprocessor) = true := by decide
/-- An operation of coprocessor 2 that moves a value to r5, and one that branches to 0x4000. -/
def unitWrites : Cop2Effect := { regs := default, gpr := some (5, 7), flow := .next, raises := none }
def unitBranches : Cop2Effect := { regs := default, gpr := none, flow := .taken 0x4000, raises := none }
theorem test_cop2_operations :
    (next ((startAt []).applyCop2 unitWrites) (fun t => regGet t.gpr 5 == 7 && t.pc == (startAt []).pcPlus4) &&
      next ((startAt []).applyCop2 unitBranches) (fun t => t.delay == .target 0x4000 && t.pc == (startAt []).pcPlus4) &&
      refuses ({ startAt [] with delay := .target 8 }.applyCop2 unitBranches) .branchInDelaySlot) = true := by decide
/-- R57: a return from an exception clears LLbit. -/
theorem test_cop0_return : (next ({ startAt [] with llbit := true, saved := [⟨.user, 2⟩] }.applyCop0
    { gpr := none, mode := .user, cu := 2, statusFR := true, coc0 := false, unlink := false, retype := false, returns := true,
      flow := .goto 0x4000, raises := none }) fun t => !t.llbit && t.pc == 0x4000 && t.saved == []) = true := by decide
/-- R230, R724: after the environment's handler the link stays broken and recorded; its pending branch stands. -/
theorem test_handler_leaves_a_branch : (
    let s : State := { startAt [] with llRecord := some ⟨0, 0, .cachedNoncoherent, false⟩ }
    let t := s.legalise { startAt [] with delay := .target 0x4000, llbit := true }
    t.llRecord.isSome && !t.llbit && t.delay == .target 0x4000 && t.afterBranch) = true := by decide
/-- R110: a region for stores in kernel mode alone. -/
theorem test_region : (let s : State := { startAt [] with env := { Env.default with
      xlat := [⟨0, 8, .mapped 2 true, .uncached, false, false, true, false, false, true⟩] } }
    let k : State := { s with mode := .kernel }
    decide (k.translate .store 4 = .ok (0x14, .uncached) ∧ k.translate .load 4 = .ok (4, .cachedNoncoherent) ∧
      s.translate .store 4 = .ok (4, .cachedNoncoherent))) = true := by decide
theorem test_cop0 :
    (raised (after 0x40000000 (startAt [])) (.coprocessorUnusable 0) &&
      refuses (after 0x40000000 { startAt [] with cu := 0b0011 }) .cop0Operation) = true := by decide
theorem test_lwc2 : (raised (after 0xC8820002 (withCop2 (loaded 0x2000))) (.addressError .load 0x2002)) = true := by decide
theorem test_ldc2 : (next (after 0xD8820008 (withCop2 (loaded 0x2000))) fun t =>
    regGet t.cop2Gen 2 == 0x88898A8B8C8D8E8F) = true := by decide
theorem test_swc2 : (bytesAre (after 0xE8820004 (withCop2 { loaded 0x2000 with
    cop2Gen := Vector.replicate 32 0x1122334455667788 })) 0x2004 [0x55, 0x66, 0x77, 0x88, 0x88]) = true := by decide
theorem test_sdc2 : (bytesAre (after 0xF8820008 (withCop2 { loaded 0x2000 with
    cop2Gen := Vector.replicate 32 0x1122334455667788 })) 0x2007 [0x87, 0x11, 0x22, 0x33, 0x44]) = true := by decide

/-- V30: opcode 010011 is COP3 at levels I and II, reserved at III. -/
theorem test_cop3 :
    (raised (after 0x4C000000 { startAt [] with env := { Env.default with archLevel := 2, procLevel := 2 } })
        (.coprocessorUnusable 3) &&
      raised (after 0x4C000000 { startAt [] with env := { Env.default with archLevel := 3, procLevel := 3 } })
        .reservedInstruction) = true := by decide

/-- An LDC3 word (opcode 110111) at MIPS I with CU[3] = 0 and with CU[3] = 1 (30_encoding.md R173, U4). -/
theorem test_ldc3_at_level_one :
    let old := fun cu => { startAt [] with cu := cu, env := { Env.default with archLevel := 1, procLevel := 2 } }
    (raised (after 0xDC020000 (old 0b0010)) (.coprocessorUnusable 3) &&
      raised (after 0xDC020000 (old 0b1010)) .reservedInstruction) = true := by decide

/-! ### The FPU: transfers (V47), compares (R604), moves (V49) -/

theorem test_lwc1 :
    (wordIs (after 0xC4820008 (memFrom (startAt [(4, 0x2000)]) 0x2008 [0x3F, 0x80, 0, 0])) 2 0x3F800000 &&
      wordIs (after 0xC4820008 (little (memFrom (startAt [(4, 0x2000)]) 0x2008 [0x3F, 0x80, 0, 0]))) 2 0x803F) = true := by
  decide
theorem test_ldc1 :
    (dwordIs (after 0xD4A40010 (memFrom (startAt [(5, 0x2000)]) 0x2010 [0x40, 9, 0x21, 0xFB, 0x54, 0x44, 0x2D, 0x18])) 4
        0x400921FB54442D18 &&
      raised (after 0xD4010004 (startAt [])) (.addressError .load 4)) = true := by decide
theorem test_swc1 : (bytesAre (after 0xE4820008 (little (fprs [(2, 0x40490FDB)] 0 (startAt [(4, 0x2000)])))) 0x2008
    [0xDB, 0x0F, 0x49, 0x40]) = true := by decide
theorem test_sdc1 : (bytesAre (after 0xF4A40010 (little (fprs [(4, 0x400921FB54442D18)] 0 (startAt [(5, 0x2000)])))) 0x2010
    [0x18, 0x2D, 0x44, 0x54, 0xFB, 0x21, 9, 0x40]) = true := by decide
theorem test_lwxc1 : (wordIs (after 0x4D070180 (memFrom (startAt [(8, 0x3000), (7, 0x10)]) 0x3010 [1, 2, 3, 4])) 6
    0x01020304) = true := by decide
theorem test_ldxc1 : (raised (after 0x4D070181 (startAt [(8, 0x3000), (7, 0x14)])) (.addressError .load 0x3014)) = true := by
  decide
theorem test_swxc1 :
    (bytesAre (after 0x4D073008 (fprs [(6, 0x01020304)] 0 (startAt [(8, 0x3000), (7, 0xFFFFFFFFFFFFFFFC)]))) 0x2FFC
        [1, 2, 3, 4] &&
      refuses (after 0x4D073008 (startAt [(8, 0x3000), (7, 0x8000000000000000)])) .regionBits) = true := by decide
theorem test_sdxc1 : (bytesAre (after 0x4D073009 (fprs [(6, 0x0102030405060708)] 0 (startAt [(8, 0x3000), (7, 8)]))) 0x3008
    [1, 2, 3, 4, 5, 6, 7, 8]) = true := by decide
theorem test_prefx : (runs (after 0x4D07000F (startAt [(8, 1)]))) = true := by decide
theorem test_mfc1 : (gprIs (after 0x44022000 (fprs [(4, 0xBF800000)] 0 (startAt []))) 2 0xFFFFFFFFBF800000) = true := by decide
theorem test_dmfc1 : (gprIs (after 0x44222000 (fprs [(4, 0x400921FB54442D18)] 0 (startAt []))) 2 0x400921FB54442D18) = true := by
  decide
theorem test_mtc1 : (next (after 0x44822000 (startAt [(2, 0x40000000)])) fun t =>
    regGet t.fgrLo 4 == 0x40000000 && t.tagOf 4 == .uninterpreted) = true := by decide
theorem test_dmtc1 : (dwordIs (after 0x44A22000 (startAt [(2, 0x400921FB54442D18)])) 4 0x400921FB54442D18) = true := by decide
theorem test_cfc1 :
    (gprIs (after 0x4442F800 (fprs [] 0x80800005 (startAt []))) 2 0xFFFFFFFF80800005 &&
      gprIs (after 0x44420000 { startAt [] with fcr0 := 0x0501 }) 2 0x0501) = true := by decide
theorem test_ctc1_writes :
    (next (after 0x44C2F800 (startAt [(2, 0xF83)])) (fun t => t.fcsr == 0xF83 && t.exc.isNone) &&
      next (after 0x44C2F800 (startAt [(2, 0x007C0000)])) (fun t => t.fcsr == 0)) = true := by decide
theorem test_ctc1_traps :
    (next (after 0x44C2F800 (startAt [(2, 0x10800)])) (fun t => t.fcsr == 0x10800) &&
      raised (after 0x44C2F800 (startAt [(2, 0x10800)])) (.floatingPoint 0b010000) &&
      raised (after 0x44C2F800 (startAt [(2, 0x20000)])) (.floatingPoint 0b100000)) = true := by decide
theorem test_fpu_unusable :
    (raised (after 0x44C2F800 { startAt [] with cu := 0 }) (.coprocessorUnusable 1) &&
      raised (after 0x44600000 { startAt [] with cu := 0 }) (.coprocessorUnusable 1)) = true := by decide

/-- FCC[0] after C.cond.S with these two operands, for the sixteen conditions, as bits from `F` up. -/
def conditions (a b : Dword) : List Bool :=
  (List.range 16).map fun k =>
    next (after (0x46041030 + BitVec.ofNat 32 k) (fprs [(2, a), (4, b)] 0 (startAt []))) fun t => fccOf t.fcsr 0

/-- 1.0 < 2.0: the conditions with the `less` bit. -/
theorem test_compare_less : conditions 0x3F800000 0x40000000 =
    [false, false, false, false, true, true, true, true, false, false, false, false, true, true, true, true] := by decide
/-- -0 = +0: the conditions with the `equal` bit. -/
theorem test_compare_equal : conditions 0x80000000 0 =
    [false, false, true, true, false, false, true, true, false, false, true, true, false, false, true, true] := by decide
/-- A QNaN: the conditions with the `unordered` bit. -/
theorem test_compare_unordered : conditions 0x7F800001 0 =
    [false, true, false, true, false, true, false, true, false, true, false, true, false, true, false, true] := by decide
/-- The signaling conditions, and a signaling NaN, set V (R601). -/
theorem test_compare_invalid :
    (condsAre (after 0x46041032 (fprs [(2, 0x7F800001), (4, 0)] 0 (startAt []))) 0 &&
      condsAre (after 0x4604103A (fprs [(2, 0x7F800001), (4, 0)] 0 (startAt []))) 16 &&
      condsAre (after 0x46041032 (fprs [(2, 0x7FC00000), (4, 0)] 0 (startAt []))) 16) = true := by decide
/-- Double operands, and a condition code other than 0. -/
theorem test_compare_double :
    (next (after 0x4624133C (fprs [(2, 0xBFF0000000000000), (4, 0x3FF0000000000000)] 0 (startAt []))) fun t =>
      fccOf t.fcsr 3 && !fccOf t.fcsr 0) = true := by decide

theorem test_mov_s : (next (after 0x46001006 (fprs [(2, 0x7FC00000)] 0 (startAt []))) fun t =>
    regGet t.fgrLo 0 == 0x7FC00000 && t.fcsr == 0) = true := by decide
theorem test_mov_d : (dwordIs (after 0x46201006 (fprs [(2, 0x400921FB54442D18)] 0 (startAt []))) 0 0x400921FB54442D18)
    = true := by decide
theorem test_movf_s : (wordIs (after 0x46001011 (fprs [(0, 5), (2, 7)] 0 (startAt []))) 0 7 &&
    wordIs (after 0x46001011 (fprs [(0, 5), (2, 7)] 0x00800000 (startAt []))) 0 5) = true := by decide
theorem test_movt_d : (dwordIs (after 0x463D1011 (fprs [(0, 5), (2, 7)] 0 (startAt []))) 0 5 &&
    dwordIs (after 0x463D1011 (fprs [(0, 5), (2, 7)] 0x80000000 (startAt []))) 0 7) = true := by decide
theorem test_movn_s : (wordIs (after 0x46051013 (fprs [(0, 5), (2, 7)] 0 (startAt []))) 0 5) = true := by decide
theorem test_movz_d : (dwordIs (after 0x46201012 (fprs [(0, 5), (2, 7)] 0 (startAt []))) 0 7) = true := by decide
theorem test_movf : (gprIs (after 0x00741001 (startAt [(3, 7)])) 2 7) = true := by decide
theorem test_movt : (gprIs (after 0x00A53001 (startAt [(5, 7), (6, 9)])) 6 9) = true := by decide
theorem test_double_one_operand :
    (dwordIs (after 0x46201005 (fprs [(2, 0xBFF8000000000000)] 0 (startAt []))) 0 0x3FF8000000000000 &&
      dwordIs (after 0x46201007 (fprs [(2, 0)] 0 (startAt []))) 0 0x8000000000000000) = true := by decide
theorem test_madd_d : (dwordIs (after 0x4CC41021 (fprs [(2, 0x4000000000000000), (4, 0x4008000000000000),
    (6, 0x3FF0000000000000)] 0 (startAt []))) 0 0x401C000000000000) = true := by decide
theorem test_nmsub_d : (dwordIs (after 0x4CC41039 (fprs [(2, 0x4000000000000000), (4, 0x4008000000000000),
    (6, 0x3FF0000000000000)] 0 (startAt []))) 0 0xC014000000000000) = true := by decide
/-- R523: after a double result the register is no single operand; the instruction runs all the same. -/
theorem test_wrong_format_has_no_value :
    ({ startAt [] with fprTag := Vector.replicate 32 (.value .D) }.readFpr 2 .S).1 = none := by decide

/-! ### Exceptions, hazards and events (R711, R720 to R725, R750, R820 to R828) -/

theorem test_fault_in_a_delay_slot :
    (next (after 0x8C040001 { startAt [] with pc := 0x2004, delay := .target 0x2014, afterBranch := true }) fun t =>
      t.exc == some ⟨.addressError .load 1, 0x2004, true, 0x2000, some 1⟩ && t.delay == .none) = true := by decide
theorem test_misaligned_fetch :
    (next (step { startAt [] with pc := 0x4002 }) fun t =>
      t.exc == some ⟨.addressError .fetch 0x4002, 0x4002, false, 0x4002, some 0x4002⟩) = true := by decide
theorem test_nullified_slot :
    (next (step { startAt [] with delay := .nullify }) fun t => t.exc.isNone && t.pc == 0x1004) = true := by
  decide
theorem test_dadd_at_level_two : (raised (after 0x0022182C (atLevel 2 (startAt []))) .reservedInstruction) = true := by decide
theorem test_handler :
    (next (after 0x0000000C { startAt [] with env := { Env.default with
        trapEntry := .handler 0xFFFFFFFF80000180 .kernel 0b1111 } }) fun t =>
      t.pc == 0xFFFFFFFF80000180 && t.mode == .kernel && t.cu == 0b1111 && !t.ended && t.saved == [⟨.user, 0b0010⟩])
      = true := by decide
/-- The machine in a handler, about to return. -/
def returning : State :=
  { startAt [] with
    agenda := [.excReturn]
    mode := .kernel
    saved := [⟨.user, 2⟩]
    exc := some ⟨.trap, 0x2000, false, 0x2000, none⟩ }
theorem test_return : (next (step returning) fun t => t.pc == 0x2000 && t.mode == .user && t.cu == 2) = true := by decide
theorem test_load_delay :
    (refuses (after 0x00421821 { atLevel 1 (startAt []) with hazards := { Hazards.empty with loadGpr := some 2 } }) .loadDelay &&
      runs (after 0x98820003 { atLevel 1 (loaded 0x2000) with hazards := { Hazards.empty with loadGpr := some 2 } }))
      = true := by decide
theorem test_branch_in_a_taken_slot :
    (refuses (after 0x1022FFFF { startAt [] with delay := .target 0x2000 }) .branchInDelaySlot) = true := by decide
theorem test_link_restriction : (refuses (after 0x07F00002 (startAt [])) .linkRestriction) = true := by decide
theorem test_external_store_breaks_the_link :
    (next (step { linked false true with agenda := [.externalStore 0x203F 9] }) fun t =>
      !t.llbit && memRead t.mem 0x203F == 9) = true := by decide
theorem test_run_ends :
    step { startAt [] with ended := true } = .fault .runEnded ∧
    step { startAt [] with env := { Env.default with endPC := some 0x1000 } } = .fault .runEnded := ⟨rfl, rfl⟩
/-- R51: a write to register 0 is lost, and register 0 reads as 0 whatever its container holds. -/
theorem test_register_zero : (startAt [(0, 5)]).getGpr 0 = 0 := by decide
/-- 20_memory.md R102, R116: in User mode with the RE bit the data byte order turns round. -/
theorem test_reverse_endian :
    (gprIs (after 0x84820002 { loaded 0x2000 with env := { Env.default with reBit := true } }) 2 0xFFFFFFFFFFFF8485) = true := by
  decide
/-- R821: LWC2, then SWC2 of the same register, at level I. -/
theorem test_cop2_load_delay :
    (refuses (after 0xE8820000 { atLevel 1 (withCop2 (startAt [(4, 0x2000)])) with
      hazards := { Hazards.empty with loadCop2 := some 2 } }) .cop2LoadDelay) = true := by decide
/-- R187: at level I a SQRT.S word with a bit in its zero field is no entry of the table. -/
theorem test_lower_level_reserved_fpu :
    (raised (after 0x46011004 (atLevel 1 { startAt [] with env := { Env.default with reservedFpu := .unimplementedOperation } }))
        (.floatingPoint 0b100000) &&
      raised (after 0x46011004 { startAt [] with env := { Env.default with reservedFpu := .unimplementedOperation } })
        .reservedInstruction) = true := by decide
/-- R533: in imprecise mode 1.0 / 0 with Division by Zero enabled completes, and its trap is pending. -/
theorem test_imprecise_division :
    (next (after 0x46041003 { fprs [(2, 0x3F800000)] 0x400 (startAt []) with
        env := { Env.default with fpMode := .imprecise } }) fun t =>
      t.pendingFpTrap && t.exc.isNone && regGet t.fgrLo 0 == 0x7F800000) = true := by decide
/-! ### Witnesses: states and operands that meet the hypotheses of each statement -/

/-- Some state comes next. -/
def goesOn (o : Out) : Bool := next o fun _ => true

/-- Bytes of one access type. -/
def ofType (t : AccessType) (ps : List Nat) : List (Nat × AccessType) := ps.map fun p => (p, t)

/-- What shows that an access goes through. -/
theorem reaches_of {s : State} {k : AccessKind} {a : Dword} {back n : Nat} {ps : List Nat} {t : AccessType}
    (h : s.dataBytes k a back n = .ok (ofType t ps)) : s.Reaches k a back n ps := ⟨_, h, by simp [ofType, Function.comp_def]⟩

/-- GPRLEN = 32: a MIPS II processor. -/
def narrow (s : State) : State := { s with env := { s.env with procLevel := 2, archLevel := 2 } }

/-- ADDU $3,$1,$2 is the next instruction. -/
def aboutToAdd : State := (startAt [(1, 5)]).withFetchWord 32 0x00221821

theorem test_witness_StepRunsTheDecodedInstruction :
    aboutToAdd.ended = false ∧ aboutToAdd.trapped = false ∧ aboutToAdd.delay ≠ .nullify ∧ aboutToAdd.agenda = [] ∧ aboutToAdd.atEnd = false ∧
    aboutToAdd.fetchBytes = .ok [0x00, 0x22, 0x18, 0x21] ∧
    decodeBytes aboutToAdd.env.bigEndianMem [0x00, 0x22, 0x18, 0x21] = .ok (.addu 1 2 3, []) ∧
    aboutToAdd.loadDelayBroken (.addu 1 2 3) = none ∧ aboutToAdd.env.archLevel ≠ 1 :=
  ⟨rfl, rfl, by decide, rfl, by decide, rfl, rfl, by decide, by decide⟩

theorem test_witness_StepsThatExecuteNoInstruction :
    ({ startAt [] with delay := .nullify }.ended = false ∧ { startAt [] with delay := .nullify }.trapped = false ∧
      { startAt [] with delay := .nullify }.delay = .nullify) ∧
    { startAt [] with ended := true }.ended = true ∧
    ((startAt []).ended = false ∧ (startAt []).trapped = false ∧ (startAt []).agenda = [] ∧ (startAt []).delay = .none ∧
      { startAt [] with env := { Env.default with endPC := some 0x1000 } }.env.endPC = some (startAt []).pc) := by decide

/-- A bus error at every byte, and no translation. -/
def broken : State := { startAt [] with env := { Env.default with busErrors := [⟨0, 2 ^ 64, true, true, true⟩] } }
def unmapped : State := { startAt [] with env := { Env.default with xlatElse := some .refill } }

/-- A reserved CPU word is next. -/
def aboutToFault : State := (startAt []).withFetchWord 32 0x70000000

theorem test_witness_FetchAndDecodeFaultsRaise :
    ({ startAt [] with pc := 0xFFFFFFFFFFFFFFFF }.pc.toNat % 4 ≠ 0 ∧ { startAt [] with pc := 0x1001 }.pc.toNat % 4 ≠ 0) ∧
    (unmapped.pc.toNat % 4 = 0 ∧ unmapped.translate .fetch unmapped.pc = .error (.tlbRefill .fetch 0x1000)) ∧
    (broken.pc.toNat % 4 = 0 ∧ broken.translate .fetch broken.pc = .ok (0x1000, .cachedNoncoherent) ∧
      broken.busHits .fetch [0x1000, 0x1001, 0x1002, 0x1003] = true) ∧
    aboutToFault.ended = false ∧ aboutToFault.trapped = false ∧ aboutToFault.delay ≠ .nullify ∧ aboutToFault.agenda = [] ∧
    aboutToFault.atEnd = false ∧ aboutToFault.fetchBytes = .ok [0x70, 0, 0, 0] ∧
    decodeBytes aboutToFault.env.bigEndianMem [0x70, 0, 0, 0] = .error .reservedCpu :=
  ⟨by decide, by decide, by decide, rfl, rfl, by decide, rfl, by decide, rfl, rfl⟩

/-- The FPU is not usable, and this word is next. -/
def noFpu (w : Word) : State := State.placeWord { startAt [] with cu := 0 } w

theorem test_witness_CoprocessorUnusableComesBeforeTheDecode :
    ∀ w ∈ [0x44600000#32, 0xC4820008#32, 0xD4A40010#32, 0xE4820008#32, 0xF4A40010#32],
      (noFpu w).fetchBytes = .ok (bytesOfWord (noFpu w).env.bigEndianMem w) ∧ (noFpu w).usable 1 = false ∧
      w.extractLsb' 26 6 ∈ [0b010001#6, 0b110001#6, 0b110101#6, 0b111001#6, 0b111101#6] := by
  intro w h
  simp only [List.mem_cons, List.not_mem_nil, or_false] at h
  rcases h with rfl | rfl | rfl | rfl | rfl <;> exact ⟨rfl, by decide, by decide⟩

/-- A slot is next after a taken branch, a link is held, and every FCSR bit of MIPS IV is set. -/
def busy : State :=
  { aboutToAdd with
    delay := .target 0xFFFFFFFFFFFFFFFC
    afterBranch := true
    llbit := true
    llRecord := some ⟨0x2000, 0x2000, .cachedNoncoherent, false⟩
    fcsr := 0xFF83FFFF }

theorem test_witness_EveryStepKeeps :
    busy.MemCanonical ∧ busy.ZeroIsZero ∧ busy.FcsrLegal ∧ busy.LinkRecorded ∧ busy.PendingAfterBranch ∧
    busy.NoTrackersAtFour ∧ (4 ≤ busy.env.archLevel) ∧ goesOn (step busy) = true := by
  refine ⟨by unfold State.MemCanonical; decide, rfl, ?_, fun _ => rfl, fun _ _ => rfl, fun _ => rfl, by decide, by decide⟩
  unfold State.FcsrLegal; decide

/-- A MIPS II processor with the smallest and the largest word in its registers. -/
def busyNarrow : State :=
  narrow ((startAt [(1, 0xFFFFFFFF80000000), (2, 0x7FFFFFFF)]).withFetchWord 32 0x00221821)

theorem test_witness_EveryStepKeepsTheRegisterFile : busyNarrow.Contained ∧ busy.Contained ∧ goesOn (step busyNarrow) = true ∧
    ((31 : Reg) ≠ 0 ∧ busy.hazards.moveGpr ≠ some 31 ∧ { Hazards.empty with moveGpr := some 1 }.moveGpr ≠ some 31) :=
  ⟨⟨by decide, rfl, rfl, rfl, fun _ h => by cases h⟩, ⟨by decide, rfl, rfl, rfl, fun _ h => by cases h; rfl⟩, by decide,
    by decide⟩

theorem test_witness_NoStepChangesTheEnvironment : goesOn (step busy) = true ∧ goesOn (step returning) = true := by decide

/-- An interrupt stands before the slot of a taken branch. -/
def interrupted : State := { startAt [] with agenda := [.interrupt, .idle], delay := .target 0x2000, afterBranch := true }

theorem test_witness_InterruptsAndReturnsKeepTheStream :
    (interrupted.ended = false ∧ interrupted.trapped = false ∧ interrupted.agenda = .interrupt :: [.idle] ∧
      interrupted.delay = .target 0x2000) ∧
    (returning.ended = false ∧ returning.trapped = false ∧ returning.delay ≠ .nullify ∧
      returning.agenda = .excReturn :: [] ∧ returning.exc = some ⟨.trap, 0x2000, false, 0x2000, none⟩ ∧
      returning.saved = ⟨.user, 2⟩ :: []) := by decide

/-- The state of a handler with this event next, and one outside any handler; the second register model; a trap waits. -/
theorem test_witness_EventsOfTheEnvironment :
    (returning.ended = false ∧ returning.trapped = false ∧ returning.delay ≠ .nullify ∧ returning.saved ≠ [] ∧
      (returning.env.is64 = true ∧ false ≠ returning.statusFR) ∧ (narrow returning).env.is64 = false) ∧
    (∀ e : EnvEvent, { returning with agenda := [e] }.agenda = e :: [] ∧ { startAt [] with agenda := [e] }.agenda = e :: []) ∧
    (startAt []).saved = [] ∧ { startAt [] with pendingFpTrap := true }.pendingFpTrap = true ∧
    ({ returning with trapped := true }.trapped = true ∧ { returning with trapped := true }.ended = false ∧
      { returning with trapped := true }.exc = some ⟨.trap, 0x2000, false, 0x2000, none⟩) :=
  ⟨by decide, fun _ => ⟨rfl, rfl⟩, by decide⟩

/-- Each level that an instruction may need, and the one below it. -/
theorem test_witness_levels :
    (atLevel 1 (startAt [])).env.archLevel < 2 ∧ 2 ≤ (atLevel 2 (startAt [])).env.archLevel ∧
    (atLevel 2 (startAt [])).env.archLevel < 3 ∧ 3 ≤ (atLevel 3 (startAt [])).env.archLevel ∧
    (atLevel 3 (startAt [])).env.archLevel < 4 ∧ 4 ≤ (atLevel 4 (startAt [])).env.archLevel ∧
    (startAt []).usable 1 = true ∧ { startAt [] with cu := 0 }.usable 1 = false := by decide

theorem test_witness_ConditionalTrapsTestAndTrap :
    (let s := startAt [(1, 0xFFFFFFFFFFFFFFFF), (2, 0)]
     (s.getGpr 1).toInt < (s.getGpr2 2).toInt ∧ ¬ (s.getGpr 1).toNat < (s.getGpr2 2).toNat ∧ s.getGpr 1 ≠ s.getGpr2 2) ∧
    (let s := startAt [(1, 5), (2, 5)]
     ¬ (s.getGpr 1).toInt < (s.getGpr2 2).toInt ∧ ¬ (s.getGpr 1).toNat < (s.getGpr2 2).toNat ∧ s.getGpr 1 = s.getGpr2 2) ∧
    (let s := startAt [(1, 0x7FFF)]
     (s.getGpr 1).toNat < ((0x8000#16).signExtend 64).toNat ∧ ¬ (s.getGpr 1).toInt < (0x8000#16).toInt ∧
      s.getGpr 1 = (0x7FFF#16).signExtend 64 ∧ (s.getGpr 0).toInt < (1#16).toInt) := by decide

theorem test_witness_ImmediateInstructionsWriteRt :
    (let s := startAt [(1, 0x7FFFFFFF)]; s.isWord (s.getGpr 1) ∧ s.movedGpr [1] = false) ∧
    (let s := startAt [(1, 0xFFFFFFFF80000000)]; s.isWord (s.getGpr 1)) ∧
    (let s := startAt [(1, 0x80000000)]; ¬ s.isWord (s.getGpr 1)) := by unfold State.isWord; decide

theorem test_witness_ThreeOperandInstructionsWriteRd :
    let s := startAt [(1, 0x7FFFFFFF), (2, 0xFFFFFFFF80000000)]
    s.isWord (s.getGpr 1) ∧ s.isWord (s.getGpr2 2) ∧ s.movedGpr [1, 2] = false := by unfold State.isWord; decide

/-- The largest sum that fits and the next one; the smallest difference that fits and the next one. -/
theorem test_witness_TrappingAdditionsTrapExactlyOnOverflow :
    (let s := startAt [(1, 0x7FFFFFFF), (2, 1)]
     s.isWord (s.getGpr 1) ∧ s.isWord (s.getGpr2 2) ∧ s.movedGpr [1, 2] = false) ∧
    fits 31 (0x7FFFFFFF + 0) ∧ ¬ fits 31 (0x7FFFFFFF + 1) ∧ fits 31 (-0x7FFFFFFF - 1) ∧ ¬ fits 31 (-0x80000000 - 1) ∧
    fits 63 (0x7FFFFFFFFFFFFFFF + 0) ∧ ¬ fits 63 (0x7FFFFFFFFFFFFFFF + 1) ∧ fits 63 (-0x8000000000000000) ∧
    ¬ fits 63 (-0x8000000000000000 - 1) ∧ (let s := startAt [(1, 0x80000000)]; ¬ s.isWord (s.getGpr 1)) := by
  unfold State.isWord fits; decide

theorem test_witness_ConditionalMovesMoveOrKeep :
    (startAt []).getGpr2 2 = 0 ∧ (startAt [(2, 1)]).getGpr2 2 ≠ 0 ∧ { startAt [] with cu := 0 }.usable 1 = false ∧
    (startAt []).usable 1 = true ∧ (startAt []).hazards.ctc = false ∧ fccOf (startAt []).fcsr 7 = false ∧
    fccOf { startAt [] with fcsr := 0x80000000 }.fcsr 7 = true := by decide

theorem test_witness_ShiftsWriteRd :
    (let s := startAt [(2, 0xFFFFFFFF80000000)]; s.isWord (s.getGpr 2) ∧ s.movedGpr [2, 1] = false) ∧
    (let s := startAt [(2, 0x80000000)]; ¬ s.isWord (s.getGpr 2)) := by
  unfold State.isWord; decide

theorem test_witness_MultipliesGiveTheWholeProduct :
    (let s := startAt [(1, 0x7FFFFFFF), (2, 0xFFFFFFFF80000000)]
     s.mayWriteHiLo true true ∧ s.isWord (s.getGpr 1) ∧ s.isWord (s.getGpr2 2) ∧ s.movedGpr [1, 2] = false) ∧
    (let s := startAt [(1, 0x80000000)]; ¬ (s.isWord (s.getGpr 1) ∧ s.isWord (s.getGpr2 2))) := by
  unfold State.isWord State.mayWriteHiLo; decide

/-- Divisors 1, -1 and 0, and one that is no word value but whose low word is not zero. -/
theorem test_witness_DivisionsGiveQuotientAndRemainder :
    (let s := startAt [(1, 0xFFFFFFFF80000000), (2, 0xFFFFFFFFFFFFFFFF)]
     s.mayWriteHiLo true true ∧ s.isWord (s.getGpr 1) ∧ s.isWord (s.getGpr2 2) ∧ s.movedGpr [1, 2] = false ∧
      ((s.getGpr2 2).setWidth 32 : Word) ≠ 0) ∧
    (((startAt []).getGpr2 2).setWidth 32 : Word) = 0 ∧
    (let s := startAt [(2, 0x100000001)]; ¬ s.isWord (s.getGpr2 2)) ∧
    (startAt [(2, 1)]).getGpr2 2 ≠ 0 ∧ (startAt []).getGpr2 2 = 0 := by
  unfold State.isWord State.mayWriteHiLo; decide

theorem test_witness_HiLoMovesFollowTheOrderingRules :
    (startAt []).mayWriteHiLo true false ∧ (startAt []).mayWriteHiLo false true ∧ (startAt []).hiLoPending = false ∧
    { startAt [] with recentMF := ⟨.lo 2, .none⟩ }.mayWriteHiLo true false ∧
    ¬ { startAt [] with recentMF := ⟨.none, .hi 2⟩ }.mayWriteHiLo true false ∧
    ¬ { startAt [] with recentMF := ⟨.lo 2, .none⟩ }.mayWriteHiLo false true ∧
    ¬ { startAt [] with recentMF := ⟨.none, .lo 2⟩ }.mayWriteHiLo true true ∧ 3 ≤ (startAt []).env.archLevel := by
  unfold State.mayWriteHiLo; decide

/-- The last byte, halfword, word and doubleword of the address space, and the first. -/
def atTop : State := startAt [(4, 0xFFFFFFFFFFFFFFF8)]

theorem test_witness_AlignedLoadsExtendTheValue :
    (alignedAt 0 (atTop.effAddr 4 7) ∧ atTop.dataBytes .load (atTop.effAddr 4 7) 0 (2 ^ 0) = .ok (ofType .cachedNoncoherent [0xFFFFFFFFFFFFFFFF])) ∧
    (alignedAt 1 (atTop.effAddr 4 6) ∧ atTop.offsetOk 1 6 ∧
      atTop.dataBytes .load (atTop.effAddr 4 6) 0 (2 ^ 1) = .ok (ofType .cachedNoncoherent [0xFFFFFFFFFFFFFFFE, 0xFFFFFFFFFFFFFFFF])) ∧
    (alignedAt 2 (atTop.effAddr 4 8) ∧ atTop.offsetOk 2 8 ∧ atTop.dataBytes .load (atTop.effAddr 4 8) 0 (2 ^ 2) = .ok (ofType .cachedNoncoherent [0, 1, 2, 3])) ∧
    (alignedAt 3 (atTop.effAddr 4 8) ∧ atTop.offsetOk 3 8 ∧ 3 ≤ atTop.env.archLevel ∧
      atTop.dataBytes .load (atTop.effAddr 4 8) 0 (2 ^ 3) = .ok (ofType .cachedNoncoherent [0, 1, 2, 3, 4, 5, 6, 7])) ∧
    ((atLevel 3 (startAt [(4, 2)])).offsetOk 2 2 ∧ alignedAt 2 ((atLevel 3 (startAt [(4, 2)])).effAddr 4 2)) := by
  unfold alignedAt State.offsetOk; decide

theorem test_witness_AlignedStoresWriteTheirBytes :
    (alignedAt 0 (atTop.effAddr 4 7) ∧ atTop.offsetOk 0 7 ∧
      atTop.dataBytes .store (atTop.effAddr 4 7) 0 (2 ^ 0) = .ok (ofType .cachedNoncoherent [0xFFFFFFFFFFFFFFFF])) ∧
    (alignedAt 1 (atTop.effAddr 4 6) ∧ atTop.offsetOk 1 6 ∧
      atTop.dataBytes .store (atTop.effAddr 4 6) 0 (2 ^ 1) = .ok (ofType .cachedNoncoherent [0xFFFFFFFFFFFFFFFE, 0xFFFFFFFFFFFFFFFF])) ∧
    (alignedAt 2 (atTop.effAddr 4 8) ∧ atTop.offsetOk 2 8 ∧ atTop.dataBytes .store (atTop.effAddr 4 8) 0 (2 ^ 2) = .ok (ofType .cachedNoncoherent [0, 1, 2, 3])) ∧
    (alignedAt 3 (atTop.effAddr 4 8) ∧ atTop.offsetOk 3 8 ∧ 3 ≤ atTop.env.archLevel ∧
      atTop.dataBytes .store (atTop.effAddr 4 8) 0 (2 ^ 3) = .ok (ofType .cachedNoncoherent [0, 1, 2, 3, 4, 5, 6, 7])) := by
  unfold alignedAt State.offsetOk; decide

/-- Locations of two access types: 0x2000 was used cached, and is now uncached. -/
def mixed : State :=
  { startAt [] with
    typed := [(0x2003, .cachedNoncoherent)]
    env := { Env.default with
      xlat := [⟨0x2000, 8, .mapped (0x2000 / 8) true, .uncached, false, true, true, true, true, true⟩] } }

/-- A 32-bit processor whose words at 0x2000 and 0x2004 translate apart, the second one to where no store may go; and one
that gives them two access types. -/
def apart : State :=
  { narrow (memFrom (memFrom (startAt []) 0x3000 [1, 2, 3, 4, 5]) 0x4003 [9, 5, 6, 7, 8]) with
    env := { (narrow (startAt [])).env with
      xlat := [⟨0x2000, 4, .mapped (0x3000 / 8) true, .cachedNoncoherent, false, true, true, true, true, true⟩,
        ⟨0x2004, 4, .mapped (0x4000 / 8) false, .uncached, false, true, true, true, true, true⟩] } }

/-- D13: the doubleword of a 32-bit processor is translated once per word; a failure reports the effective address. -/
theorem test_words_translated_apart :
    apart.dataBytes .load 0x2000 0 8 =
      .ok (ofType .cachedNoncoherent [0x3000, 0x3001, 0x3002, 0x3003] ++ ofType .uncached [0x4004, 0x4005, 0x4006, 0x4007]) ∧
    apart.dataBytes .store 0x2000 0 8 = .error (.raised (.tlbModified 0x2000)) ∧
    (next (exec (.ldc1 0 4 0x2000) apart) fun t =>
      regGet t.fgrLo 5 == 0x01020304 && regGet t.fgrLo 4 == 0x05060708 && t.typed.length == 8) = true := by decide

/-- Misaligned addresses next to aligned ones, an offset restricted at MIPS IV, and the three ways to be stopped. -/
theorem test_witness_StoppedAccessesOfTheCpu :
    ((atTop.effAddr 4 7).toNat % 2 ^ 1 ≠ 0 ∧ (atTop.effAddr 4 6).toNat % 2 ^ 2 ≠ 0 ∧ (atTop.effAddr 4 4).toNat % 2 ^ 3 ≠ 0) ∧
    ((startAt [(4, 2)]).effAddr 4 2).toNat % 2 ^ 2 = 0 ∧ (4 ≤ (startAt [(4, 2)]).env.archLevel ∧ (2#16).toNat % 2 ^ 2 ≠ 0) ∧
    ((broken.effAddr 0 0x7FFC).toNat % 2 ^ 2 = 0 ∧ (0x7FFC#16).toNat % 2 ^ 2 = 0 ∧
      broken.dataBytes .load 0x7FFC 0 4 = .error (.raised (.busError .load 0x7FFC)) ∧
      broken.dataBytes .store 0x7FFC 0 4 = .error (.raised (.busError .store 0x7FFC))) ∧
    (unmapped.translate .load 0x7FFC = .error (.tlbRefill .load 0x7FFC) ∧
      unmapped.dataBytes .store 0x7FFC 0 4 = .error (.raised (.tlbRefill .store 0x7FFC))) ∧
    (mixed.translate .load 0x2000 = .ok (0x2000, .uncached) ∧ mixed.dataBytes .load 0x2000 0 4 = .error (.refused .mixedAccess) ∧
      mixed.dataBytes .load 0x2000 0 1 = .ok (ofType .uncached [0x2000])) ∧
    (mixed.env.oneType = false ∧ mixed.dataBytes .load 0x3000 0 4 = .ok (ofType .cachedNoncoherent [0x3000, 0x3001, 0x3002, 0x3003]) ∧
      3 ≤ mixed.env.archLevel) := by decide

/-- For the same statement: a byte that was used with another access type, and two words translated apart. -/
theorem test_witness_StoppedAccessesOfTheCpu_words :
    (∃ e ∈ mixed.typed, ∃ b ∈ ofType .uncached [0x2000, 0x2001, 0x2002, 0x2003], b.1 = e.1 ∧ b.2 ≠ e.2) ∧
    (mixed.env.is64 = true ∧ apart.env.is64 = false ∧ apart.translate .load 0x2000 = .ok (0x3000, .cachedNoncoherent) ∧
      apart.translateFor .load 0x2000 (apart.norm (0x2000 + 4)) = .ok (0x4004, .uncached) ∧
      apart.translateFor .store 0x2000 (apart.norm (0x2000 + 4)) = .error (.tlbModified 0x2000)) :=
  ⟨⟨(0x2003, .cachedNoncoherent), by decide, (0x2003, .uncached), by decide, by decide⟩, by decide⟩

/-- An uncached location, LLbit set and no link; for the indexed forms other region bits than those of base. -/
theorem test_witness_StoppedAccessesOfCoprocessorsAndLinks :
    (broken.usable 1 = true ∧ 4 ≤ broken.env.archLevel ∧ (withCop2 broken).usable 2 = true ∧
      (withCop2 broken).env.cop2Present = true) ∧
    (¬ ((startAt [(4, 0x4000000000000000), (5, 0x4000000000000000)]).regionOk 0x8000000000000000 4) ∧
      atTop.regionOk (atTop.indexedAddr 4 0) 4 ∧ (atTop.indexedAddr 4 0).toNat % 2 ^ 3 = 0) ∧
    (mixed.translate .load 0x2000 = .ok (0x2000, .uncached) ∧ AccessType.uncached.cached = false ∧
      AccessType.cachedNoncoherent.cached = true ∧
      broken.translate .store 0x7FFC = .ok (0x7FFC, .cachedNoncoherent) ∧
      unmapped.translate .store 0x7FFC = .error (.tlbRefill .store 0x7FFC)) ∧
    (broken.llRecord = none ∧ { broken with llbit := true }.llbit = true) := by
  unfold State.regionOk; decide

/-- For the values that loads, and results of FPU operands, have when no move came just before. -/
theorem test_witness_no_move_just_before :
    (∀ l ∈ [[4], [4, 0], [4, 2], [0, 31]], atTop.movedGpr l = false ∧ (withCop2 atTop).movedGpr l = false) ∧
    (∀ f ∈ [FpFmt.S, .D, .W, .L], [2, 4, 6].any ((startAt []).movedFpr f) = false) := by decide

theorem startAt_plain : (startAt [(4, 0xFFFFFFFFFFFFFFF8)]).Plain :=
  ⟨⟨rfl, rfl⟩, ⟨rfl, rfl⟩, ⟨rfl, rfl, rfl⟩, rfl, rfl, rfl, rfl⟩

/-- Both byte orders, the reversed one of user mode, and eight bytes. -/
theorem test_witness_AccessesReachTheirBytesInTheDataByteOrder :
    atTop.Plain ∧ atTop.bigEndianCPU = true ∧ (little atTop).bigEndianCPU = false ∧
    (atTop.translate .load 0x2000 = .ok (0x2000, .cachedNoncoherent) ∧ atTop.typed = [] ∧ atTop.env.busErrors = []) ∧
    [0, 1, 2, 3, 4, 5, 6, 7].length ≤ 8 ∧
    (atTop.env.is64 = true ∧ apart.env.is64 = false ∧ apart.typed = [] ∧ apart.env.busErrors = [] ∧
      apart.translate .load 0x2000 = .ok (0x3000, .cachedNoncoherent) ∧
      apart.translateFor .load 0x2000 (apart.norm (0x2000 + 4)) = .ok (0x4004, .uncached)) :=
  ⟨startAt_plain, rfl, rfl, by decide, by decide, by decide⟩

/-- Every span of a word and a doubleword: one byte, the whole unit. -/
theorem test_witness_UnalignedLoadsMergeIntoRt :
    leftSpan true 4 3 = (0, 1) ∧ leftSpan true 4 0 = (0, 4) ∧ rightSpan true 4 3 = (3, 4) ∧ rightSpan true 4 0 = (0, 1) ∧
    leftSpan false 8 7 = (7, 8) ∧ rightSpan false 8 7 = (0, 1) ∧
    atTop.dataBytes .load (atTop.effAddr 4 7) 0 1 = .ok (ofType .cachedNoncoherent [0xFFFFFFFFFFFFFFFF]) ∧
    atTop.dataBytes .load (atTop.effAddr 4 3) 3 4 = .ok (ofType .cachedNoncoherent [0xFFFFFFFFFFFFFFF8, 0xFFFFFFFFFFFFFFF9, 0xFFFFFFFFFFFFFFFA,
      0xFFFFFFFFFFFFFFFB]) ∧
    atTop.dataBytes .load (atTop.effAddr 4 8) 0 8 = .ok (ofType .cachedNoncoherent [0, 1, 2, 3, 4, 5, 6, 7]) ∧ 3 ≤ atTop.env.archLevel ∧ (atTop.env.is64 = true ∧ atTop.env.lwrUpper = .keep) ∧
    (narrow atTop).env.is64 = false := by
  decide

theorem test_witness_UnalignedStoresWriteTheirBytes :
    atTop.dataBytes .store (atTop.effAddr 4 7) 0 1 = .ok (ofType .cachedNoncoherent [0xFFFFFFFFFFFFFFFF]) ∧
    atTop.dataBytes .store (atTop.effAddr 4 3) 3 4 = .ok (ofType .cachedNoncoherent [0xFFFFFFFFFFFFFFF8, 0xFFFFFFFFFFFFFFF9, 0xFFFFFFFFFFFFFFFA,
      0xFFFFFFFFFFFFFFFB]) ∧
    atTop.dataBytes .store (atTop.effAddr 4 8) 0 8 = .ok (ofType .cachedNoncoherent [0, 1, 2, 3, 4, 5, 6, 7]) ∧ 3 ≤ atTop.env.archLevel := by
  decide

theorem test_witness_LwlThenLwrLoadsAnUnalignedWord :
    atTop.Plain ∧ (5 : Reg) ≠ 0 ∧ (5 : Reg) ≠ 4 ∧ (atTop.effAddr 4 4).toNat + 3 < 2 ^ 64 ∧ (4#16).toInt + 3 < 2 ^ 15 ∧
    (0x7FFC#16).toInt + 3 < 2 ^ 15 := ⟨startAt_plain, by decide⟩

theorem test_witness_LinkedLoadsBeginASequence :
    (alignedAt 2 (atTop.effAddr 4 4) ∧ atTop.offsetOk 2 4 ∧ atTop.translate .load (atTop.effAddr 4 4) = .ok (0xFFFFFFFFFFFFFFFC, .cachedNoncoherent) ∧
      AccessType.cachedNoncoherent.cached = true ∧
      atTop.dataBytes .load (atTop.effAddr 4 4) 0 (2 ^ 2) = .ok (ofType .cachedNoncoherent [0xFFFFFFFFFFFFFFFC, 0xFFFFFFFFFFFFFFFD, 0xFFFFFFFFFFFFFFFE,
        0xFFFFFFFFFFFFFFFF])) ∧
    (alignedAt 3 (atTop.effAddr 4 8) ∧ atTop.offsetOk 3 8 ∧ atTop.translate .load (atTop.effAddr 4 8) = .ok (0, .cachedNoncoherent) ∧
      atTop.dataBytes .load (atTop.effAddr 4 8) 0 (2 ^ 3) = .ok (ofType .cachedNoncoherent [0, 1, 2, 3, 4, 5, 6, 7])) := by
  unfold alignedAt State.offsetOk; decide

/-- The link of this word or doubleword, LLbit clear, no link, and the link of the other width. -/
theorem test_witness_StoreConditionalsStoreOnlyWithTheLink :
    (alignedAt 2 ((linked false true).effAddr 8 0) ∧ (linked false true).offsetOk 2 0 ∧
      (linked false true).translate .store ((linked false true).effAddr 8 0) = .ok (0x2000, .cachedNoncoherent)) ∧
    ((linked false true).llbit = true ∧ (linked false true).llRecord = some ⟨0x2000, 0x2000, .cachedNoncoherent, false⟩ ∧
      (linked false true).dataBytes .store 0x2000 0 (2 ^ 2) = .ok (ofType .cachedNoncoherent [0x2000, 0x2001, 0x2002, 0x2003])) ∧
    ((linked true true).llRecord = some ⟨0x2000, 0x2000, .cachedNoncoherent, true⟩ ∧ alignedAt 3 0x2000 ∧
      (linked true true).dataBytes .store 0x2000 0 (2 ^ 3) = .ok (ofType .cachedNoncoherent [0x2000, 0x2001, 0x2002, 0x2003, 0x2004, 0x2005, 0x2006, 0x2007])) ∧
    ((linked false false).llbit = false ∧ (linked false false).llRecord ≠ none) ∧
    (startAt []).llRecord = none ∧
    ((linked true true).llbit = true ∧ (linked true true).llRecord ≠ some ⟨0x2000, 0x2000, .cachedNoncoherent, false⟩) := by
  unfold alignedAt State.offsetOk; decide

/-- The last byte of the linked block. -/
theorem test_witness_LlThenScIsAtomic :
    atTop.Plain ∧ alignedAt 2 (atTop.effAddr 4 4) ∧ (4#16).toNat % 4 = 0 ∧ (5 : Reg) ≠ 4 ∧ (6 : Reg) ≠ 0 ∧ (5 : Reg) ≠ 6 ∧
    0xFFFFFFFFFFFFFFFF < 2 ^ 64 ∧
    0xFFFFFFFFFFFFFFFF / atTop.env.llBlockSize = (atTop.effAddr 4 4).toNat / atTop.env.llBlockSize :=
  ⟨startAt_plain, by unfold alignedAt; decide⟩

theorem test_witness_CoprocessorTwoTransfersMoveData :
    atTop.usable 2 = false ∧ ({ atTop with cu := 4 }.usable 2 = true ∧ { atTop with cu := 4 }.env.cop2Present = false) ∧
    (atLevel 1 (withCop2 atTop)).env.archLevel < 2 ∧ (withCop2 atTop).env.cop2Usual = true ∧
    { withCop2 atTop with env := { Env.default with cop2Usual := false } }.env.cop2Usual = false ∧
    (withCop2 atTop).usable 2 = true ∧ (withCop2 atTop).env.cop2Present = true ∧
    1 ≤ (atLevel 1 (withCop2 atTop)).env.archLevel ∧ 2 ≤ (atLevel 2 (withCop2 atTop)).env.archLevel ∧
    (alignedAt 2 ((withCop2 atTop).effAddr 4 4) ∧ (withCop2 atTop).offsetOk 2 4 ∧
      (withCop2 atTop).dataBytes .load ((withCop2 atTop).effAddr 4 8) 0 4 = .ok (ofType .cachedNoncoherent [0, 1, 2, 3]) ∧
      (withCop2 atTop).dataBytes .store ((withCop2 atTop).effAddr 4 8) 0 4 = .ok (ofType .cachedNoncoherent [0, 1, 2, 3])) ∧
    (alignedAt 3 ((withCop2 atTop).effAddr 4 8) ∧ (withCop2 atTop).offsetOk 3 8 ∧
      (withCop2 atTop).dataBytes .load ((withCop2 atTop).effAddr 4 8) 0 8 = .ok (ofType .cachedNoncoherent [0, 1, 2, 3, 4, 5, 6, 7]) ∧
      (withCop2 atTop).dataBytes .store ((withCop2 atTop).effAddr 4 8) 0 8 = .ok (ofType .cachedNoncoherent [0, 1, 2, 3, 4, 5, 6, 7])) := by
  unfold alignedAt State.offsetOk; decide

/-- Cop0Op given and usable. -/
def withCop0 (s : State) : State := { s with cu := 3, env := { s.env with cop0Given := true } }

theorem startAt_notInTakenSlot (l : List (Reg × Dword)) (h : (startAt l).delay = .none) : (startAt l).notInTakenSlot := by
  intro t e; rw [h] at e; cases e

theorem test_witness_CoprocessorOperations :
    (startAt []).usable 0 = false ∧ ({ startAt [] with cu := 1 }.usable 0 = true ∧ (startAt []).env.cop0Given = false) ∧
    ((withCop0 (startAt [])).usable 0 = true ∧ (withCop0 (startAt [])).env.cop0Given = true) ∧
    (startAt []).usable 2 = false ∧
    ((withCop2 (startAt [])).usable 2 = true ∧ 1 ≤ (withCop2 (startAt [])).env.archLevel ∧
      (withCop2 (startAt [])).env.cop2Present = true) ∧
    ({ startAt [] with cu := 4 }.usable 2 = true ∧ { startAt [] with cu := 4 }.env.cop2Present = false) ∧
    ({ unitWrites with raises := some .interrupt }.raises = some .interrupt ∧ unitWrites.raises = none ∧
      unitWrites.flow.isBranch = false ∧ unitBranches.raises = none ∧ unitBranches.flow.isBranch = true) ∧
    ((startAt []).notInTakenSlot ∧ ¬ { startAt [] with delay := .target 0x2000 }.notInTakenSlot) :=
  ⟨by decide, by decide, by decide, by decide, by decide, by decide, by decide, startAt_notInTakenSlot _ rfl, fun h => h _ rfl⟩

theorem test_witness_HintsAndSyncOnlyAdvance :
    4 ≤ (startAt []).env.archLevel ∧ atTop.regionOk (atTop.indexedAddr 4 0) 4 := by
  unfold State.regionOk; decide

/-- For each statement about branches and jumps. -/
theorem test_witness_branches :
    (startAt [(1, 5), (2, 5)]).notInTakenSlot ∧ { startAt [] with delay := .nullify }.notInTakenSlot ∧
    ((1 : Reg) ≠ 31 ∧ (31 : Reg) = 31) := ⟨startAt_notInTakenSlot _ rfl, (fun _ h => nomatch h), by decide⟩

/-- A state whose r1 and r2 are equal, so that BEQ r1, r2 is taken. -/
def equalPair : State := startAt [(1, 5), (2, 5)]

/-- The branch is taken and an AND completes in its slot; it is not taken. -/
theorem test_witness_TheSlotRunsBeforeTheTarget :
    equalPair.notInTakenSlot ∧ equalPair.ended = false ∧ equalPair.trapped = false ∧ equalPair.getGpr 1 = equalPair.getGpr2 2 ∧
    (∃ w post, Completes (equalPair.takeBranch 0x2000) (exec (.and 1 2 3) (equalPair.takeBranch 0x2000)) w post) ∧
    2 ≤ (startAt [(1, 5)]).env.archLevel ∧ (startAt [(1, 5)]).getGpr 1 ≠ (startAt [(1, 5)]).getGpr2 2 := by
  refine ⟨startAt_notInTakenSlot _ rfl, by decide, by decide, by decide, ?_, by decide⟩
  obtain ⟨_, -, h⟩ := writesResult_writeResult (equalPair.takeBranch 0x2000) [1, 2] 3 _
  exact ⟨_, _, h⟩

theorem test_witness_BranchesInATakenSlotAreRefused :
    { startAt [] with delay := .target 0x2000 }.delay = .target 0x2000 ∧ 2 ≤ (atLevel 2 (startAt [])).env.archLevel ∧
    (startAt []).usable 1 = true ∧ 1 ≤ (atLevel 1 (startAt [])).env.archLevel ∧
    ((startAt []).env.archLevel < 4 → (7 : BitVec 3) = 0) ∧ ((atLevel 3 (startAt [])).env.archLevel < 4 → (0 : BitVec 3) = 0) ∧
    (∀ i, (startAt []).fpTrapped i [] = false) :=
  ⟨rfl, by decide, rfl, by decide, by decide, by decide, fun _ => rfl⟩

theorem test_witness_FloatingPointBranchesTestTheConditionCode :
    (startAt []).notInTakenSlot ∧ ¬ ((startAt []).env.archLevel < 4 ∧ (7 : BitVec 3) ≠ 0) ∧
    ((atLevel 3 (startAt [])).env.archLevel < 4 ∧ (1 : BitVec 3) ≠ 0) ∧
    ¬ ((atLevel 3 (startAt [])).env.archLevel < 4 ∧ (0 : BitVec 3) ≠ 0) ∧
    (∀ i, (startAt []).fpTrapped i [] = false) ∧
    (let s := { startAt [] with env := { Env.default with fpUnimpWords := [(0xFFFF0000, 0x45010000)] } }
     s.fpTrapped (.bc1t 0 7) [] = true ∧ s.fpTrapped (.bc1t 1 7) [] = false) ∧
    (startAt []).hazards.compare = false ∧ (startAt []).hazards.ctc = false ∧
    { startAt [] with hazards := { Hazards.empty with compare := true } }.hazards.compare = true :=
  ⟨startAt_notInTakenSlot _ rfl, by decide, by decide, by decide, fun _ => rfl, by decide, by decide⟩

/-- The word is next, on a processor of this level. -/
def olderWith (n : Nat) (w : Word) : State :=
  { State.withFetchWord (startAt []) 32 w.toNat with
    cu := 0b1010
    env := { Env.default with archLevel := n, procLevel := n, opcode2FUsed := true } }

/-- Words of opcode 111011, SQRT.S, RECIP.S and DMFC1 with a bit in a required-zero field, and opcode 101111. -/
theorem test_witness_EncodingsOfOtherLevels :
    (∀ n ∈ [1, 2], (olderWith n 0).env.archLevel < 4 ∧ (olderWith n 0).env.procLevel ≤ 2 ∧ (olderWith n 0).usable 3 = true) ∧
    (olderWith 1 0).env.archLevel < 2 ∧
    ((startAt []).usable 3 = false ∧ 2 < (olderWith 3 0).env.procLevel ∧ 2 < (olderWith 3 0).env.archLevel) ∧
    (∀ n ∈ [1, 2, 3, 4], ∀ w ∈ [0xEC000000#32, 0x46011004#32, 0x46011015#32, 0x44220001#32, 0xBC000000#32],
      (olderWith n w).fetchBytes = .ok (bytesOfWord (olderWith n w).env.bigEndianMem w) ∧ (olderWith n w).usable 1 = true) ∧
    ((olderWith 2 0).usable 0 = false ∧ (olderWith 2 0).mode = .user ∧ (olderWith 2 0).env.opcode2FUsed = true ∧
      (startAt []).env.opcode2FUsed = false ∧ (withCop0 (startAt [])).usable 0 = true) := by
  refine ⟨by decide, by decide, by decide, ?_, by decide⟩
  intro n hn w hw
  simp only [List.mem_cons, List.not_mem_nil, or_false] at hn hw
  rcases hn with rfl | rfl | rfl | rfl <;> rcases hw with rfl | rfl | rfl | rfl | rfl <;> exact ⟨rfl, rfl⟩

theorem test_witness_FpuLoadsFillTheFgr :
    (alignedAt 2 (atTop.effAddr 4 4) ∧ atTop.offsetOk 2 4 ∧ atTop.dataBytes .load (atTop.effAddr 4 8) 0 4 = .ok (ofType .cachedNoncoherent [0, 1, 2, 3])) ∧
    (alignedAt 3 (atTop.effAddr 4 8) ∧ atTop.offsetOk 3 8 ∧ 2 ≤ (atLevel 2 atTop).env.archLevel ∧
      atTop.dataBytes .load (atTop.effAddr 4 8) 0 8 = .ok (ofType .cachedNoncoherent [0, 1, 2, 3, 4, 5, 6, 7])) ∧
    (atTop.regionOk (atTop.indexedAddr 4 0) 4 ∧ alignedAt 3 (atTop.indexedAddr 4 0) ∧ 4 ≤ atTop.env.archLevel) ∧
    atTop.badFpr [31] = false ∧ (narrow atTop).badFpr [30] = false ∧ (narrow atTop).badFpr [31] = true := by
  unfold alignedAt State.offsetOk State.regionOk; decide

theorem test_witness_FpuStoresWriteTheFgrBytes :
    (alignedAt 2 (atTop.effAddr 4 4) ∧ atTop.offsetOk 2 4 ∧ atTop.dataBytes .store (atTop.effAddr 4 8) 0 4 = .ok (ofType .cachedNoncoherent [0, 1, 2, 3])) ∧
    (alignedAt 3 (atTop.effAddr 4 8) ∧ atTop.offsetOk 3 8 ∧
      atTop.dataBytes .store (atTop.effAddr 4 8) 0 8 = .ok (ofType .cachedNoncoherent [0, 1, 2, 3, 4, 5, 6, 7])) ∧
    (atTop.tagOf 31 ≠ .unknown ∧ atTop.hazards.moveFpr = [] ∧ atTop.badFpr [31] = false) := by
  unfold alignedAt State.offsetOk; decide

theorem test_witness_MovesBetweenCpuAndFpu :
    (startAt []).tagOf 31 ≠ .unknown ∧ (startAt []).hazards.moveFpr = [] ∧ (startAt []).badFpr [31] = false := by decide

/-- The imprecise exception mode. -/
def imprecise (s : State) : State := { s with env := { s.env with fpMode := .imprecise } }

/-- An FCSR that traps by E, one that traps by an enabled cause, and one with every cause and no enable. -/
theorem test_witness_ControlMovesReadAndWriteTheFcsr :
    (startAt []).env.fpMode = .precise ∧ (imprecise (startAt [])).env.fpMode = .imprecise ∧ (startAt []).hazards.ctc = false ∧
    ((((startAt [(2, 0x20000)]).getGpr 2).setWidth 32 &&& (startAt []).fcsrMask : Word).getLsbD 17 = true) ∧
    (((0x10800#32).extractLsb' 12 5 : BitVec 5) &&& (0x10800#32).extractLsb' 7 5) ≠ 0 ∧
    ¬ ((0x1F07C#32).getLsbD 17 = true ∨ ((0x1F07C#32).extractLsb' 12 5 &&& (0x1F07C#32).extractLsb' 7 5 : BitVec 5) ≠ 0) ∧
    (1 : Reg) ≠ 0 ∧ (1 : Reg) ≠ 31 := by decide

/-- Operands of FPR 2, 4 and 6 at the FCSR `f`. -/
def fpState (f : Word) : State := fprs [(2, 0x3F800000), (4, 0), (6, 0x3F800000)] f (startAt [])

/-- The state right after a CTC1 at MIPS III. -/
def afterCtc (s : State) : State := { atLevel 3 s with hazards := { Hazards.empty with ctc := true } }

theorem test_witness_fpu_arithmetic :
    (fpState 0).FpReady (.sqrtS 2 0) .S [2] [0] [0x3F800000] ∧ (fpState 0).FpReady (.divS 4 2 0) .S [2, 4] [0] [0x3F800000, 0] ∧
    (fpState 0).FpReady (.maddS 6 4 2 0) .S [2, 4, 6] [0] [0x3F800000, 0, 0x3F800000] ∧
    (fpState 0).FpReady (.cOltS 4 2 0) .S [2, 4] [] [0x3F800000, 0] ∧
    (fpDiv .S 0 0x3F800000 0).conds &&& enablesOf (fpState 0).fcsr = 0 ∧
    (fpDiv .S 0x400 0x3F800000 0).conds &&& enablesOf (fpState 0x400).fcsr ≠ 0 ∧
    (fpState 0x400).FpReady (.divS 4 2 0) .S [2, 4] [0] [0x3F800000, 0] ∧
    (imprecise (fpState 0x400)).FpReady (.divS 4 2 0) .S [2, 4] [0] [0x3F800000, 0] ∧
    (afterCtc (fpState 0)).FpReady (.divS 4 2 0) .S [2, 4] [0] [0x3F800000, 0] ∧ (fpState 0).hazards.ctc = false ∧
    (afterCtc (fpState 0)).hazards.ctc = true :=
  ⟨⟨rfl, rfl, rfl⟩, ⟨rfl, rfl, rfl⟩, ⟨rfl, rfl, rfl⟩,
    ⟨rfl, rfl, rfl⟩, by decide, by decide, ⟨rfl, rfl, rfl⟩, ⟨rfl, rfl, rfl⟩, ⟨rfl, rfl, rfl⟩, rfl, rfl⟩

/-- R824, R825, R845: the states that MFC1 r2, F4 and MTC1 r2, F4 leave at MIPS III. -/
def afterMfc1 : State := { atLevel 3 (startAt [(2, 5)]) with hazards := { Hazards.empty with moveGpr := some 2 } }
def afterMtc1 : State := { atLevel 3 (fpState 0) with hazards := { Hazards.empty with moveFpr := [4] } }

theorem test_moves_mark_their_register :
    (next (exec (.mfc1 2 4) (atLevel 3 (startAt []))) fun t => t.hazards.moveGpr == some 2) = true ∧
    (next (exec (.mtc1 2 4) (atLevel 3 (startAt []))) fun t => t.hazards.moveFpr == [4]) = true ∧
    afterMfc1.movedGpr [3, 2] = true ∧ afterMfc1.movedGpr [0, 3] = false ∧
    afterMtc1.movedFpr .S 4 = true ∧ afterMtc1.movedFpr .S 2 = false ∧ (narrow afterMtc1).movedFpr .D 4 = true := by
  decide

/-- R824, R845: after MFC1 r2 both operands of XOR r3, r2, r2, and its result, are values drawn apart. -/
theorem test_xor_of_a_moved_register :
    afterMfc1.getGpr 2 = afterMfc1.draw 2 ∧ afterMfc1.getGpr2 2 = afterMfc1.draw 182 ∧
    WritesGpr afterMfc1 (exec (.xor 2 2 3) afterMfc1) 3 (afterMfc1.draw 171) :=
  ⟨rfl, rfl, writesGpr_writeGpr _ _ _⟩

/-- R825, R845: after MTC1 F4 the two operands of ADD.S F6, F4, F4, and its result, are values drawn apart. -/
theorem test_add_of_a_moved_register (r : Rounded) :
    (afterMtc1.readFprs .S [4, 4]).1 =
      some [zextWord (lowWord (afterMtc1.draw 173)), zextWord (lowWord (afterMtc1.draw 172))] ∧
    (afterMtc1.fpResult .S [4, 4] r).bits = afterMtc1.draw 171 := ⟨rfl, rfl⟩

/-- An implementation without ADD.S. -/
def withoutAdd (s : State) : State := { s with env := { s.env with fpUnimpWords := [(0xFFE0003F, 0x46000000)] } }

/-- For each statement about FPU arithmetic: a register that names no FPR, operands without a value, an operation that is
not implemented, right after a CTC1 too, a denormalized operand that a flush makes zero, and a denormalized result left to
software. -/
theorem test_witness_fpu_aside :
    (narrow (startAt [])).badFpr ([1, 4] ++ (FpDest.fpr 0 .S).regs) = true ∧
    (startAt []).badFpr ([2, 4] ++ (FpDest.fpr 0 .S).regs) = false ∧
    ({ startAt [] with fprTag := Vector.replicate 32 (.value .D) }.readFprs .S [2, 4]).1 = none ∧
    ((fpState 0).readFprs .S [2, 4]).1 = some [0x3F800000, 0] ∧
    (withoutAdd (fpState 0)).fpUnimplemented (.addS 4 2 0) .S [0x3F800000, 0] = true ∧
    (afterCtc (withoutAdd (fpState 0))).fpUnimplemented (.addS 4 2 0) .S [0x3F800000, 0] = true ∧
    flushOperand { Env.default with fsOperandFlush := true } .S 0x01000000 0x80000001 = 0x80000000 ∧
    destDenorm (.fpr 0 .S) 1 = true := by decide

/-- The sources and destinations of the conversions. -/
theorem test_witness_ConversionsDeliver :
    (fpState 0).FpReady (.cvtWS 2 0) .S [2] [0] [0x3F800000] ∧ (fpState 0).FpReady (.cvtSD 4 0) .D [4] [0] [0] ∧
    (fpState 0).FpReady (.cvtSW 2 0) .W [2] [0] [0x3F800000] ∧ (fpState 0).FpReady (.cvtDL 4 0) .L [4] [0] [0] :=
  ⟨⟨rfl, rfl, rfl⟩, ⟨rfl, rfl, rfl⟩, ⟨rfl, rfl, rfl⟩,
    ⟨rfl, rfl, rfl⟩⟩

theorem test_witness_TheOrderKeyIsTheNumericOrder :
    (fpVal .S 0x80000000).finite = true ∧ (fpVal .S 1).finite = true ∧ (fpVal .S 0x7F7FFFFF).finite = true ∧
    (fpVal .D 0x8000000000000001).finite = true ∧ (fpVal .D 0x7FEFFFFFFFFFFFFF).finite = true ∧
    fpVal .S 0xFF800000 = .inf true ∧ fpVal .S 0x7F800000 = .inf false ∧ fpVal .D 0xFFF0000000000000 = .inf true ∧
    fpVal .D 0x7FF0000000000000 = .inf false := by decide

/-- The smallest and the largest normalized numbers; a part of a unit below a magnitude of enough bits; ties and no dropped
bit. -/
theorem test_witness_ResultsAreRoundedOnce :
    (2 ^ (precOf .S - 1) ≤ 2 ^ 23 ∧ 2 ^ 24 - 1 < 2 ^ precOf .S ∧ eminOf .S ≤ -149 + (precOf .S - 1 : Nat) ∧
      (104 : Int) + (precOf .S - 1 : Nat) ≤ emaxOf .S) ∧
    (2 ^ (precOf .D - 1) ≤ 2 ^ 52 ∧ 2 ^ 53 - 1 < 2 ^ precOf .D ∧ eminOf .D ≤ -1074 + (precOf .D - 1 : Nat) ∧
      (971 : Int) + (precOf .D - 1 : Nat) ≤ emaxOf .D) ∧
    (2 ^ (precOf .S + 2) ≤ 2 ^ 26 ∧ 2 ^ (precOf .D + 2) ≤ 2 ^ 55) ∧
    roundShift 0 false 3 false 1 = (2, true) ∧ roundShift 0 true 1 false 1 = (0, true) ∧ roundShift 2 false 5 false 2 = (2, true) ∧
    roundShift 3 false 5 false 2 = (1, true) ∧ roundShift 3 true 5 false 2 = (2, true) ∧ roundShift 0 false 8 false 2 = (2, false) := by
  decide

/-- For the statements about the exact results: finite numbers, zeros, infinities and NaNs of both signs. -/
theorem test_witness_exact_results :
    fpVal .S 0x3FC00000 = .num false (3 * 2 ^ 22) (-23) ∧ fpVal .S 0x80000001 = .num true 1 (-149) ∧
    fpVal .S 0x80000000 = .zero true ∧ fpVal .S 0xFF800000 = .inf true ∧ fpVal .S 0x7F800000 = .inf false ∧
    [0x7FC00000#64].any (isNaN .S) = true ∧ [0x7F800000#64, 1].any (isNaN .S) = false ∧ [0x7F800001#64].any (isSNaN .S) = false ∧
    fpVal .D 0x7FEFFFFFFFFFFFFF = .num false (2 ^ 53 - 1) 971 ∧ fpVal .D 1 = .num false 1 (-1074) ∧
    fpVal .D 0x7FF7FFFFFFFFFFFF = .nan false ∧
    ({ Env.default with maddModel := .unrounded }.maddModel = .unrounded ∧ Env.default.maddModel = .rounded) ∧
    (fpMul .S 0 0 0x7F800000).conds &&& condV ≠ 0 ∧ (fpMul .S 0 0x3FC00000 0x7F800000).conds &&& condV = 0 := by decide

/-- R587, R588: of 0x80000000 and of a negative doubleword. -/
theorem test_abs_neg_bits :
    fpAbs .S 0x80000000 = ⟨0, 0⟩ ∧ fpNeg .S 0x80000000 = ⟨0, 0⟩ ∧ fpAbs .D 0xC008000000000000 = ⟨0, 0x4008000000000000⟩ ∧
    fpNeg .D 0 = ⟨0, 0x8000000000000000⟩ := by decide

/-- R596, unrounded: zero times infinity; plus infinity minus plus infinity; minus infinity minus a number, negated. -/
theorem test_unrounded_infinities :
    let e := { Env.default with maddModel := .unrounded }
    fpMulAcc e .S 0 false false 0 0x7F800000 0x3F800000 = ⟨condV, 0x7FBFFFFF⟩ ∧
    fpMulAcc e .S 0 true true 0x7F800000 0x3F800000 0x7F800000 = ⟨condV, 0x7FBFFFFF⟩ ∧
    fpMulAcc e .S 0 true true 0xFF800000 0x3F800000 0x3F800000 = ⟨0, 0x7F800000⟩ := by decide

/-- The rounded reciprocal of 3 neither overflows nor is flushed; that of the smallest number overflows. -/
theorem test_witness_ReciprocalsAreWithinTheirUlps :
    (roundQuotient .S 0 false 1 0 3 0).conds &&& condO = 0 ∧ (roundQuotient .S 0 false 1 0 1 (-149)).conds &&& condO ≠ 0 ∧
    (fsOf 0x01000000 = true ∧ (roundQuotient .S 0x01000000 false 1 0 1 127).conds &&& condU ≠ 0) ∧
    fpRecip .S 0 0x80000000 = ⟨condZ, fpInf .S true⟩ ∧ fpVal .S 0xBF800000 = .num true (2 ^ 23) (-23) := by decide

/-- 1.0 is within one unit of its own of the reciprocal of the single number above 1, two patterns away (R592). -/
theorem test_reciprocal_candidates :
    candidates .S (roundQuotient .S 0 false 1 0 0x800001 (-23)).bits.toNat 1 (recipClose .S 0x800001 (-23)) =
      [0x3F7FFFFE, 0x3F7FFFFF, 0x3F800000] := by decide

/-- 2^31 does not fit and -2^31 does; an infinity and a NaN; a number with a fraction. -/
theorem test_witness_FixedPointConversionRounds :
    fpVal .S 0x4F000000 = .num false (2 ^ 23) 8 ∧ fpVal .S 0xCF000000 = .num true (2 ^ 23) 8 ∧
    fpVal .S 0x40200000 = .num false (5 * 2 ^ 21) (-22) ∧ ¬ fits 31 (2 ^ 31) ∧ fits 31 (-(2 ^ 31)) ∧
    (fpVal .S 0xFF800000).finite = false ∧ (fpVal .S 0x7FC00000).finite = false ∧ (fpVal .S 0x80000000).finite = true ∧
    fpVal .D 0xC3E0000000000000 = .num true (2 ^ 52) 11 ∧ fits 63 (-(2 ^ 63)) ∧ ¬ fits 63 (2 ^ 63) := by
  unfold fits; decide

theorem test_witness_FormattedMovesMoveOrKeep :
    (fpState 0).badFpr [2, 0] = false ∧ (narrow (fpState 0)).badFpr [2, 1] = true ∧ (fpState 0).hazards.ctc = false ∧
    (fpState 0).fpTrapped (.movS 2 0) [(fpState 0).fprBits 2 .S] = false ∧
    { fpState 0 with env := { Env.default with fpUnimpWords := [(0xFFFF003F, 0x46000006)] } }.fpTrapped (.movS 2 0)
      [(fpState 0).fprBits 2 .S] = true ∧
    (fpState 0).hazards.moveFpr = [] ∧
    ((fpState 0).readFpr 2 .S).1 = some 0x3F800000 ∧
    ({ fpState 0 with fprTag := Vector.replicate 32 .unknown }.readFpr 2 .D).1 = none :=
  ⟨by decide, by decide, rfl, rfl, by decide, rfl, by decide, by decide⟩

/-- A MIPS I processor with coprocessor 2, and after its loads of r5, F5 and coprocessor 2 register 5; SWC2 of it is next. -/
def old : State := withCop2 (atLevel 1 atTop)
def oldAfter (h : Hazards) : State := { (withCop2 (startAt [])).withFetchWord 32 0xE8050000 with hazards := h }

theorem test_witness_LoadDelaySlotUseIsRefused :
    (old.env.archLevel = 1 ∧ (5 : Reg) ≠ 0 ∧ alignedAt 1 (old.effAddr 4 8) ∧ alignedAt 2 (old.effAddr 4 8) ∧
      old.dataBytes .load (old.effAddr 4 8) 0 1 = .ok (ofType .cachedNoncoherent [0]) ∧
      old.dataBytes .load (old.effAddr 4 8) 0 2 = .ok (ofType .cachedNoncoherent [0, 1]) ∧
      old.dataBytes .load (old.effAddr 4 8) 0 4 = .ok (ofType .cachedNoncoherent [0, 1, 2, 3]) ∧ old.bigEndianCPU = true ∧
      old.dataBytes .load (old.effAddr 4 11) 3 4 = .ok (ofType .cachedNoncoherent [0, 1, 2, 3]) ∧
      old.usable 1 = true ∧ old.usable 2 = true ∧ old.env.cop2Present = true) ∧
    (let s := atLevel 1 (oldAfter { Hazards.empty with loadCop2 := some 5 })
     s.ended = false ∧ s.trapped = false ∧ s.delay ≠ .nullify ∧ s.agenda = [] ∧ s.atEnd = false ∧
      s.fetchBytes = .ok [0xE8, 5, 0, 0] ∧ decodeBytes s.env.bigEndianMem [0xE8, 5, 0, 0] = .ok (.swc2 0 5 0, []) ∧
      s.loadDelayBroken (.swc2 0 5 0) = some .cop2LoadDelay ∧ s.usable 2 = true ∧
      s.hazards = { Hazards.empty with loadCop2 := some 5 }) ∧
    (atLevel 1 (oldAfter { Hazards.empty with loadGpr := some 5 })).hazards = { Hazards.empty with loadGpr := some 5 } ∧
    (atLevel 1 (oldAfter { Hazards.empty with loadFpr := some 5 })).hazards = { Hazards.empty with loadFpr := some 5 } := by
  unfold alignedAt; decide

end Sys2Proof.Tests
end

section
/-! PROOFS. The parameters of the environment and its list of coming events across a step (00_scope.md R8,
70_reset_and_hazards.md R804). -/

namespace Sys2Proof.Machine

/-! ### The events of the environment -/

@[simp] theorem State.externalStore_env (s : State) (pa : Nat) (b : Byte) : (s.externalStore pa b).env = s.env := rfl
@[simp] theorem State.externalStore_agenda (s : State) (pa : Nat) (b : Byte) :
    (s.externalStore pa b).agenda = s.agenda := rfl

@[simp] theorem State.deliverFpTrap_env (s : State) : s.deliverFpTrap.env = s.env := by
  unfold State.deliverFpTrap; split <;> simp
@[simp] theorem State.deliverFpTrap_agenda (s : State) : s.deliverFpTrap.agenda = s.agenda := by
  unfold State.deliverFpTrap; split <;> simp

@[simp] theorem State.excReturn_env (s : State) : s.excReturn.env = s.env := by
  unfold State.excReturn; split <;> simp
@[simp] theorem State.excReturn_agenda (s : State) : s.excReturn.agenda = s.agenda := by
  unfold State.excReturn; split <;> simp

@[simp] theorem State.deliver_env (s : State) (e : EnvEvent) : (s.deliver e).env = s.env := by
  cases e with
  | idle | clearLink => rfl
  | externalStore pa b => exact s.externalStore_env pa b
  | interrupt => exact s.raise_env _
  | fpTrap => exact s.deliverFpTrap_env
  | excReturn => exact s.excReturn_env
  | excReturnTo pc => exact s.returnTo_env pc
  | selectFR fr => simp only [State.deliver]; split <;> simp
  | changeTypes => simp only [State.deliver]; split <;> rfl

@[simp] theorem State.deliver_agenda (s : State) (e : EnvEvent) : (s.deliver e).agenda = s.agenda := by
  cases e with
  | idle | clearLink => rfl
  | externalStore pa b => exact s.externalStore_agenda pa b
  | interrupt => exact s.raise_agenda _
  | fpTrap => exact s.deliverFpTrap_agenda
  | excReturn => exact s.excReturn_agenda
  | excReturnTo pc => exact s.returnTo_agenda pc
  | selectFR fr => simp only [State.deliver]; split <;> simp
  | changeTypes => simp only [State.deliver]; split <;> rfl

/-! ### The environment's own handler

Whatever state `Config.trapEntry` answers, `State.legalise` puts the parameters and the coming events back. -/

@[simp] theorem State.runHandler_env (s : State) : s.runHandler.env = s.env := by
  unfold State.runHandler
  split
  · split
    · exact s.legalise_env _
    · rfl
  · rfl

@[simp] theorem State.runHandler_agenda (s : State) : s.runHandler.agenda = s.agenda := by
  unfold State.runHandler
  split
  · split
    · exact s.legalise_agenda _
    · rfl
  · rfl

/-! ### A step -/

/-- Settles O10, by the ways a step answers with a next state (`step_next`): only a boundary with an event, `idle` included,
takes one from the list, and every instruction is an `Effect`. -/
theorem noStepChangesTheEnvironment : Obligations.NoStepChangesTheEnvironment := by
  unfold Obligations.NoStepChangesTheEnvironment
  intro s t h
  obtain ⟨-, ⟨-, rfl⟩ | ⟨-, ⟨-, rfl⟩ | ⟨-, hrun⟩⟩⟩ := step_next h
  case inl => exact ⟨s.runHandler_env, .inl s.runHandler_agenda⟩
  case inr.inl => exact ⟨s.skipSlot_env, .inl s.skipSlot_agenda⟩
  case inr.inr =>
    obtain ⟨-, hi⟩ | ⟨l, ha, hi⟩ | ⟨e, l, ha, -, rfl⟩ := hrun
    · have he : Effect s t := instrStep_effects s t hi
      exact ⟨he.env, .inl he.agenda⟩
    · have he : Effect { s with agenda := l } t := instrStep_effects _ t hi
      exact ⟨he.env, .inr ⟨.idle, by rw [ha, he.agenda]⟩⟩
    · exact ⟨State.deliver_env _ e, .inr ⟨e, by rw [ha, State.deliver_agenda]⟩⟩

end Sys2Proof.Machine
end

section
/-! PROOFS. What every step keeps of the registers, the FCSR, the link, the delayed branch and the trackers (10_state.md R50
to R57, R67, 70_reset_and_hazards.md R826). -/

namespace Sys2Proof.Machine

/-! ### What happens between two instructions -/

/-- What an event of the environment, the step over a nullified slot, or the model's own bookkeeping can do to the state
that the invariants speak of: the registers and the FCSR stand, LLbit and the trackers stand or are cleared, the delayed
branch stands or is dropped, and the program counter stands or is given a value of GPRLEN bits. -/
structure Boundary (s t : State) : Prop where
  env : t.env = s.env
  gpr : t.gpr = s.gpr
  hi : t.hi = s.hi
  lo : t.lo = s.lo
  fcsr : t.fcsr = s.fcsr
  llRecord : t.llRecord = s.llRecord
  llbit : t.llbit = true → s.llbit = true
  hazards : t.hazards = s.hazards ∨ t.hazards = Hazards.empty
  delay : (t.delay = s.delay ∧ t.afterBranch = s.afterBranch) ∨ t.delay = .none
  pc : t.pc = s.pc ∨ ∃ v, t.pc = s.norm v

theorem Boundary.refl (s : State) : Boundary s s :=
  ⟨rfl, rfl, rfl, rfl, rfl, rfl, id, .inl rfl, .inl ⟨rfl, rfl⟩, .inl rfl⟩

theorem State.raise_pc_cases (s : State) (c : Cause) : (s.raise c).pc = s.pc ∨ ∃ v, (s.raise c).pc = s.norm v := by
  rw [State.raise_pc]
  cases s.env.trapEntry with
  | halt | specific => exact .inl rfl
  | handler p m u => exact .inr ⟨p, rfl⟩

theorem Boundary.raise (s : State) (c : Cause) : Boundary s (s.raise c) where
  env := s.raise_env c
  gpr := by simp
  hi := by simp
  lo := by simp
  fcsr := by simp
  llRecord := by simp
  llbit := by simp
  hazards := .inr (by simp)
  delay := .inr (by simp)
  pc := s.raise_pc_cases c

theorem Boundary.returnTo (s : State) (p : Dword) : Boundary s (s.returnTo p) := by
  cases hs : s.saved with
  | nil => rw [State.returnTo_nil hs]; exact .refl s
  | cons m l =>
    rw [State.returnTo_cons hs]
    exact ⟨rfl, rfl, rfl, rfl, rfl, rfl, (fun h => nomatch h), .inr rfl, .inr rfl, .inr ⟨p, rfl⟩⟩

theorem Boundary.excReturn (s : State) : Boundary s s.excReturn := by
  unfold State.excReturn
  split
  · exact .returnTo s _
  · exact .refl s

theorem Boundary.deliverFpTrap (s : State) : Boundary s s.deliverFpTrap := by
  unfold State.deliverFpTrap
  split
  · have h := Boundary.raise { s with pendingFpTrap := false } (.floatingPoint (causeOf s.fcsr))
    exact ⟨h.env, h.gpr, h.hi, h.lo, h.fcsr, h.llRecord, h.llbit, h.hazards, h.delay, h.pc⟩
  · exact .refl s

theorem Boundary.selectModel (s : State) (fr : Bool) : Boundary s (s.selectModel fr) :=
  ⟨by simp, by simp, by simp, by simp, by simp, by simp, by simp, by simp, by simp, by simp⟩

theorem Boundary.externalStore (s : State) (pa : Nat) (b : Byte) : Boundary s (s.externalStore pa b) :=
  ⟨rfl, rfl, rfl, rfl, rfl, rfl, fun h => (Bool.and_eq_true_iff.mp h).1, .inl rfl, .inl ⟨rfl, rfl⟩, .inl rfl⟩

/-- Every event is one. -/
theorem Boundary.deliver (s : State) (e : EnvEvent) : Boundary s (s.deliver e) := by
  cases e with
  | idle => exact .refl s
  | clearLink =>
    exact ⟨rfl, rfl, rfl, rfl, rfl, rfl, (fun h => nomatch h), .inl rfl, .inl ⟨rfl, rfl⟩, .inl rfl⟩
  | externalStore pa b => exact .externalStore s pa b
  | interrupt => exact .raise s _
  | fpTrap => exact .deliverFpTrap s
  | excReturn => exact .excReturn s
  | excReturnTo pc => exact .returnTo s pc
  | selectFR fr =>
    simp only [State.deliver]
    split
    · exact .selectModel s fr
    · exact .refl s
  | changeTypes =>
    simp only [State.deliver]
    split
    · exact ⟨rfl, rfl, rfl, rfl, rfl, rfl, id, .inl rfl, .inl ⟨rfl, rfl⟩, .inl rfl⟩
    · exact .refl s

theorem Boundary.skipSlot (s : State) : Boundary s s.skipSlot :=
  ⟨rfl, rfl, rfl, rfl, rfl, rfl, id, .inl rfl, .inr rfl, .inr ⟨_, rfl⟩⟩

theorem Boundary.setAgenda (s : State) (l : List EnvEvent) : Boundary s { s with agenda := l } :=
  ⟨rfl, rfl, rfl, rfl, rfl, rfl, id, .inl rfl, .inl ⟨rfl, rfl⟩, .inl rfl⟩

theorem Boundary.setRun (s : State) (trapped ended : Bool) :
    Boundary s { s with trapped := trapped, ended := ended } :=
  ⟨rfl, rfl, rfl, rfl, rfl, rfl, id, .inl rfl, .inl ⟨rfl, rfl⟩, .inl rfl⟩

/-- The environment's handler answers a state that is made legal, or only ends the run or its own waiting. -/
theorem State.runHandler_cases (s : State) : s.runHandler.Inv ∨ Boundary s s.runHandler := by
  unfold State.runHandler
  split
  · split
    · exact .inl (s.legalise_inv _)
    · exact .inr (.setRun s false true)
  · exact .inr (.setRun s false s.ended)

/-! ### One induction step for every invariant -/

/-- A property that the invariants together give, that what happens between instructions keeps, and that every effect of an
instruction keeps, is kept by every step. -/
theorem step_keeps {P : State → Prop} (hinv : ∀ s : State, s.Inv → P s)
    (hboundary : ∀ s t, Boundary s t → P s → P t) (heffect : ∀ s t, Effect s t → P s → P t)
    {s t : State} (hs : P s) (h : step s = .next t) : P t := by
  obtain ⟨-, ⟨-, rfl⟩ | ⟨-, ⟨-, rfl⟩ | ⟨-, hrun⟩⟩⟩ := step_next h
  case inl => exact s.runHandler_cases.elim (hinv _) fun b => hboundary _ _ b hs
  case inr.inl => exact hboundary _ _ (.skipSlot s) hs
  case inr.inr =>
    obtain ⟨-, hi⟩ | ⟨l, -, hi⟩ | ⟨e, l, -, -, rfl⟩ := hrun
    · exact heffect _ _ (instrStep_effects s t hi) hs
    · exact heffect _ _ (instrStep_effects _ t hi) (hboundary _ _ (.setAgenda s l) hs)
    · exact hboundary _ _ (.deliver _ e) (hboundary _ _ (.setAgenda s l) hs)

/-! ### The register file -/

theorem Boundary.zeroIsZero {s t : State} (b : Boundary s t) (h : s.ZeroIsZero) : t.ZeroIsZero := by
  unfold State.ZeroIsZero
  rw [b.gpr]
  exact h

theorem Effect.zeroIsZero {s t : State} (e : Effect s t) (h : s.ZeroIsZero) : t.ZeroIsZero := by
  unfold State.ZeroIsZero
  obtain hg | ⟨r, v, hr, hg⟩ := e.gpr
  · rw [hg]; exact h
  · rw [hg, regGet_regSet_other _ _ _ _ hr.symm]; exact h

theorem Boundary.contained {s t : State} (b : Boundary s t) (h : s.Contained) : t.Contained where
  gpr r := by rw [State.norm_congr b.env, b.gpr]; exact h.gpr r
  hi := by rw [State.norm_congr b.env, b.hi]; exact h.hi
  lo := by rw [State.norm_congr b.env, b.lo]; exact h.lo
  pc := by
    rw [State.norm_congr b.env]
    obtain hp | ⟨v, hp⟩ := b.pc
    · rw [hp]; exact h.pc
    · rw [hp, State.norm_norm]
  target x hx := by
    rw [State.norm_congr b.env]
    obtain ⟨hd, -⟩ | hd := b.delay
    · exact h.target x (hd ▸ hx)
    · rw [hd] at hx; nomatch hx

theorem Effect.contained {s t : State} (e : Effect s t) (h : s.Contained) : t.Contained where
  gpr r := by
    rw [State.norm_congr e.env]
    obtain hg | ⟨q, v, -, hg⟩ := e.gpr
    · rw [hg]; exact h.gpr r
    · rw [hg, regGet_regSet]
      split
      · exact s.norm_norm v
      · exact h.gpr r
  hi := by
    rw [State.norm_congr e.env]
    obtain hv | ⟨v, hv⟩ := e.hi
    · rw [hv]; exact h.hi
    · rw [hv, State.norm_norm]
  lo := by
    rw [State.norm_congr e.env]
    obtain hv | ⟨v, hv⟩ := e.lo
    · rw [hv]; exact h.lo
    · rw [hv, State.norm_norm]
  pc := by rw [State.norm_congr e.env]; exact (e.pc h).1
  target x hx := by rw [State.norm_congr e.env]; exact (e.pc h).2 x hx

theorem State.readGpr_zero (s : State) (slot : Nat) : s.readGpr 0 slot = 0 := if_pos rfl

theorem State.readGpr_of_not_moved {s : State} {r : Reg} (slot : Nat) (hr : r ≠ 0) (hm : s.hazards.moveGpr ≠ some r) :
    s.readGpr r slot = regGet s.gpr r := by
  unfold State.readGpr
  rw [if_neg hr, if_neg hm]

/-- Settles O8: each of the two invariants by `step_keeps`, the reads from the equations of `State.readGpr`. -/
theorem everyStepKeepsTheRegisterFile : Obligations.EveryStepKeepsTheRegisterFile := by
  unfold Obligations.EveryStepKeepsTheRegisterFile
  refine ⟨fun s t hs h => ?_, fun s => ⟨s.readGpr_zero _, s.readGpr_zero _⟩,
    fun s r hr hm => ⟨State.readGpr_of_not_moved _ hr hm, State.readGpr_of_not_moved _ hr hm⟩, fun s t hs h => ?_⟩
  · exact step_keeps (fun _ i => i.zero) (fun _ _ => Boundary.zeroIsZero) (fun _ _ => Effect.zeroIsZero) hs h
  · exact step_keeps (fun _ i => i.contained) (fun _ _ => Boundary.contained) (fun _ _ => Effect.contained) hs h

/-! ### The FCSR, the link, the delayed branch and the trackers -/

theorem State.fcsrLegal_iff (s : State) : s.FcsrLegal ↔ s.inMask s.fcsr := Iff.rfl

theorem Boundary.fcsrLegal {s t : State} (b : Boundary s t) (h : s.FcsrLegal) : t.FcsrLegal := by
  rw [State.fcsrLegal_iff, State.inMask_congr b.env, b.fcsr]
  exact h

theorem Effect.fcsrLegal {s t : State} (e : Effect s t) (h : s.FcsrLegal) : t.FcsrLegal := by
  rw [State.fcsrLegal_iff, State.inMask_congr e.env]
  exact e.fcsr h

theorem Boundary.linkRecorded {s t : State} (b : Boundary s t) (h : s.LinkRecorded) : t.LinkRecorded := by
  intro hl
  rw [b.llRecord]
  exact h (b.llbit hl)

theorem Effect.linkRecorded {s t : State} (e : Effect s t) (h : s.LinkRecorded) : t.LinkRecorded := by
  intro hl
  obtain hr | ⟨hs, hr⟩ := e.link hl
  · exact hr
  · rw [hr]; exact h hs

theorem Boundary.pendingAfterBranch {s t : State} (b : Boundary s t) (h : s.PendingAfterBranch) :
    t.PendingAfterBranch := by
  intro x hx
  obtain ⟨hd, ha⟩ | hd := b.delay
  · rw [ha]; exact h x (hd ▸ hx)
  · rw [hd] at hx; nomatch hx

theorem Effect.pendingAfterBranch {s t : State} (e : Effect s t) : t.PendingAfterBranch :=
  e.branch

theorem Boundary.noTrackersAtFour {s t : State} (b : Boundary s t) (h : s.NoTrackersAtFour) : t.NoTrackersAtFour := by
  intro h4
  obtain hh | hh := b.hazards
  · rw [hh]; exact h (b.env ▸ h4)
  · exact hh

theorem Effect.noTrackersAtFour {s t : State} (e : Effect s t) : t.NoTrackersAtFour :=
  fun h4 => e.trackers (e.env ▸ h4)

/-- Settles O9: each of the four invariants by `step_keeps`. -/
theorem everyStepKeepsFcsrLinkBranchAndTrackers : Obligations.EveryStepKeepsFcsrLinkBranchAndTrackers := by
  unfold Obligations.EveryStepKeepsFcsrLinkBranchAndTrackers
  intro s t h
  refine ⟨fun hs => ?_, fun hs => ?_, fun hs => ?_, fun hs => ?_⟩
  · exact step_keeps (fun _ i => i.fcsr) (fun _ _ => Boundary.fcsrLegal) (fun _ _ => Effect.fcsrLegal) hs h
  · exact step_keeps (fun _ i => i.link) (fun _ _ => Boundary.linkRecorded) (fun _ _ => Effect.linkRecorded) hs h
  · exact step_keeps (fun _ i => i.branch) (fun _ _ => Boundary.pendingAfterBranch)
      (fun _ _ e _ => e.pendingAfterBranch) hs h
  · exact step_keeps (fun _ i => i.trackers) (fun _ _ => Boundary.noTrackersAtFour)
      (fun _ _ e _ => e.noTrackersAtFour) hs h

end Sys2Proof.Machine
end

section
/-! PROOFS. A step at a boundary without an event, the state after reset, and the slot of a branch (10_state.md R54, R90,
44_cpu_jump_branch.md R361, 60_exceptions.md R718, 70_reset_and_hazards.md R800, R803, R820). -/

namespace Sys2Proof.Machine

/-! ### Which way a step goes -/

theorem step_of_ended {s : State} (h : s.ended = true) : step s = .fault .runEnded := if_pos h

theorem step_of_nullify {s : State} (he : s.ended = false) (ht : s.trapped = false) (hd : s.delay = .nullify) :
    step s = .next s.skipSlot := by
  unfold step
  rw [if_neg (by simp [he]), if_neg (by simp [ht]), if_pos hd]

theorem step_of_no_event {s : State} (he : s.ended = false) (ht : s.trapped = false) (hd : s.delay ≠ .nullify)
    (ha : s.agenda = []) : step s = s.instrStep := by
  unfold step
  rw [if_neg (by simp [he]), if_neg (by simp [ht]), if_neg hd, ha]

/-! ### The instruction at pc -/

theorem State.instrStep_atEnd {s : State} (h : s.atEnd = true) : s.instrStep = .fault .runEnded := if_pos h

theorem State.instrStep_goes {s : State} (h : s.atEnd = false) : s.instrStep = s.runWord exec := if_neg (by simp [h])

theorem State.atEnd_of_endPC {s : State} (hd : s.delay = .none) (he : s.env.endPC = some s.pc) : s.atEnd = true := by
  unfold State.atEnd
  simp [hd, he]

/-- No instruction breaks a load delay above MIPS I. -/
theorem State.loadDelayBroken_of_level {s : State} (h : s.env.archLevel ≠ 1) (i : Instr) :
    s.loadDelayBroken i = none := by
  unfold State.loadDelayBroken
  rw [if_neg (by simp [h])]

theorem State.runWord_decoded {s : State} {bs rest : List Byte} {i : Instr} (run : Instr → State → Out)
    (hf : s.fetchBytes = .ok bs) (hd : decodeBytes s.env.bigEndianMem bs = .ok (i, rest))
    (hl : s.loadDelayBroken i = none) : s.runWord run = run i s := by
  unfold State.runWord
  rw [State.orRaise_ok _ hf]
  simp only [hd, hl]

/-- Settles O3: at a boundary with nothing else to do the step is that of the word at pc, whose decoding is given. -/
theorem stepRunsTheDecodedInstruction : Obligations.StepRunsTheDecodedInstruction := by
  unfold Obligations.StepRunsTheDecodedInstruction
  intro s bs rest i hended htrapped hdelay hagenda hend hfetch hdecode
  have hword : step s = s.runWord exec := by
    rw [step_of_no_event hended htrapped hdelay hagenda, State.instrStep_goes hend]
  have hrun : s.loadDelayBroken i = none → step s = exec i s := fun hl =>
    hword.trans (State.runWord_decoded exec hfetch hdecode hl)
  exact ⟨hrun, fun hlevel => hrun (State.loadDelayBroken_of_level hlevel i)⟩

/-- Settles O4, one clause for each of the ways a step passes no instruction to `exec`. -/
theorem stepsThatExecuteNoInstruction : Obligations.StepsThatExecuteNoInstruction := by
  unfold Obligations.StepsThatExecuteNoInstruction
  refine ⟨fun s he ht hd => step_of_nullify he ht hd, fun s he => step_of_ended he, fun s he ht ha hd hpc => ?_⟩
  rw [step_of_no_event he ht (by simp [hd]) ha, State.instrStep_atEnd (State.atEnd_of_endPC hd hpc)]

/-! ### The state after reset -/

/-- The reset processor is a 64-bit one: every value is its own container. -/
theorem reset_norm (v : Dword) : State.reset.norm v = v := if_pos (by decide)

@[simp] theorem reset_gpr (r : Reg) : regGet State.reset.gpr r = 0 := regGet_replicate 0 r

theorem reset_inv : State.reset.Inv where
  mem := reset_mem_wf
  zero := reset_gpr 0
  fcsr := BitVec.zero_and
  link h := nomatch h
  trackers _ := rfl
  branch _ h := nomatch h
  contained := ⟨fun _ => reset_norm _, reset_norm _, reset_norm _, reset_norm _, fun _ _ => reset_norm _⟩

/-- Settles O11. -/
theorem resetMeetsTheInvariantsAndTheSpec : Obligations.ResetMeetsTheInvariantsAndTheSpec := by
  unfold Obligations.ResetMeetsTheInvariantsAndTheSpec
  exact ⟨reset_inv, State.readGpr_zero _ _, rfl, fun n => regGet_replicate FprTag.uninterpreted n, rfl, rfl, rfl, rfl, rfl⟩

/-! ### The slot of a branch -/

/-- Arithmetic modulo 2^GPRLEN: a container may be normalized before or after an addition. -/
theorem State.norm_norm_add (s : State) (v w : Dword) : s.norm (s.norm v + w) = s.norm (v + w) := by
  unfold State.norm
  split
  · rfl
  · have hlow : ((v.setWidth 32).signExtend 64).setWidth 32 = v.setWidth 32 := by
      refine BitVec.eq_of_getLsbD_eq fun i hi => ?_
      rw [BitVec.getLsbD_setWidth, BitVec.getLsbD_signExtend, if_pos hi]
      simp [hi, show i < 64 by omega]
    rw [BitVec.setWidth_add _ _ (by omega), BitVec.setWidth_add _ _ (by omega), hlow]

/-- The word after the slot is two words on. -/
theorem State.pcPlus4_of_pcPlus4 {s t : State} (he : t.env = s.env) (hp : t.pc = s.pcPlus4) :
    t.pcPlus4 = s.norm (s.pc + 8) := by
  have h8 : s.pc + 4 + 4 = s.pc + 8 := by rw [BitVec.add_assoc]; rfl
  rw [State.pcPlus4, hp, State.norm_congr he, State.pcPlus4, State.norm_norm_add, h8]

theorem exec_beq {s : State} (h : s.notInTakenSlot) (rs rt : Reg) (offset : BitVec 16) :
    Branches s (exec (.beq rs rt offset) s) [] (s.getGpr rs == s.getGpr2 rt) false (s.branchTarget offset)
      fun _ => True := by
  show Branches s (execBeq rs rt offset s) _ _ _ _ _
  unfold execBeq
  rw [State.notInSlot_pass _ h]
  exact branches_branchIf (.refl s _) (.refl s) _ _ _ trivial

theorem exec_beql {s : State} (h : s.notInTakenSlot) (hl : 2 ≤ s.env.archLevel) (rs rt : Reg) (offset : BitVec 16) :
    Branches s (exec (.beql rs rt offset) s) [] (s.getGpr rs == s.getGpr2 rt) true (s.branchTarget offset)
      fun _ => True := by
  show Branches s (execBeql rs rt offset s) _ _ _ _ _
  unfold execBeql
  rw [State.needLevel_pass _ hl, State.notInSlot_pass _ h]
  exact branches_branchIf (.refl s _) (.refl s) _ _ _ trivial

theorem Frame.skipSlot (s : State) : Frame s s.skipSlot [] := by constructor <;> simp

/-- An instruction that advances from the slot of a taken branch arrives at its target. -/
theorem Advanced.atTarget {t u : State} {x : Dword} (h : Advanced t u) (hd : t.delay = .target x) : u.pc = x := by
  rw [h.pc, State.nextPc, hd]

/-- Settles O42, from what the two branches leave pending (`Branches`): the target for the slot's own instruction to
arrive at, or the slot for the next step to pass over. -/
theorem theSlotRunsBeforeTheTarget : Obligations.TheSlotRunsBeforeTheTarget := by
  unfold Obligations.TheSlotRunsBeforeTheTarget
  intro s rs rt offset hslot hended htrapped
  refine ⟨fun heq => ?_, fun hlevel hne => ?_⟩
  · obtain ⟨t, ht, -, -, hdelay, -⟩ := exec_beq hslot rs rt offset
    have htarget : t.delay = .target (s.branchTarget offset) := by simpa [heq] using hdelay
    refine ⟨t, ht, fun i w post hi => ?_⟩
    obtain ⟨u, hu, -, hadv, -⟩ := hi
    exact ⟨u, hu, hadv.atTarget htarget, hadv.delay⟩
  · obtain ⟨t, ht, hframe, hpc, hdelay, -⟩ := exec_beql hslot hlevel rs rt offset
    have hnullify : t.delay = .nullify := by simpa [hne] using hdelay
    obtain ⟨-, -, htr, hen⟩ := hframe.exc
    refine ⟨t, t.skipSlot, ht, step_of_nullify (hen.trans hended) (htr.trans htrapped) hnullify,
      hframe.trans (.skipSlot t), ?_, rfl⟩
    exact State.pcPlus4_of_pcPlus4 hframe.env.1 hpc

end Sys2Proof.Machine
end

section
/-! PROOFS. Rounding a magnitude to a multiple of a power of two (10_state.md R71). -/

namespace Sys2Proof.Machine

/-! ### The rounded quotient, mode by mode -/

theorem roundShift_inexact (mode : BitVec 2) (neg : Bool) (m : Nat) (sticky : Bool) (k : Nat) :
    (roundShift mode neg m sticky k).2 = true ↔ sticky = true ∨ m % 2 ^ k ≠ 0 := by
  simp [roundShift]

theorem roundShift_nearest (neg : Bool) (m : Nat) (sticky : Bool) (k : Nat) : (roundShift 0 neg m sticky k).1 =
    if 2 ^ k < 2 * (m % 2 ^ k) ∨ (2 ^ k = 2 * (m % 2 ^ k) ∧ (sticky = true ∨ m / 2 ^ k % 2 = 1))
    then m / 2 ^ k + 1 else m / 2 ^ k := by
  simp [roundShift, Nat.shiftRight_eq_div_pow]

theorem roundShift_chop (neg : Bool) (m : Nat) (sticky : Bool) (k : Nat) :
    (roundShift 1 neg m sticky k).1 = m / 2 ^ k := by
  simp [roundShift, Nat.shiftRight_eq_div_pow]

theorem roundShift_up (neg : Bool) (m : Nat) (sticky : Bool) (k : Nat) : (roundShift 2 neg m sticky k).1 =
    if (sticky = true ∨ m % 2 ^ k ≠ 0) ∧ neg = false then m / 2 ^ k + 1 else m / 2 ^ k := by
  simp [roundShift, Nat.shiftRight_eq_div_pow]

theorem roundShift_down (neg : Bool) (m : Nat) (sticky : Bool) (k : Nat) : (roundShift 3 neg m sticky k).1 =
    if (sticky = true ∨ m % 2 ^ k ≠ 0) ∧ neg = true then m / 2 ^ k + 1 else m / 2 ^ k := by
  simp [roundShift, Nat.shiftRight_eq_div_pow]

/-- The four rounding modes. -/
theorem mode_cases (mode : BitVec 2) : mode = 0 ∨ mode = 1 ∨ mode = 2 ∨ mode = 3 := by
  revert mode; decide

/-- The rounded quotient is the quotient, or one more and then inexact. -/
theorem roundShift_cases (mode : BitVec 2) (neg : Bool) (m : Nat) (sticky : Bool) (k : Nat) :
    (roundShift mode neg m sticky k).1 = m / 2 ^ k ∨
      ((roundShift mode neg m sticky k).1 = m / 2 ^ k + 1 ∧ (sticky = true ∨ m % 2 ^ k ≠ 0)) := by
  have hP : 0 < 2 ^ k := Nat.two_pow_pos k
  obtain rfl | rfl | rfl | rfl := mode_cases mode
  · rw [roundShift_nearest]
    split
    · next h => exact .inr ⟨rfl, .inr (by omega)⟩
    · exact .inl rfl
  · exact .inl (roundShift_chop ..)
  · rw [roundShift_up]
    split
    · next h => exact .inr ⟨rfl, h.1⟩
    · exact .inl rfl
  · rw [roundShift_down]
    split
    · next h => exact .inr ⟨rfl, h.1⟩
    · exact .inl rfl

/-! ### The rounded quotient as a real number -/

/-- The sign of a number as a factor. -/
def signFactor (neg : Bool) : ℝ := if neg then -1 else 1

theorem abs_signFactor_mul (neg : Bool) (x : ℝ) : |signFactor neg * x| = |x| := by
  cases neg <;> simp [signFactor]

theorem signFactor_neg_iff (neg : Bool) {x : ℝ} (hx : 0 < x) : neg = true ↔ signFactor neg * x < 0 := by
  cases neg
  · simp [signFactor, hx.le]
  · simp [signFactor, hx]

theorem signFactor_mul_inj (neg : Bool) {x y : ℝ} : signFactor neg * x = signFactor neg * y ↔ x = y := by
  cases neg <;> simp [signFactor]

/-- Rounding the magnitude of a number, up and down exchanged for a negative one, rounds the number. -/
theorem roundsTo_signed {mode : BitVec 2} (neg : Bool) {u X : ℝ} (n : Nat) (hX : 0 ≤ X) (hu : 0 ≤ u)
    (hclose : |n * u - X| < u)
    (hnearest : mode = 0 → |n * u - X| ≤ u / 2 ∧ (|n * u - X| = u / 2 → n % 2 = 0))
    (hchop : mode = 1 → n * u ≤ X)
    (hup : mode = 2 → if neg then n * u ≤ X else X ≤ n * u)
    (hdown : mode = 3 → if neg then X ≤ n * u else n * u ≤ X) :
    RoundsTo mode u (signFactor neg * X) (signFactor neg * (n * u)) := by
  have hN : 0 ≤ n * u := mul_nonneg (Nat.cast_nonneg n) hu
  have hdist : |signFactor neg * (n * u) - signFactor neg * X| = |n * u - X| := by
    rw [← mul_sub, abs_signFactor_mul]
  refine ⟨⟨if neg then -(n : ℤ) else n, ?_⟩, hdist ▸ hclose, fun h0 => ?_, fun h1 => ?_, fun h2 => ?_, fun h3 => ?_⟩
  · cases neg <;> simp [signFactor]
  · obtain ⟨hle, htie⟩ := hnearest h0
    refine ⟨hdist ▸ hle, fun h => ?_⟩
    obtain ⟨j, hj⟩ := Nat.dvd_of_mod_eq_zero (htie (hdist ▸ h))
    refine ⟨if neg then -(j : ℤ) else j, ?_⟩
    cases neg <;> simp [signFactor, hj]
  · rw [abs_signFactor_mul, abs_signFactor_mul, abs_of_nonneg hN, abs_of_nonneg hX]
    exact hchop h1
  · have := hup h2
    cases neg <;> simpa [signFactor] using this
  · have := hdown h3
    cases neg <;> simpa [signFactor] using this

/-- A number of magnitude `m` plus a part of a unit, in units: the multiple of `2^k` and the rest. -/
theorem natCast_eq_div_add_mod (m k : Nat) : (m : ℝ) = (m / 2 ^ k : Nat) * 2 ^ k + (m % 2 ^ k : Nat) := by
  exact_mod_cast (Nat.div_add_mod' m (2 ^ k)).symm

theorem mod_two_pow_add_lt (m k : Nat) {θ : ℝ} (hθ : θ < 1) : ((m % 2 ^ k : Nat) : ℝ) + θ < 2 ^ k := by
  have h : ((m % 2 ^ k : Nat) : ℝ) + 1 ≤ 2 ^ k := by exact_mod_cast Nat.mod_lt m (Nat.two_pow_pos k)
  linarith

/-- The part `θ` of a unit that the mark `sticky` stands for. -/
structure StickyPart (sticky : Bool) (θ : ℝ) : Prop where
  nonneg : 0 ≤ θ
  lt_one : θ < 1
  sticky : sticky = true ↔ 0 < θ

/-- An unmarked magnitude is the number itself. -/
theorem StickyPart.none : StickyPart false 0 := ⟨le_rfl, zero_lt_one, by simp⟩

section
variable {sticky : Bool} {θ : ℝ}

theorem StickyPart.eq_zero (h : StickyPart sticky θ) (hs : sticky = false) : θ = 0 := by
  have hn : ¬ 0 < θ := by rw [← h.sticky, hs]; simp
  linarith [h.nonneg]

/-- Something is dropped exactly when the rest, with the part of a unit, is not zero. -/
theorem StickyPart.rest_pos_iff (h : StickyPart sticky θ) (m k : Nat) :
    (sticky = true ∨ m % 2 ^ k ≠ 0) ↔ 0 < ((m % 2 ^ k : Nat) : ℝ) + θ := by
  have hr : (0 : ℝ) ≤ (m % 2 ^ k : Nat) := Nat.cast_nonneg _
  rw [h.sticky, ← Nat.pos_iff_ne_zero, ← Nat.cast_pos (α := ℝ)]
  constructor
  · rintro (hp | hp)
    · linarith
    · linarith [h.nonneg]
  · intro hp
    by_contra hn
    obtain ⟨h1, h2⟩ := not_or.mp hn
    linarith

/-- A rest below half a unit stays below it with a part of a bit more, since half a unit is then a whole number of bits. -/
theorem StickyPart.two_mul_rest_lt (h : StickyPart sticky θ) {m k : Nat} (hlt : 2 * (m % 2 ^ k) < 2 ^ k)
    (hk : sticky = true → k ≠ 0) : 2 * (((m % 2 ^ k : Nat) : ℝ) + θ) < 2 ^ k := by
  cases hs : sticky
  · rw [h.eq_zero hs, add_zero]
    exact_mod_cast hlt
  · obtain ⟨j, rfl⟩ := Nat.exists_eq_succ_of_ne_zero (hk hs)
    have hnat : m % 2 ^ (j + 1) + 1 ≤ 2 ^ j := by rw [pow_succ] at hlt ⊢; omega
    have hreal : ((m % 2 ^ (j + 1) : Nat) : ℝ) + 1 ≤ 2 ^ j := by exact_mod_cast hnat
    have hunit : (2 : ℝ) ^ (j + 1) = 2 * 2 ^ j := pow_succ' 2 j
    rw [Nat.succ_eq_add_one, hunit]
    linarith [h.lt_one]

theorem cast_quotient_add_one (m k : Nat) :
    ((m / 2 ^ k + 1 : Nat) : ℝ) * 2 ^ k = (m / 2 ^ k : Nat) * 2 ^ k + 2 ^ k := by
  push_cast; ring

/-- The quotient rounded to nearest is at most half a unit away, and even in a tie. -/
theorem StickyPart.roundShift_nearest_close (h : StickyPart sticky θ) (neg : Bool) (m : Nat) {k : Nat}
    (hk : sticky = true → k ≠ 0) :
    let n := (roundShift 0 neg m sticky k).1
    |n * 2 ^ k - (m + θ)| ≤ 2 ^ k / 2 ∧ (|n * 2 ^ k - (m + θ)| = 2 ^ k / 2 → n % 2 = 0) := by
  have hm := natCast_eq_div_add_mod m k
  have hr := mod_two_pow_add_lt m k h.lt_one
  have h0 := h.nonneg
  have hr0 : (0 : ℝ) ≤ (m % 2 ^ k : Nat) := Nat.cast_nonneg _
  have hnext := cast_quotient_add_one m k
  dsimp only
  rw [roundShift_nearest]
  split
  · next hup =>
    have hhalf : (2 : ℝ) ^ k ≤ 2 * (m % 2 ^ k : Nat) := by exact_mod_cast hup.elim le_of_lt fun he => he.1.le
    rw [hnext, abs_of_nonneg (by linarith)]
    refine ⟨by linarith, fun htie => ?_⟩
    have hreal : (2 : ℝ) ^ k = 2 * (m % 2 ^ k : Nat) := by linarith
    have hnat : 2 ^ k = 2 * (m % 2 ^ k) := by exact_mod_cast hreal
    have hodd := (hup.resolve_left hnat.not_lt).2.resolve_left (by rw [h.sticky]; linarith)
    omega
  · next hdown =>
    obtain ⟨hle, htie⟩ := not_or.mp hdown
    rw [abs_of_nonpos (by linarith)]
    obtain hlt | heq := (not_lt.mp hle).lt_or_eq
    · have hbelow := h.two_mul_rest_lt hlt hk
      exact ⟨by linarith, fun _ => by linarith⟩
    · obtain ⟨hns, hev⟩ := not_or.mp fun hc => htie ⟨heq.symm, hc⟩
      have hreal : 2 * ((m % 2 ^ k : Nat) : ℝ) = 2 ^ k := by exact_mod_cast heq
      rw [h.eq_zero (by simpa using hns)]
      exact ⟨by linarith, fun _ => by omega⟩

/-- The least multiple that is not below the number. -/
theorem StickyPart.le_above (h : StickyPart sticky θ) (m k : Nat) :
    (m : ℝ) + θ ≤ (if sticky = true ∨ m % 2 ^ k ≠ 0 then m / 2 ^ k + 1 else m / 2 ^ k : Nat) * 2 ^ k := by
  have hm := natCast_eq_div_add_mod m k
  have hr := mod_two_pow_add_lt m k h.lt_one
  split
  · rw [cast_quotient_add_one]
    linarith
  · next hn =>
    rw [h.rest_pos_iff] at hn
    linarith

/-- The greatest multiple that is not above it. -/
theorem StickyPart.quotient_le (h : StickyPart sticky θ) (m k : Nat) : ((m / 2 ^ k : Nat) : ℝ) * 2 ^ k ≤ m + θ := by
  have hm := natCast_eq_div_add_mod m k
  have hr : (0 : ℝ) ≤ (m % 2 ^ k : Nat) := Nat.cast_nonneg _
  linarith [h.nonneg]

theorem StickyPart.roundShift_close (h : StickyPart sticky θ) (mode : BitVec 2) (neg : Bool) (m k : Nat) :
    |((roundShift mode neg m sticky k).1 : ℝ) * 2 ^ k - (m + θ)| < 2 ^ k := by
  have hm := natCast_eq_div_add_mod m k
  have hr := mod_two_pow_add_lt m k h.lt_one
  have hr0 : (0 : ℝ) ≤ (m % 2 ^ k : Nat) := Nat.cast_nonneg _
  obtain hn | ⟨hn, hi⟩ := roundShift_cases mode neg m sticky k
  · rw [hn, abs_lt]
    constructor <;> linarith [h.nonneg]
  · have hrest := (h.rest_pos_iff m k).mp hi
    rw [hn, cast_quotient_add_one, abs_lt]
    constructor <;> linarith

/-- The rounded quotient, in units, is the number rounded to a multiple of `2^k`. Where there is a part of a unit of `m`, a
bit below that unit must be dropped too, so that the part decides no tie alone. -/
theorem StickyPart.roundsTo (h : StickyPart sticky θ) (mode : BitVec 2) (neg : Bool) (m : Nat) {k : Nat}
    (hk : sticky = true → k ≠ 0) : RoundsTo mode (2 ^ k) (signFactor neg * (m + θ))
      (signFactor neg * ((roundShift mode neg m sticky k).1 * 2 ^ k)) := by
  have hX : (0 : ℝ) ≤ m + θ := add_nonneg (Nat.cast_nonneg m) h.nonneg
  refine roundsTo_signed neg _ hX (by positivity) (h.roundShift_close mode neg m k) ?_ ?_ ?_ ?_
  · rintro rfl
    exact h.roundShift_nearest_close neg m hk
  · rintro rfl
    rw [roundShift_chop]
    exact h.quotient_le m k
  · rintro rfl
    rw [roundShift_up]
    cases neg
    · simpa using h.le_above m k
    · simpa using h.quotient_le m k
  · rintro rfl
    rw [roundShift_down]
    cases neg
    · simpa using h.quotient_le m k
    · simpa using h.le_above m k

/-- It is inexact exactly when it differs from the number. -/
theorem StickyPart.inexact_iff_ne (h : StickyPart sticky θ) (mode : BitVec 2) (neg : Bool) (m k : Nat) :
    (roundShift mode neg m sticky k).2 = true ↔
      signFactor neg * ((roundShift mode neg m sticky k).1 * 2 ^ k) ≠ signFactor neg * (m + θ) := by
  have hm := natCast_eq_div_add_mod m k
  have hr := mod_two_pow_add_lt m k h.lt_one
  have hr0 : (0 : ℝ) ≤ (m % 2 ^ k : Nat) := Nat.cast_nonneg _
  rw [roundShift_inexact, h.rest_pos_iff]
  refine Iff.trans ?_ (not_congr (signFactor_mul_inj neg)).symm
  obtain hn | ⟨hn, hi⟩ := roundShift_cases mode neg m sticky k
  · rw [hn]
    refine ⟨fun hp he => by linarith, fun hne => lt_of_le_of_ne (by linarith [h.nonneg]) fun he => hne (by linarith)⟩
  · rw [hn, cast_quotient_add_one]
    exact ⟨fun _ he => by linarith, fun _ => (h.rest_pos_iff m k).mp hi⟩

end

theorem roundsTo_zero (mode : BitVec 2) {u : ℝ} (hu : 0 < u) : RoundsTo mode u 0 0 := by
  refine ⟨⟨0, by simp⟩, by simpa using hu, fun _ => ⟨by simpa using (half_pos hu).le, fun _ => ⟨0, by simp⟩⟩,
    by simp, by simp, by simp⟩

/-- Rounding does not depend on the unit of measure. -/
theorem RoundsTo.scale {mode : BitVec 2} {u x r c : ℝ} (h : RoundsTo mode u x r) (hc : 0 < c) :
    RoundsTo mode (u * c) (x * c) (r * c) := by
  obtain ⟨⟨j, hj⟩, hclose, hnearest, hchop, hup, hdown⟩ := h
  have hdist : |r * c - x * c| = |r - x| * c := by rw [← sub_mul, abs_mul, abs_of_pos hc]
  refine ⟨⟨j, by rw [hj, mul_assoc]⟩, ?_, fun h0 => ?_, fun h1 => ?_, fun h2 => ?_, fun h3 => ?_⟩
  · rw [hdist]; exact mul_lt_mul_of_pos_right hclose hc
  · obtain ⟨hle, htie⟩ := hnearest h0
    rw [hdist, show u * c / 2 = u / 2 * c by ring]
    refine ⟨mul_le_mul_of_nonneg_right hle hc.le, fun he => ?_⟩
    obtain ⟨i, hi⟩ := htie (mul_right_cancel₀ hc.ne' he)
    exact ⟨i, by rw [hi]; ring⟩
  · rw [abs_mul, abs_mul]; exact mul_le_mul_of_nonneg_right (hchop h1) (abs_nonneg c)
  · exact mul_le_mul_of_nonneg_right (hup h2) hc.le
  · exact mul_le_mul_of_nonneg_right (hdown h3) hc.le

theorem two_zpow_add_natCast (e : Int) (k : Nat) : (2 : ℝ) ^ (e + k) = 2 ^ k * 2 ^ e := by
  rw [zpow_add₀ two_ne_zero, zpow_natCast, mul_comm]

/-- The number `(m + θ) * 2^e` rounded to a multiple of `2^(e + k)`. -/
theorem StickyPart.roundsTo_scaled {sticky : Bool} {θ : ℝ} (h : StickyPart sticky θ) (mode : BitVec 2) (neg : Bool)
    (m : Nat) (e : Int) {k : Nat} (hk : sticky = true → k ≠ 0) :
    RoundsTo mode (2 ^ (e + k)) (signFactor neg * (m + θ) * 2 ^ e)
      (signFactor neg * (roundShift mode neg m sticky k).1 * 2 ^ (e + k)) := by
  have hscaled := (h.roundsTo mode neg m hk).scale (c := 2 ^ e) (by positivity)
  rw [two_zpow_add_natCast]
  convert hscaled using 1
  ring

theorem StickyPart.inexact_iff_ne_scaled {sticky : Bool} {θ : ℝ} (h : StickyPart sticky θ) (mode : BitVec 2) (neg : Bool)
    (m : Nat) (e : Int) (k : Nat) :
    (roundShift mode neg m sticky k).2 = true ↔
      signFactor neg * (roundShift mode neg m sticky k).1 * 2 ^ (e + k) ≠ signFactor neg * (m + θ) * 2 ^ e := by
  refine (h.inexact_iff_ne mode neg m k).trans (not_congr ?_)
  have hr : ∀ n : ℝ, signFactor neg * n * 2 ^ (e + k) = signFactor neg * (n * 2 ^ k) * 2 ^ e := fun n => by
    rw [two_zpow_add_natCast]; ring
  rw [hr, mul_left_inj' (by positivity)]

/-! ### Conversion to fixed point -/

theorem FpVal.finite_iff (v : FpVal) : v.finite = true ↔ (∃ neg, v = .zero neg) ∨ ∃ neg m e, v = .num neg m e := by
  cases v <;> simp [FpVal.finite]

/-- A number as a real number. -/
theorem FpVal.toRat_num (neg : Bool) (m : Nat) (e : Int) :
    (((FpVal.num neg m e).toRat : ℚ) : ℝ) = signFactor neg * m * 2 ^ e := by
  cases neg <;> simp [FpVal.toRat, signFactor]

/-- The integer of a sign and a magnitude. -/
def signedInt (neg : Bool) (q : Nat) : Int := if neg then -(q : Int) else q

theorem signedInt_cast (neg : Bool) (q : Nat) : (signedInt neg q : ℝ) = signFactor neg * q := by
  cases neg <;> simp [signedInt, signFactor]

theorem toFixed_num {fmt : FpFmt} {a : Dword} {neg : Bool} {m : Nat} {e : Int} (mode : BitVec 2) (n : Nat)
    (h : fpVal fmt a = .num neg m e) : toFixed fmt mode n a =
      let q := roundShift mode neg (m <<< e.toNat) false (-e).toNat
      if overflows n (signedInt neg q.1) then ⟨condV, BitVec.ofNat 64 (2 ^ n - 1)⟩
      else ⟨if q.2 then condI else 0, (BitVec.ofInt (n + 1) (signedInt neg q.1)).setWidth 64⟩ := by
  simp only [toFixed, h]
  rfl

theorem toFixed_zero {fmt : FpFmt} {a : Dword} {neg : Bool} (mode : BitVec 2) (n : Nat) (h : fpVal fmt a = .zero neg) :
    toFixed fmt mode n a = ⟨0, 0⟩ := by
  simp only [toFixed, h]
  rfl

/-- Infinities and NaNs. -/
theorem toFixed_not_finite {fmt : FpFmt} {a : Dword} (mode : BitVec 2) (n : Nat) (h : (fpVal fmt a).finite = false) :
    toFixed fmt mode n a = ⟨condV, BitVec.ofNat 64 (2 ^ n - 1)⟩ := by
  unfold toFixed
  split
  · next hv => rw [hv] at h; nomatch h
  · next hv => rw [hv] at h; nomatch h
  · rfl

/-- The integer that a conversion rounds to: the magnitude brought to an exponent of at most zero, whose fraction bits are
dropped. -/
theorem roundsTo_integer (mode : BitVec 2) (neg : Bool) (m : Nat) (e : Int) :
    let q := roundShift mode neg (m <<< e.toNat) false (-e).toNat
    RoundsTo mode 1 (signFactor neg * m * 2 ^ e) (signFactor neg * q.1) ∧
      (q.2 = true ↔ signFactor neg * q.1 ≠ signFactor neg * m * 2 ^ e) := by
  have h := StickyPart.none.roundsTo_scaled mode neg (m <<< e.toNat) (-((-e).toNat : Int)) (k := (-e).toNat) (by simp)
  have hi := StickyPart.none.inexact_iff_ne_scaled mode neg (m <<< e.toNat) (-((-e).toNat : Int)) (-e).toNat
  have hx : signFactor neg * ((m <<< e.toNat : Nat) + (0 : ℝ)) * 2 ^ (-((-e).toNat : Int)) =
      signFactor neg * m * 2 ^ e := by
    have he : (2 : ℝ) ^ e = 2 ^ e.toNat * 2 ^ (-((-e).toNat : Int)) := by
      rw [← zpow_natCast, ← zpow_add₀ two_ne_zero]
      congr 1
      omega
    rw [he, Nat.shiftLeft_eq]
    push_cast
    ring
  rw [hx, neg_add_cancel, zpow_zero, mul_one] at h hi
  exact ⟨h, hi⟩

/-- Settles O57: a zero is itself; a number is rounded by `roundsTo_integer`; what is not finite does not fit. -/
theorem fixedPointConversionRounds : Obligations.FixedPointConversionRounds := by
  unfold Obligations.FixedPointConversionRounds
  intro fmt mode n a _ _
  refine ⟨fun hfin => ?_, toFixed_not_finite mode n⟩
  obtain ⟨neg, hv⟩ | ⟨neg, m, e, hv⟩ := (FpVal.finite_iff _).mp hfin
  · have hx : (((fpVal fmt a).toRat : ℚ) : ℝ) = 0 := by rw [hv]; exact Rat.cast_zero
    rw [toFixed_zero mode n hv, hx]
    refine ⟨0, by simpa using roundsTo_zero mode one_pos, fun _ => ⟨by simp, fun _ => rfl, fun h => absurd Int.cast_zero h⟩,
      fun h => ?_⟩
    exact absurd (by simp [fits]) h
  · obtain ⟨hround, hinexact⟩ := roundsTo_integer mode neg m e
    rw [toFixed_num mode n hv, hv, FpVal.toRat_num]
    refine ⟨signedInt neg (roundShift mode neg (m <<< e.toNat) false (-e).toNat).1, ?_, fun hfits => ?_, fun hfits => ?_⟩
    · rw [signedInt_cast]; exact hround
    · rw [signedInt_cast, if_neg (by simpa using (overflows_iff n _).mpr hfits)]
      exact ⟨rfl, fun h => if_neg fun hi => hinexact.mp hi h, fun h => if_pos (hinexact.mpr h)⟩
    · exact if_pos (by simpa using mt (overflows_iff n _).mp hfits)

end Sys2Proof.Machine
end

section
/-! PROOFS. Patterns of the floating-point formats, and the delivery of a rounded number (46_fpu_model.md R503, R504, R514,
R537 to R546). -/

namespace Sys2Proof.Machine

/-! ### The parameters of a format -/

theorem two_le_precOf (fmt : FpFmt) : 2 ≤ precOf fmt := by cases fmt <;> decide
theorem signPos_eq (fmt : FpFmt) : signPos fmt = precOf fmt - 1 + expBits fmt := by cases fmt <;> rfl
theorem signPos_lt (fmt : FpFmt) : signPos fmt < 64 := by cases fmt <;> decide
theorem two_pow_expBits (fmt : FpFmt) : 2 ^ expBits fmt = 2 * emaxOf fmt + 2 := by cases fmt <;> rfl
theorem eminOf_eq (fmt : FpFmt) : eminOf fmt = 1 - (emaxOf fmt : Int) := by cases fmt <;> rfl
theorem emaxOf_pos (fmt : FpFmt) : 0 < emaxOf fmt := by cases fmt <;> decide

theorem two_pow_precOf (fmt : FpFmt) : 2 ^ precOf fmt = 2 * 2 ^ (precOf fmt - 1) := by
  rw [← pow_succ', Nat.sub_add_cancel (by have := two_le_precOf fmt; omega)]

theorem infMag_eq (fmt : FpFmt) : infMag fmt = (2 * emaxOf fmt + 1) * 2 ^ (precOf fmt - 1) := by
  rw [infMag, two_pow_expBits]; rfl

theorem two_pow_signPos (fmt : FpFmt) : 2 ^ signPos fmt = 2 ^ (precOf fmt - 1) * 2 ^ expBits fmt := by
  rw [signPos_eq, pow_add]

/-! ### The fields of a pattern -/

/-- The magnitude pattern of an exponent field and a fraction field. -/
def magOf (fmt : FpFmt) (e f : Nat) : Nat := e * 2 ^ (precOf fmt - 1) + f

theorem magOf_lt {fmt : FpFmt} {e f : Nat} (he : e < 2 ^ expBits fmt) (hf : f < 2 ^ (precOf fmt - 1)) :
    magOf fmt e f < 2 ^ signPos fmt := by
  rw [two_pow_signPos, magOf]
  nlinarith

theorem fpPack_toNat {fmt : FpFmt} (neg : Bool) {mag : Nat} (h : mag < 2 ^ signPos fmt) :
    (fpPack fmt neg mag).toNat = mag + if neg then 2 ^ signPos fmt else 0 := by
  have h64 : 2 * 2 ^ signPos fmt ≤ 2 ^ 64 := by
    rw [← pow_succ']
    exact Nat.pow_le_pow_right two_pos (signPos_lt fmt)
  rw [fpPack, BitVec.toNat_ofNat, Nat.mod_eq_of_lt]
  split <;> omega

theorem signField_fpPack {fmt : FpFmt} (neg : Bool) {mag : Nat} (h : mag < 2 ^ signPos fmt) :
    signField fmt (fpPack fmt neg mag) = neg := by
  rw [signField, ← BitVec.testBit_toNat, fpPack_toNat neg h]
  cases neg
  · simpa using Nat.testBit_lt_two_pow h
  · simp [Nat.add_comm mag, Nat.testBit_two_pow_add_eq, Nat.testBit_lt_two_pow h]

theorem fracField_fpPack {fmt : FpFmt} (neg : Bool) {e f : Nat} (he : e < 2 ^ expBits fmt)
    (hf : f < 2 ^ (precOf fmt - 1)) : fracField fmt (fpPack fmt neg (magOf fmt e f)) = f := by
  rw [fracField, fpPack_toNat neg (magOf_lt he hf), magOf, two_pow_signPos]
  cases neg
  · simp [Nat.mod_eq_of_lt hf]
  · simp [Nat.mod_eq_of_lt hf]

theorem expField_fpPack {fmt : FpFmt} (neg : Bool) {e f : Nat} (he : e < 2 ^ expBits fmt)
    (hf : f < 2 ^ (precOf fmt - 1)) : expField fmt (fpPack fmt neg (magOf fmt e f)) = e := by
  have hdiv : (e * 2 ^ (precOf fmt - 1) + f) / 2 ^ (precOf fmt - 1) = e := by
    rw [Nat.mul_comm, Nat.mul_add_div (Nat.two_pow_pos _), Nat.div_eq_of_lt hf, add_zero]
  rw [expField, fpPack_toNat neg (magOf_lt he hf), magOf, two_pow_signPos]
  cases neg
  · simp [hdiv, Nat.mod_eq_of_lt he]
  · simp [Nat.add_mul_div_left, hdiv, Nat.mod_eq_of_lt he]

/-! ### The value of a pattern -/

theorem fpVal_normal {fmt : FpFmt} (neg : Bool) {e s : Nat} (h1 : 1 ≤ e) (he : e ≤ 2 * emaxOf fmt)
    (hlo : 2 ^ (precOf fmt - 1) ≤ s) (hhi : s < 2 ^ precOf fmt) :
    fpVal fmt (fpPack fmt neg (magOf fmt e (s - 2 ^ (precOf fmt - 1)))) =
      .num neg s ((e : Int) - (emaxOf fmt : Int) - (precOf fmt - 1 : Nat)) := by
  have hexp : e < 2 ^ expBits fmt := by rw [two_pow_expBits]; omega
  have hp := two_pow_precOf fmt
  have hfrac : s - 2 ^ (precOf fmt - 1) < 2 ^ (precOf fmt - 1) := by omega
  simp only [fpVal, expField_fpPack neg hexp hfrac, fracField_fpPack neg hexp hfrac,
    signField_fpPack neg (magOf_lt hexp hfrac)]
  rw [two_pow_expBits, if_neg (by omega), if_neg (by omega), Nat.sub_add_cancel hlo]

theorem fpVal_denormal {fmt : FpFmt} (neg : Bool) {s : Nat} (hs : s ≠ 0) (hhi : s < 2 ^ (precOf fmt - 1)) :
    fpVal fmt (fpPack fmt neg s) = .num neg s (eminOf fmt - (precOf fmt - 1 : Nat)) := by
  have hmag : s = magOf fmt 0 s := by simp [magOf]
  have hexp : 0 < 2 ^ expBits fmt := Nat.two_pow_pos _
  have he := expField_fpPack neg hexp hhi
  have hf := fracField_fpPack neg hexp hhi
  have hsign := signField_fpPack neg (magOf_lt hexp hhi)
  rw [← hmag] at he hf hsign
  simp only [fpVal, he, hf, hsign]
  rw [two_pow_expBits, if_neg (by omega), if_pos trivial, if_neg hs]

theorem fpVal_zero (fmt : FpFmt) (neg : Bool) : fpVal fmt (fpPack fmt neg 0) = .zero neg := by
  cases fmt <;> cases neg <;> decide

theorem fpVal_inf (fmt : FpFmt) (neg : Bool) : fpVal fmt (fpInf fmt neg) = .inf neg := by
  cases fmt <;> cases neg <;> decide

theorem signField_of_num {fmt : FpFmt} {b : Dword} {neg : Bool} {m : Nat} {e : Int} (h : fpVal fmt b = .num neg m e) :
    signField fmt b = neg := by
  simp only [fpVal] at h
  split at h
  · split at h <;> nomatch h
  · split at h
    · split at h
      · nomatch h
      · injection h
    · injection h

theorem signField_of_zero {fmt : FpFmt} {b : Dword} {neg : Bool} (h : fpVal fmt b = .zero neg) :
    signField fmt b = neg := by
  simp only [fpVal] at h
  split at h
  · split at h <;> nomatch h
  · split at h
    · split at h
      · injection h
      · nomatch h
    · nomatch h

/-! ### Patterns as real numbers -/

theorem fpIs_of_num {fmt : FpFmt} {b : Dword} {neg : Bool} {m : Nat} {e : Int} (h : fpVal fmt b = .num neg m e) :
    FpIs fmt b neg (signFactor neg * m * 2 ^ e) :=
  ⟨by rw [h]; rfl, signField_of_num h, by rw [h, FpVal.toRat_num]⟩

theorem fpIs_zero (fmt : FpFmt) (neg : Bool) : FpIs fmt (fpPack fmt neg 0) neg 0 := by
  have h := fpVal_zero fmt neg
  exact ⟨by rw [h]; rfl, signField_of_zero h, by rw [h]; exact Rat.cast_zero⟩

/-- A significand of p bits, or the next power of two, in the binade with exponent field `e`. -/
theorem fpIs_normal {fmt : FpFmt} (neg : Bool) {e s : Nat} (h1 : 1 ≤ e ∨ s = 2 ^ precOf fmt)
    (he : e ≤ 2 * emaxOf fmt) (hnext : s = 2 ^ precOf fmt → e + 1 ≤ 2 * emaxOf fmt) (hlo : 2 ^ (precOf fmt - 1) ≤ s)
    (hhi : s ≤ 2 ^ precOf fmt) :
    FpIs fmt (fpPack fmt neg (e * 2 ^ (precOf fmt - 1) + s - 2 ^ (precOf fmt - 1))) neg
      (signFactor neg * s * 2 ^ ((e : Int) - (emaxOf fmt : Int) - (precOf fmt - 1 : Nat))) := by
  have hp := two_pow_precOf fmt
  obtain hlt | heq := hhi.lt_or_eq
  · have h := fpIs_of_num (fpVal_normal neg (h1.resolve_right hlt.ne) he hlo hlt)
    rwa [magOf, ← Nat.add_sub_assoc hlo] at h
  · have hpos := Nat.two_pow_pos (precOf fmt - 1)
    have h := fpIs_of_num (fpVal_normal (fmt := fmt) (s := 2 ^ (precOf fmt - 1)) neg (Nat.le_add_left 1 e) (hnext heq)
      le_rfl (by omega))
    have hmag : magOf fmt (e + 1) (2 ^ (precOf fmt - 1) - 2 ^ (precOf fmt - 1)) =
        e * 2 ^ (precOf fmt - 1) + s - 2 ^ (precOf fmt - 1) := by
      rw [magOf, heq, hp, Nat.add_mul]; omega
    have hval : (2 : ℝ) ^ (((e + 1 : Nat) : Int) - (emaxOf fmt : Int) - (precOf fmt - 1 : Nat)) =
        2 * 2 ^ ((e : Int) - (emaxOf fmt : Int) - (precOf fmt - 1 : Nat)) := by
      rw [← zpow_one_add₀ two_ne_zero]; congr 1; push_cast; ring
    have hs : (s : ℝ) = 2 * (2 ^ (precOf fmt - 1) : Nat) := by rw [heq, hp, Nat.cast_mul, Nat.cast_two]
    rw [hmag, hval] at h
    rw [hs]
    convert h using 1
    ring

/-- A multiple of the smallest denormalized number, up to the smallest normalized one. -/
theorem fpIs_denormal {fmt : FpFmt} (neg : Bool) {s : Nat} (hhi : s ≤ 2 ^ (precOf fmt - 1)) :
    FpIs fmt (fpPack fmt neg s) neg (signFactor neg * s * 2 ^ (eminOf fmt - (precOf fmt - 1 : Nat))) := by
  obtain rfl | hs := Nat.eq_zero_or_pos s
  · simpa using fpIs_zero fmt neg
  obtain hlt | rfl := hhi.lt_or_eq
  · exact fpIs_of_num (fpVal_denormal neg hs.ne' hlt)
  · have hmax := emaxOf_pos fmt
    have hp := two_pow_precOf fmt
    have h := fpIs_normal (fmt := fmt) neg (e := 1) (s := 2 ^ (precOf fmt - 1)) (.inl le_rfl) (by omega) (by omega) le_rfl
      (by omega)
    rwa [one_mul, Nat.add_sub_cancel, Nat.cast_one, ← eminOf_eq] at h

/-- The largest finite number. -/
theorem fpIs_max (fmt : FpFmt) (neg : Bool) :
    FpIs fmt (fpMax fmt neg) neg (signFactor neg * (2 - 2 ^ (1 - precOf fmt : ℤ)) * 2 ^ (emaxOf fmt : ℤ)) := by
  have hmax := emaxOf_pos fmt
  have hp := two_pow_precOf fmt
  have hpos := Nat.two_pow_pos (precOf fmt - 1)
  have h := fpIs_of_num (fpVal_normal (fmt := fmt) (e := 2 * emaxOf fmt) (s := 2 ^ precOf fmt - 1) neg (by omega) le_rfl
    (by omega) (by omega))
  have hmag : magOf fmt (2 * emaxOf fmt) (2 ^ precOf fmt - 1 - 2 ^ (precOf fmt - 1)) = infMag fmt - 1 := by
    rw [magOf, infMag_eq, Nat.add_mul]; omega
  rw [hmag] at h
  rw [fpMax]
  convert h using 1
  have hone : (1 : ℝ) ≤ 2 ^ precOf fmt := one_le_pow₀ one_le_two
  have hprec := two_le_precOf fmt
  have h2 : ((2 * emaxOf fmt : Nat) : Int) - (emaxOf fmt : Int) - (precOf fmt - 1 : Nat) =
      (emaxOf fmt : Int) + (1 - (precOf fmt : Int)) := by omega
  have h3 : (2 : ℝ) ^ precOf fmt * 2 ^ (1 - precOf fmt : ℤ) = 2 := by
    rw [← zpow_natCast, ← zpow_add₀ two_ne_zero]; simp
  rw [h2, zpow_add₀ two_ne_zero, Nat.cast_sub (Nat.one_le_two_pow)]
  push_cast
  linear_combination signFactor neg * 2 ^ (emaxOf fmt : ℤ) * -h3

end Sys2Proof.Machine
end

section
/-! PROOFS. `roundResult` delivers a number rounded once (46_fpu_model.md R514, R537 to R546). -/

namespace Sys2Proof.Machine

/-! ### The parts of RoundResult

The model's function, cut at its three outcomes, for a magnitude that has its guard bits. -/

/-- The bits dropped from a magnitude to keep p. -/
def keptShift (fmt : FpFmt) (m : Nat) : Nat := m.log2 + 1 - precOf fmt

/-- The magnitude rounded to p bits, with no bound on the exponent. -/
def unbounded (fmt : FpFmt) (f : Word) (neg : Bool) (m : Nat) (sticky : Bool) : Nat × Bool :=
  roundShift (rmOf f) neg m sticky (keptShift fmt m)

/-- The bits dropped to keep a multiple of the smallest denormalized number. -/
def tinyShift (fmt : FpFmt) (e : Int) : Nat := (eminOf fmt - (precOf fmt - 1 : Nat) - e).toNat

/-- The magnitude in units of the smallest denormalized number. -/
def tinyRounded (fmt : FpFmt) (f : Word) (neg : Bool) (m : Nat) (e : Int) (sticky : Bool) : Nat × Bool :=
  roundShift (rmOf f) neg m sticky (tinyShift fmt e)

/-- The outcome of a number that is too large. -/
def overflowed (fmt : FpFmt) (f : Word) (neg inexact : Bool) : Rounded :=
  ⟨condO ||| (if enablesOf f &&& condO = 0 then condI else if inexact then condI else 0),
    overflowDefault fmt (rmOf f) neg⟩

/-- Does FS make this denormalized result a zero? -/
def flushed (fmt : FpFmt) (f : Word) (n : Nat) : Bool := fsOf f && n != 0 && decide (n < 2 ^ (precOf fmt - 1))

/-- The outcome of a number that is too small. -/
def underflowed (fmt : FpFmt) (f : Word) (neg : Bool) (fit : Nat × Bool) : Rounded :=
  ⟨(if enablesOf f &&& condU != 0 || (fit.2 || flushed fmt f fit.1) then condU else 0) |||
      (if fit.2 || flushed fmt f fit.1 then condI else 0),
    fpPack fmt neg (if flushed fmt f fit.1 then 0 else fit.1)⟩

/-- The outcome of a number in range, of a significand in units of `2^e`. -/
def inRange (fmt : FpFmt) (neg : Bool) (e : Int) (unb : Nat × Bool) : Rounded :=
  ⟨if unb.2 then condI else 0,
    fpPack fmt neg ((e + (precOf fmt - 1 : Nat) + (emaxOf fmt : Int)).toNat * 2 ^ (precOf fmt - 1) + unb.1 -
      2 ^ (precOf fmt - 1))⟩

/-- The exponent of the leading bit of the rounded number. -/
def topExp (fmt : FpFmt) (f : Word) (neg : Bool) (m : Nat) (e : Int) (sticky : Bool) : Int :=
  ((unbounded fmt f neg m sticky).1.log2 : Int) + (e + keptShift fmt m)

/-- RoundResult of a magnitude that has its guard bits. -/
def deliverRounded (fmt : FpFmt) (f : Word) (neg : Bool) (m : Nat) (e : Int) (sticky : Bool) : Rounded :=
  if (emaxOf fmt : Int) < topExp fmt f neg m e sticky then
    overflowed fmt f neg (unbounded fmt f neg m sticky).2
  else if topExp fmt f neg m e sticky < eminOf fmt then
    underflowed fmt f neg (tinyRounded fmt f neg m e sticky)
  else inRange fmt neg (e + keptShift fmt m) (unbounded fmt f neg m sticky)

theorem roundResult_exact (fmt : FpFmt) (f : Word) (neg : Bool) (m : Nat) (e : Int) :
    roundResult fmt f neg m e false =
      deliverRounded fmt f neg (m <<< (precOf fmt + 3)) (e - (precOf fmt + 3 : Nat)) false := rfl

theorem roundResult_sticky (fmt : FpFmt) (f : Word) (neg : Bool) (m : Nat) (e : Int) :
    roundResult fmt f neg m e true = deliverRounded fmt f neg m e true := by
  have h : roundResult fmt f neg m e true = deliverRounded fmt f neg (m <<< 0) (e - (0 : Nat)) true := rfl
  rw [h, Nat.shiftLeft_zero, Nat.cast_zero, sub_zero]

/-! ### The leading bit -/

/-- A power of two is at most a number exactly when it is at most the number's leading bit. -/
theorem two_zpow_le_iff {n : Nat} (hn : n ≠ 0) (a b : ℤ) : (2 : ℝ) ^ a ≤ n * 2 ^ b ↔ a ≤ n.log2 + b := by
  have hb : (0 : ℝ) < 2 ^ b := by positivity
  have hlo : (2 : ℝ) ^ (n.log2 : ℤ) ≤ n := by rw [zpow_natCast]; exact_mod_cast Nat.log2_self_le hn
  have hhi : (n : ℝ) < 2 ^ ((n.log2 : ℤ) + 1) := by
    have := Nat.lt_log2_self (n := n)
    exact_mod_cast this
  constructor
  · intro h
    have hlt : (2 : ℝ) ^ a < 2 ^ ((n.log2 : ℤ) + 1 + b) := by
      rw [zpow_add₀ two_ne_zero]
      exact h.trans_lt (mul_lt_mul_of_pos_right hhi hb)
    have := (zpow_lt_zpow_iff_right₀ one_lt_two).mp hlt
    omega
  · intro h
    calc (2 : ℝ) ^ a ≤ 2 ^ ((n.log2 : ℤ) + b) := zpow_le_zpow_right₀ one_le_two h
      _ = 2 ^ (n.log2 : ℤ) * 2 ^ b := zpow_add₀ two_ne_zero _ _
      _ ≤ n * 2 ^ b := mul_le_mul_of_nonneg_right hlo hb.le

theorem log2_shiftLeft {m : Nat} (hm : m ≠ 0) (k : Nat) : (m <<< k).log2 = m.log2 + k := by
  have hpos := Nat.two_pow_pos k
  rw [Nat.shiftLeft_eq, Nat.log2_eq_iff (mul_ne_zero hm hpos.ne'), Nat.add_right_comm, pow_add, pow_add _ (m.log2 + 1)]
  exact ⟨Nat.mul_le_mul_right _ (Nat.log2_self_le hm), Nat.mul_lt_mul_of_pos_right Nat.lt_log2_self hpos⟩

/-- A magnitude `m` with guard bits, and the part `θ` of its unit that `sticky` stands for. -/
structure Measured (fmt : FpFmt) (m : Nat) (sticky : Bool) (θ : ℝ) : Prop where
  bits : 2 ^ (precOf fmt + 2) ≤ m
  part : StickyPart sticky θ

section
variable {fmt : FpFmt} {m : Nat} {sticky : Bool} {θ : ℝ}

theorem Measured.ne_zero (h : Measured fmt m sticky θ) : m ≠ 0 := by
  have := Nat.two_pow_pos (precOf fmt + 2)
  have := h.bits
  omega

theorem Measured.keptShift_add (h : Measured fmt m sticky θ) : keptShift fmt m + precOf fmt = m.log2 + 1 := by
  have := (Nat.le_log2 h.ne_zero).mpr h.bits
  unfold keptShift
  omega

theorem Measured.keptShift_pos (h : Measured fmt m sticky θ) : keptShift fmt m ≠ 0 := by
  have := (Nat.le_log2 h.ne_zero).mpr h.bits
  unfold keptShift
  omega

/-- The rounded significand has p bits, or is the next power of two. -/
theorem Measured.unbounded_bounds (h : Measured fmt m sticky θ) (f : Word) (neg : Bool) :
    2 ^ (precOf fmt - 1) ≤ (unbounded fmt f neg m sticky).1 ∧ (unbounded fmt f neg m sticky).1 ≤ 2 ^ precOf fmt := by
  have hk := h.keptShift_add
  have hp := two_le_precOf fmt
  have hlo : 2 ^ (precOf fmt - 1) ≤ m / 2 ^ keptShift fmt m := by
    rw [Nat.le_div_iff_mul_le (Nat.two_pow_pos _), ← pow_add, show precOf fmt - 1 + keptShift fmt m = m.log2 by omega]
    exact Nat.log2_self_le h.ne_zero
  have hhi : m / 2 ^ keptShift fmt m < 2 ^ precOf fmt := by
    rw [Nat.div_lt_iff_lt_mul (Nat.two_pow_pos _), ← pow_add, Nat.add_comm, hk]
    exact Nat.lt_log2_self
  obtain hn | ⟨hn, -⟩ := roundShift_cases (rmOf f) neg m sticky (keptShift fmt m) <;>
    rw [unbounded, hn] <;> omega

/-- Its leading bit is that of p bits, or one more. -/
theorem Measured.log2_unbounded (h : Measured fmt m sticky θ) (f : Word) (neg : Bool) :
    ((unbounded fmt f neg m sticky).1 < 2 ^ precOf fmt ∧ (unbounded fmt f neg m sticky).1.log2 = precOf fmt - 1) ∨
      ((unbounded fmt f neg m sticky).1 = 2 ^ precOf fmt ∧ (unbounded fmt f neg m sticky).1.log2 = precOf fmt) := by
  obtain ⟨hlo, hhi⟩ := h.unbounded_bounds f neg
  have hp := two_le_precOf fmt
  have hne : (unbounded fmt f neg m sticky).1 ≠ 0 := by
    have := Nat.two_pow_pos (precOf fmt - 1)
    omega
  obtain hlt | heq := hhi.lt_or_eq
  · have h1 := (Nat.le_log2 hne).mpr hlo
    have h2 := (Nat.log2_lt hne).mpr hlt
    exact .inl ⟨hlt, by omega⟩
  · exact .inr ⟨heq, by rw [heq, Nat.log2_two_pow]⟩

end

/-! ### The outcomes -/

/-- Table B-4: to nearest, and away from zero on that side, infinity, else the largest finite number. -/
theorem overflowDefault_eq (fmt : FpFmt) (mode : BitVec 2) (neg : Bool) : overflowDefault fmt mode neg =
    if mode = 0 ∨ (mode = 2 ∧ neg = false) ∨ (mode = 3 ∧ neg = true) then fpInf fmt neg else fpMax fmt neg := by
  obtain rfl | rfl | rfl | rfl := mode_cases mode <;> cases neg <;> rfl

theorem overflowDelivers_default (fmt : FpFmt) (mode : BitVec 2) (neg : Bool) :
    OverflowDelivers fmt mode neg (overflowDefault fmt mode neg) := by
  rw [overflowDefault_eq]
  unfold OverflowDelivers
  split
  · exact fpVal_inf fmt neg
  · exact fpIs_max fmt neg

theorem overflowed_conds (fmt : FpFmt) (f : Word) (neg inexact : Bool) :
    (enablesOf f &&& condO = 0 ∨ inexact = true → (overflowed fmt f neg inexact).conds = condO ||| condI) ∧
      (enablesOf f &&& condO ≠ 0 → inexact = false → (overflowed fmt f neg inexact).conds = condO) := by
  unfold overflowed
  constructor
  · rintro (h | rfl)
    · rw [if_pos h]
    · simp
  · rintro h rfl
    rw [if_neg h]
    rfl

theorem underflow_enable (v : BitVec 5) : (if v &&& condU != 0 then condU else 0) = v &&& condU := by
  revert v; decide

/-- A multiple of the smallest denormalized number, up to the smallest normalized one, is delivered or flushed. -/
theorem tinyDelivers_underflowed {fmt : FpFmt} (f : Word) (neg : Bool) {fit : Nat × Bool} {x d : ℝ}
    (hfit : fit.1 ≤ 2 ^ (precOf fmt - 1)) (hd : d = signFactor neg * fit.1 * 2 ^ (eminOf fmt - (precOf fmt - 1 : Nat)))
    (hi : fit.2 = true ↔ d ≠ x) : TinyDelivers fmt f neg x d (underflowed fmt f neg fit) := by
  have habs : |d| = fit.1 * 2 ^ (eminOf fmt - (precOf fmt - 1 : Nat)) := by
    rw [hd, mul_assoc, abs_signFactor_mul, abs_of_nonneg (by positivity)]
  have hunit : (0 : ℝ) < 2 ^ (eminOf fmt - (precOf fmt - 1 : Nat)) := by positivity
  have hmin : (2 : ℝ) ^ eminOf fmt = (2 ^ (precOf fmt - 1) : Nat) * 2 ^ (eminOf fmt - (precOf fmt - 1 : Nat)) := by
    rw [Nat.cast_pow, Nat.cast_two, ← zpow_natCast, ← zpow_add₀ two_ne_zero]
    congr 1
    ring
  have hflush : flushed fmt f fit.1 = true ↔ fsOf f = true ∧ d ≠ 0 ∧ |d| < 2 ^ eminOf fmt := by
    rw [← abs_ne_zero (a := d), habs, hmin, mul_lt_mul_iff_left₀ hunit, Nat.cast_lt, mul_ne_zero_iff, Nat.cast_ne_zero]
    simp [flushed, hunit.ne', and_assoc]
  constructor
  · intro h
    have hf := hflush.mpr h
    simp only [underflowed, hf, Bool.or_true, if_true]
    exact ⟨fpIs_zero fmt neg, trivial⟩
  · intro h
    have hf : flushed fmt f fit.1 = false := by rwa [← hflush, Bool.not_eq_true] at h
    simp only [underflowed, hf, Bool.or_false, Bool.false_eq_true, if_false]
    refine ⟨hd ▸ fpIs_denormal neg hfit, fun hne => ?_, fun heq => ?_⟩
    · simp [hi.mpr hne]
    · have : fit.2 = false := by simpa using mt hi.mp (not_not.mpr heq)
      simp only [this, Bool.or_false, Bool.false_eq_true, if_false]
      rw [underflow_enable]
      exact BitVec.or_zero

/-- A significand of p bits, or the next power of two, whose leading bit is in range, is delivered as it is. -/
theorem fpIs_inRange {fmt : FpFmt} (neg : Bool) {e : Int} {unb : Nat × Bool} (hlo : 2 ^ (precOf fmt - 1) ≤ unb.1)
    (hlog : (unb.1 < 2 ^ precOf fmt ∧ unb.1.log2 = precOf fmt - 1) ∨ (unb.1 = 2 ^ precOf fmt ∧ unb.1.log2 = precOf fmt))
    (hmin : eminOf fmt ≤ unb.1.log2 + e) (hmax : unb.1.log2 + e ≤ emaxOf fmt) :
    FpIs fmt (inRange fmt neg e unb).bits neg (signFactor neg * unb.1 * 2 ^ e) := by
  have hp := two_le_precOf fmt
  have hemin := eminOf_eq fmt
  have hfield : ((e + (precOf fmt - 1 : Nat) + (emaxOf fmt : Int)).toNat : Int) =
      e + (precOf fmt - 1 : Nat) + (emaxOf fmt : Int) := by
    obtain ⟨-, hl⟩ | ⟨-, hl⟩ := hlog <;> rw [hl] at hmin <;> omega
  have hexp : ((e + (precOf fmt - 1 : Nat) + (emaxOf fmt : Int)).toNat : Int) - (emaxOf fmt : Int) -
      (precOf fmt - 1 : Nat) = e := by rw [hfield]; ring
  have h := fpIs_normal (fmt := fmt) (s := unb.1) neg (e := (e + (precOf fmt - 1 : Nat) + (emaxOf fmt : Int)).toNat)
  rw [hexp] at h
  obtain ⟨hlt, hl⟩ | ⟨heq, hl⟩ := hlog <;> rw [hl] at hmin hmax
  · exact h (.inl (by omega)) (by omega) (fun he => absurd he hlt.ne) hlo hlt.le
  · exact h (.inr heq) (by omega) (fun _ => by omega) hlo heq.le

/-! ### The number rounded once -/

section
variable {fmt : FpFmt} {m : Nat} {sticky : Bool} {θ : ℝ}

/-- A number rounded below the smallest normalized one was below it, so that in units of the smallest denormalized number
it has at most p - 1 bits. -/
theorem Measured.tinyRounded_le (h : Measured fmt m sticky θ) {f : Word} {neg : Bool} {e : Int}
    (htop : topExp fmt f neg m e sticky < eminOf fmt) :
    (tinyRounded fmt f neg m e sticky).1 ≤ 2 ^ (precOf fmt - 1) ∧ tinyShift fmt e ≠ 0 ∧
      e + tinyShift fmt e = eminOf fmt - (precOf fmt - 1 : Nat) := by
  have hk := h.keptShift_add
  have hk0 := h.keptShift_pos
  have hp := two_le_precOf fmt
  have hlog : precOf fmt - 1 ≤ (unbounded fmt f neg m sticky).1.log2 := by
    obtain ⟨-, hl⟩ | ⟨-, hl⟩ := h.log2_unbounded f neg <;> omega
  rw [topExp] at htop
  have hshift : (tinyShift fmt e : Int) = eminOf fmt - (precOf fmt - 1 : Nat) - e := by
    unfold tinyShift; omega
  have hq : m / 2 ^ tinyShift fmt e < 2 ^ (precOf fmt - 1) := by
    rw [Nat.div_lt_iff_lt_mul (Nat.two_pow_pos _), ← pow_add]
    exact Nat.lt_log2_self.trans_le (Nat.pow_le_pow_right two_pos (by omega))
  refine ⟨?_, by omega, by omega⟩
  obtain hn | ⟨hn, -⟩ := roundShift_cases (rmOf f) neg m sticky (tinyShift fmt e) <;>
    rw [tinyRounded, hn] <;> omega

/-- The number of a magnitude `m + θ` in units of `2^e`. -/
noncomputable def exactNumber (neg : Bool) (m : Nat) (θ : ℝ) (e : Int) : ℝ := signFactor neg * (m + θ) * 2 ^ e

/-- The number rounded to p bits, with no bound on the exponent. -/
noncomputable def roundedNumber (fmt : FpFmt) (f : Word) (neg : Bool) (m : Nat) (e : Int) (sticky : Bool) : ℝ :=
  signFactor neg * (unbounded fmt f neg m sticky).1 * 2 ^ (e + keptShift fmt m)

theorem Measured.magnitude_pos (h : Measured fmt m sticky θ) (e : Int) : 0 < (m + θ) * (2 : ℝ) ^ e := by
  have hm : (0 : ℝ) < m := by exact_mod_cast Nat.pos_of_ne_zero h.ne_zero
  exact mul_pos (by linarith [h.part.nonneg]) (by positivity)

theorem Measured.exactNumber_neg_iff (h : Measured fmt m sticky θ) (neg : Bool) (e : Int) :
    neg = true ↔ exactNumber neg m θ e < 0 := by
  rw [exactNumber, mul_assoc]
  exact signFactor_neg_iff neg (h.magnitude_pos e)

/-- The leading bit of the number is that of its magnitude. -/
theorem Measured.leading_bit (h : Measured fmt m sticky θ) (neg : Bool) (e : Int) :
    (2 : ℝ) ^ ((m.log2 : ℤ) + e) ≤ |exactNumber neg m θ e| ∧ |exactNumber neg m θ e| < 2 ^ ((m.log2 : ℤ) + e + 1) := by
  rw [exactNumber, mul_assoc, abs_signFactor_mul, abs_of_pos (h.magnitude_pos e)]
  have hnext : (m : ℝ) + 1 ≤ 2 ^ (m.log2 + 1) := by exact_mod_cast Nat.lt_log2_self (n := m)
  constructor
  · calc (2 : ℝ) ^ ((m.log2 : ℤ) + e) ≤ m * 2 ^ e := (two_zpow_le_iff h.ne_zero _ e).mpr le_rfl
      _ ≤ (m + θ) * 2 ^ e := by gcongr; linarith [h.part.nonneg]
  · calc (m + θ) * 2 ^ e < 2 ^ (m.log2 + 1) * 2 ^ e := by gcongr; linarith [h.part.lt_one]
      _ = 2 ^ ((m.log2 : ℤ) + e + 1) := by
        rw [← zpow_natCast, ← zpow_add₀ two_ne_zero]; congr 1; push_cast; ring

theorem Measured.le_abs_roundedNumber_iff (h : Measured fmt m sticky θ) (f : Word) (neg : Bool) (e a : Int) :
    (2 : ℝ) ^ a ≤ |roundedNumber fmt f neg m e sticky| ↔ a ≤ topExp fmt f neg m e sticky := by
  obtain ⟨hlo, -⟩ := h.unbounded_bounds f neg
  have hne : (unbounded fmt f neg m sticky).1 ≠ 0 := by
    have := Nat.two_pow_pos (precOf fmt - 1)
    omega
  rw [roundedNumber, mul_assoc, abs_signFactor_mul, abs_of_nonneg (by positivity)]
  exact two_zpow_le_iff hne a _

theorem Measured.abs_roundedNumber_lt_iff (h : Measured fmt m sticky θ) (f : Word) (neg : Bool) (e a : Int) :
    |roundedNumber fmt f neg m e sticky| < 2 ^ a ↔ topExp fmt f neg m e sticky < a := by
  rw [← not_le, h.le_abs_roundedNumber_iff, not_le]

theorem Measured.roundsTo_roundedNumber (h : Measured fmt m sticky θ) (f : Word) (neg : Bool) (e : Int) :
    RoundsTo (rmOf f) (2 ^ ((m.log2 : ℤ) + e + 1 - precOf fmt)) (exactNumber neg m θ e)
      (roundedNumber fmt f neg m e sticky) := by
  have hkept := h.keptShift_add
  have hunit : (m.log2 : ℤ) + e + 1 - precOf fmt = e + keptShift fmt m := by omega
  rw [hunit]
  exact h.part.roundsTo_scaled (rmOf f) neg m e fun _ => h.keptShift_pos

theorem Measured.unbounded_inexact_iff (h : Measured fmt m sticky θ) (f : Word) (neg : Bool) (e : Int) :
    (unbounded fmt f neg m sticky).2 = true ↔ roundedNumber fmt f neg m e sticky ≠ exactNumber neg m θ e :=
  h.part.inexact_iff_ne_scaled (rmOf f) neg m e _

/-- Too large: the overflow defaults (46_fpu_model.md R537). -/
theorem Measured.deliverRounded_large (h : Measured fmt m sticky θ) {f : Word} {neg : Bool} {e : Int}
    (ht : emaxOf fmt + 1 ≤ topExp fmt f neg m e sticky) :
    let o := deliverRounded fmt f neg m e sticky
    OverflowDelivers fmt (rmOf f) neg o.bits ∧
      (enablesOf f &&& condO = 0 ∨ roundedNumber fmt f neg m e sticky ≠ exactNumber neg m θ e → o.conds = condO ||| condI) ∧
      (enablesOf f &&& condO ≠ 0 → roundedNumber fmt f neg m e sticky = exactNumber neg m θ e → o.conds = condO) := by
  have hd : deliverRounded fmt f neg m e sticky = overflowed fmt f neg (unbounded fmt f neg m sticky).2 := if_pos (by omega)
  have hinexact := h.unbounded_inexact_iff f neg e
  obtain ⟨hboth, hlone⟩ := overflowed_conds fmt f neg (unbounded fmt f neg m sticky).2
  rw [hd]
  exact ⟨overflowDelivers_default fmt _ neg, fun hc => hboth (hc.imp_right hinexact.mpr), fun hen hr =>
    hlone hen ((Bool.not_eq_true _).mp (mt hinexact.mp (not_not.mpr hr)))⟩

/-- Too small: the denormalized rounding (46_fpu_model.md R542, R543). -/
theorem Measured.deliverRounded_small (h : Measured fmt m sticky θ) {f : Word} {neg : Bool} {e : Int}
    (ht : topExp fmt f neg m e sticky < eminOf fmt) :
    ∃ d, RoundsTo (rmOf f) (2 ^ (eminOf fmt + 1 - precOf fmt)) (exactNumber neg m θ e) d ∧
      TinyDelivers fmt f neg (exactNumber neg m θ e) d (deliverRounded fmt f neg m e sticky) := by
  obtain ⟨hfit, hshift, hunit⟩ := h.tinyRounded_le ht
  have hprec := two_le_precOf fmt
  have hmax := emaxOf_pos fmt
  have hmin := eminOf_eq fmt
  have hd : deliverRounded fmt f neg m e sticky = underflowed fmt f neg (tinyRounded fmt f neg m e sticky) := by
    rw [deliverRounded, if_neg (by omega), if_pos ht]
  have hround := h.part.roundsTo_scaled (rmOf f) neg m e (k := tinyShift fmt e) fun _ => hshift
  have hi := h.part.inexact_iff_ne_scaled (rmOf f) neg m e (tinyShift fmt e)
  rw [hunit] at hround hi
  have hspacing : eminOf fmt + 1 - precOf fmt = eminOf fmt - (precOf fmt - 1 : Nat) := by omega
  rw [hd, hspacing]
  exact ⟨_, hround, tinyDelivers_underflowed f neg hfit rfl hi⟩

/-- In range: the rounded number (46_fpu_model.md R514, R546). -/
theorem Measured.deliverRounded_inRange (h : Measured fmt m sticky θ) {f : Word} {neg : Bool} {e : Int}
    (hmin : eminOf fmt ≤ topExp fmt f neg m e sticky) (hmax : topExp fmt f neg m e sticky < emaxOf fmt + 1) :
    let o := deliverRounded fmt f neg m e sticky
    FpIs fmt o.bits neg (roundedNumber fmt f neg m e sticky) ∧
      (roundedNumber fmt f neg m e sticky = exactNumber neg m θ e → o.conds = 0) ∧
      (roundedNumber fmt f neg m e sticky ≠ exactNumber neg m θ e → o.conds = condI) := by
  have hd : deliverRounded fmt f neg m e sticky = inRange fmt neg (e + keptShift fmt m) (unbounded fmt f neg m sticky) := by
    rw [deliverRounded, if_neg (by omega), if_neg (by omega)]
  have hinexact := h.unbounded_inexact_iff f neg e
  obtain ⟨hlo, -⟩ := h.unbounded_bounds f neg
  rw [topExp] at hmin hmax
  rw [hd]
  exact ⟨fpIs_inRange neg hlo (h.log2_unbounded f neg) hmin (by omega), fun hr => if_neg fun hi => hinexact.mp hi hr,
    fun hr => if_pos (hinexact.mpr hr)⟩

/-- RoundResult of a magnitude with guard bits is the number rounded once. -/
theorem Measured.roundedOnce (h : Measured fmt m sticky θ) (f : Word) (neg : Bool) (e : Int) :
    RoundedOnce fmt f neg (exactNumber neg m θ e) (deliverRounded fmt f neg m e sticky) := by
  obtain ⟨hlow, hhigh⟩ := h.leading_bit neg e
  refine ⟨h.exactNumber_neg_iff neg e, m.log2 + e, roundedNumber fmt f neg m e sticky, hlow, hhigh,
    h.roundsTo_roundedNumber f neg e, fun hlarge => ?_, fun hsmall => ?_, fun hmin hmax => ?_⟩
  · exact h.deliverRounded_large ((h.le_abs_roundedNumber_iff f neg e _).mp hlarge)
  · exact h.deliverRounded_small ((h.abs_roundedNumber_lt_iff f neg e _).mp hsmall)
  · exact h.deliverRounded_inRange ((h.le_abs_roundedNumber_iff f neg e _).mp hmin)
      ((h.abs_roundedNumber_lt_iff f neg e _).mp hmax)

end

/-! ### RoundResult -/

theorem measured_shifted (fmt : FpFmt) {m : Nat} (h : 0 < m) : Measured fmt (m <<< (precOf fmt + 3)) false 0 where
  bits := by
    rw [Nat.shiftLeft_eq]
    exact (Nat.pow_le_pow_right two_pos (by omega)).trans (Nat.le_mul_of_pos_left _ h)
  part := .none

/-- Guard bits do not change the number. -/
theorem exactNumber_shifted (neg : Bool) (m k : Nat) (e : Int) :
    exactNumber neg (m <<< k) 0 (e - (k : Nat)) = signFactor neg * m * 2 ^ e := by
  have hu : (2 : ℝ) ^ e = 2 ^ k * 2 ^ (e - (k : Nat)) := by rw [← two_zpow_add_natCast, sub_add_cancel]
  rw [exactNumber, hu, Nat.shiftLeft_eq]
  push_cast
  ring

theorem roundedOnce_roundResult (fmt : FpFmt) (f : Word) (neg : Bool) {m : Nat} (e : Int) (h : 0 < m) :
    RoundedOnce fmt f neg (signFactor neg * m * 2 ^ e) (roundResult fmt f neg m e false) := by
  rw [roundResult_exact, ← exactNumber_shifted neg m (precOf fmt + 3) e]
  exact (measured_shifted fmt h).roundedOnce f neg _

theorem roundedOnce_roundResult_sticky (fmt : FpFmt) (f : Word) (neg : Bool) {m : Nat} (e : Int) {θ : ℝ} (h0 : 0 < θ)
    (h1 : θ < 1) (hm : 2 ^ (precOf fmt + 2) ≤ m) :
    RoundedOnce fmt f neg (signFactor neg * (m + θ) * 2 ^ e) (roundResult fmt f neg m e true) := by
  rw [roundResult_sticky]
  have h : Measured fmt m true θ := ⟨hm, h0.le, h1, iff_of_true rfl h0⟩
  exact h.roundedOnce f neg e

/-- A magnitude whose dropped bits are all zero is its quotient, in every mode. -/
theorem roundShift_shiftLeft (mode : BitVec 2) (neg : Bool) (m k : Nat) :
    roundShift mode neg (m <<< k) false k = (m, false) := by
  have hr : m <<< k % 2 ^ k = 0 := by rw [Nat.shiftLeft_eq, Nat.mul_mod_left]
  have hq : m <<< k / 2 ^ k = m := by rw [Nat.shiftLeft_eq, Nat.mul_div_cancel _ (Nat.two_pow_pos k)]
  obtain h | ⟨-, h⟩ := roundShift_cases mode neg (m <<< k) false k
  · refine Prod.ext (h.trans hq) ?_
    have := roundShift_inexact mode neg (m <<< k) false k
    simpa [hr] using this
  · simp [hr] at h

/-- A normalized number of the format is delivered as itself. -/
theorem roundResult_normalized {fmt : FpFmt} (f : Word) (neg : Bool) {m : Nat} {e : Int} (hlo : 2 ^ (precOf fmt - 1) ≤ m)
    (hhi : m < 2 ^ precOf fmt) (hmin : eminOf fmt ≤ e + (precOf fmt - 1 : Nat))
    (hmax : e + (precOf fmt - 1 : Nat) ≤ emaxOf fmt) :
    ∃ b, roundResult fmt f neg m e false = ⟨0, b⟩ ∧ fpVal fmt b = .num neg m e := by
  have hp := two_le_precOf fmt
  have hemin := eminOf_eq fmt
  have hm : m ≠ 0 := by
    have := Nat.two_pow_pos (precOf fmt - 1)
    omega
  have hlog : m.log2 = precOf fmt - 1 := by
    have h1 := (Nat.le_log2 hm).mpr hlo
    have h2 := (Nat.log2_lt hm).mpr hhi
    omega
  have hkept : keptShift fmt (m <<< (precOf fmt + 3)) = precOf fmt + 3 := by
    rw [keptShift, log2_shiftLeft hm, hlog]
    omega
  have hunb : unbounded fmt f neg (m <<< (precOf fmt + 3)) false = (m, false) := by
    rw [unbounded, hkept, roundShift_shiftLeft]
  have htop : topExp fmt f neg (m <<< (precOf fmt + 3)) (e - (precOf fmt + 3 : Nat)) false =
      (precOf fmt - 1 : Nat) + e := by
    rw [topExp, hunb, hkept, hlog, sub_add_cancel]
  have hround : roundResult fmt f neg m e false = inRange fmt neg e (m, false) := by
    rw [roundResult_exact, deliverRounded, htop, if_neg (by omega), if_neg (by omega), hunb, hkept, sub_add_cancel]
  refine ⟨_, hround, ?_⟩
  have hfield : ((e + (precOf fmt - 1 : Nat) + (emaxOf fmt : Int)).toNat : Int) =
      e + (precOf fmt - 1 : Nat) + (emaxOf fmt : Int) := by omega
  have hval := fpVal_normal (e := (e + (precOf fmt - 1 : Nat) + (emaxOf fmt : Int)).toNat) neg (by omega) (by omega) hlo hhi
  rw [magOf, ← Nat.add_sub_assoc hlo, hfield] at hval
  exact hval.trans (by congr 1; ring)

/-! ### Dropping the bits of a natural number -/

theorem roundShift_nearest_close (neg : Bool) (m k : Nat) :
    let n := (roundShift 0 neg m false k).1
    (2 * (n * 2 ^ k) ≤ 2 * m + 2 ^ k ∧ 2 * m ≤ 2 * (n * 2 ^ k) + 2 ^ k) ∧
      ((2 * (n * 2 ^ k) = 2 * m + 2 ^ k ∨ 2 * m = 2 * (n * 2 ^ k) + 2 ^ k) → n % 2 = 0) := by
  have hm := Nat.div_add_mod' m (2 ^ k)
  have hr := Nat.mod_lt m (Nat.two_pow_pos k)
  dsimp only
  rw [roundShift_nearest]
  split
  · next h =>
    simp only [Bool.false_eq_true, false_or] at h
    rw [Nat.add_mul, Nat.one_mul]
    omega
  · next h =>
    simp only [Bool.false_eq_true, false_or] at h
    omega

theorem roundShift_chop_below (neg : Bool) (m k : Nat) :
    (roundShift 1 neg m false k).1 * 2 ^ k ≤ m ∧ m < ((roundShift 1 neg m false k).1 + 1) * 2 ^ k := by
  have hm := Nat.div_add_mod' m (2 ^ k)
  have hr := Nat.mod_lt m (Nat.two_pow_pos k)
  rw [roundShift_chop, Nat.add_mul, Nat.one_mul]
  omega

/-- The least multiple that is not below the magnitude. -/
theorem above_close (m k : Nat) :
    let n := if m % 2 ^ k ≠ 0 then m / 2 ^ k + 1 else m / 2 ^ k
    m ≤ n * 2 ^ k ∧ n * 2 ^ k < m + 2 ^ k := by
  have hm := Nat.div_add_mod' m (2 ^ k)
  have hr := Nat.mod_lt m (Nat.two_pow_pos k)
  dsimp only
  split
  · rw [Nat.add_mul, Nat.one_mul]; omega
  · omega

/-- Upward, the magnitude of a negative number is cut off, that of another rounded up. -/
theorem roundShift_up_signed (neg : Bool) (m k : Nat) :
    let n := (roundShift 2 neg m false k).1
    if neg then roundShift 2 neg m false k = roundShift 1 neg m false k else m ≤ n * 2 ^ k ∧ n * 2 ^ k < m + 2 ^ k := by
  cases neg
  · dsimp only
    rw [roundShift_up]
    simpa using above_close m k
  · exact Prod.ext (by rw [roundShift_up, roundShift_chop]; simp) rfl

/-- Downward the other way round. -/
theorem roundShift_down_signed (neg : Bool) (m k : Nat) :
    let n := (roundShift 3 neg m false k).1
    if neg then m ≤ n * 2 ^ k ∧ n * 2 ^ k < m + 2 ^ k else roundShift 3 neg m false k = roundShift 1 neg m false k := by
  cases neg
  · exact Prod.ext (by rw [roundShift_down, roundShift_chop]; simp) rfl
  · dsimp only
    rw [roundShift_down]
    simpa using above_close m k

/-- Settles O53: the four roundings of a natural number, then `Measured.roundedOnce` of RoundResult. -/
theorem resultsAreRoundedOnce : Obligations.ResultsAreRoundedOnce := by
  unfold Obligations.ResultsAreRoundedOnce
  refine ⟨fun neg m k => ?_, fun fmt f neg m e _ => ⟨fun hm => roundedOnce_roundResult fmt f neg e hm,
    fun θ h0 h1 hm => roundedOnce_roundResult_sticky fmt f neg e h0 h1 hm, roundResult_normalized f neg⟩⟩
  obtain ⟨hclose, htie⟩ := roundShift_nearest_close neg m k
  exact ⟨hclose, htie, roundShift_chop_below neg m k, roundShift_up_signed neg m k, roundShift_down_signed neg m k,
    by simp [roundShift_inexact], rfl, rfl, rfl⟩

end Sys2Proof.Machine
end

section
/-! PROOFS. Memory keeps its canonical form in every step (20_memory.md R116). -/

namespace Sys2Proof.Machine

theorem State.MemCanonical.of_mem_eq {s t : State} (h : s.MemCanonical) (hm : t.mem = s.mem) : t.MemCanonical := by
  unfold State.MemCanonical
  rw [hm]
  exact h

/-- An instruction changes memory by storing bytes only. -/
theorem Effect.memCanonical {s t : State} (e : Effect s t) (h : s.MemCanonical) : t.MemCanonical := by
  obtain ⟨l, hl⟩ := e.mem
  unfold State.MemCanonical
  rw [hl]
  exact memWriteAll_wf l h

@[simp] theorem State.deliverFpTrap_mem (s : State) : s.deliverFpTrap.mem = s.mem := by
  unfold State.deliverFpTrap; split <;> simp

@[simp] theorem State.excReturn_mem (s : State) : s.excReturn.mem = s.mem := by
  unfold State.excReturn; split <;> simp

/-- Of the events only a store by another agent changes memory. -/
theorem State.deliver_memCanonical {s : State} (e : EnvEvent) (h : s.MemCanonical) : (s.deliver e).MemCanonical := by
  cases e with
  | idle | clearLink => exact h
  | externalStore pa b => exact s.externalStore_wf pa b h
  | interrupt => exact h.of_mem_eq (s.raise_mem _)
  | fpTrap => exact h.of_mem_eq s.deliverFpTrap_mem
  | excReturn => exact h.of_mem_eq s.excReturn_mem
  | excReturnTo pc => exact h.of_mem_eq (s.returnTo_mem pc)
  | selectFR fr =>
    simp only [State.deliver]
    split
    · exact h.of_mem_eq (s.selectModel_mem fr)
    · exact h
  | changeTypes => simp only [State.deliver]; split <;> exact h

/-- What the environment's handler answers is put into the canonical form. -/
theorem State.runHandler_memCanonical {s : State} (h : s.MemCanonical) : s.runHandler.MemCanonical := by
  unfold State.runHandler
  split
  · split
    · exact (s.legalise_inv _).mem
    · exact h
  · exact h

/-- Settles O7, by the ways a step answers with a next state (`step_next`). -/
theorem everyStepKeepsMemoryCanonical : Obligations.EveryStepKeepsMemoryCanonical := by
  unfold Obligations.EveryStepKeepsMemoryCanonical
  intro s t hs h
  obtain ⟨-, ⟨-, rfl⟩ | ⟨-, ⟨-, rfl⟩ | ⟨-, hrun⟩⟩⟩ := step_next h
  case inl => exact State.runHandler_memCanonical hs
  case inr.inl => exact hs.of_mem_eq s.skipSlot_mem
  case inr.inr =>
    obtain ⟨-, hi⟩ | ⟨l, -, hi⟩ | ⟨e, l, -, -, rfl⟩ := hrun
    · exact (instrStep_effects s t hi).memCanonical hs
    · exact (instrStep_effects { s with agenda := l } t hi).memCanonical hs
    · exact State.deliver_memCanonical e hs

end Sys2Proof.Machine
end

section
/-! PROOFS. What stops the fetch and the decode of the word at pc (20_memory.md R118, 30_encoding.md R171,
60_exceptions.md R718). -/

namespace Sys2Proof.Machine

theorem State.fetchBytes_misaligned {s : State} (h : s.pc.toNat % 4 ≠ 0) :
    s.fetchBytes = .error (.addressError .fetch s.pc) := if_pos h

theorem State.fetchBytes_untranslated {s : State} {c : Cause} (h : s.pc.toNat % 4 = 0)
    (ht : s.translate .fetch s.pc = .error c) : s.fetchBytes = .error c := by
  unfold State.fetchBytes
  rw [if_neg (not_not.mpr h), ht]

theorem State.fetchBytes_busError {s : State} {pa : Nat} {ty : AccessType} (h : s.pc.toNat % 4 = 0)
    (ht : s.translate .fetch s.pc = .ok (pa, ty)) (hb : s.busHits .fetch (fetchPlaces pa) = true) :
    s.fetchBytes = .error (.busError .fetch s.pc) := by
  unfold State.fetchBytes
  rw [if_neg (not_not.mpr h), ht]
  exact if_pos hb

theorem State.runWord_fetch_error {s : State} {c : Cause} (run : Instr → State → Out) (h : s.fetchBytes = .error c) :
    s.runWord run = .next (s.raise c) := State.orRaise_error _ h

theorem State.runWord_rejected {s : State} {bs : List Byte} {r : Reject} (run : Instr → State → Out)
    (hf : s.fetchBytes = .ok bs) (hd : decodeBytes s.env.bigEndianMem bs = .error r) :
    s.runWord run = s.rejected r := by
  unfold State.runWord
  rw [State.orRaise_ok _ hf]
  simp only [hd]

/-- Settles O5: at a boundary with nothing else to do the step is that of the word at pc, whose fetch or decode fails. -/
theorem fetchAndDecodeFaultsRaise : Obligations.FetchAndDecodeFaultsRaise := by
  unfold Obligations.FetchAndDecodeFaultsRaise
  intro s hended htrapped hdelay hagenda hend
  have hword : step s = s.runWord exec := by
    rw [step_of_no_event hended htrapped hdelay hagenda, State.instrStep_goes hend]
  have hraise : ∀ c, s.fetchBytes = .error c → Raises s (step s) c := fun c hf =>
    hword.trans (State.runWord_fetch_error exec hf)
  refine ⟨fun hpc => hraise _ (State.fetchBytes_misaligned hpc),
    fun c hpc ht => hraise c (State.fetchBytes_untranslated hpc ht),
    fun pa ty hpc ht hb => hraise _ (State.fetchBytes_busError hpc ht hb), fun bs hf hd => ?_⟩
  rw [hword, State.runWord_rejected exec hf hd]
  exact rfl

end Sys2Proof.Machine
end

section
/-! PROOFS. What a data access reaches and what stops it (20_memory.md R105, R106, R110, R111, R116, R123). -/

namespace Sys2Proof.Machine

/-! ### The bytes of a memory element -/

/-- The `n` physical bytes from `p` on, in the byte order of the mode, with one access type. -/
def State.bytesFrom (s : State) (p n : Nat) (ty : AccessType) : List (Nat × AccessType) :=
  (List.range n).map fun i => (s.flip (p + i), ty)

theorem State.elementBytes_error {s : State} {k : AccessKind} {a v : Dword} {c : Cause} (back n : Nat)
    (h : s.translateFor k a v = .error c) : s.elementBytes k a v back n = .error c := by
  unfold State.elementBytes; rw [h]

theorem State.elementBytes_ok {s : State} {k : AccessKind} {a v : Dword} {pa : Nat} {ty : AccessType} (back n : Nat)
    (h : s.translateFor k a v = .ok (pa, ty)) : s.elementBytes k a v back n = .ok (s.bytesFrom (pa - back) n ty) := by
  unfold State.elementBytes; rw [h]; rfl

/-! ### The bytes of an access -/

/-- One translation decides the bytes of an access, but for the doubleword of a 32-bit processor. -/
theorem State.physBytes_element {s : State} {back n : Nat} (k : AccessKind) (a : Dword)
    (h : s.env.is64 = true ∨ back ≠ 0 ∨ n ≠ 8) : s.physBytes k a back n = s.elementBytes k a a back n := by
  unfold State.physBytes
  refine if_neg ?_
  obtain h | h | h := h <;> simp [h]

section
variable {s : State} {k : AccessKind} {a : Dword}

/-- The doubleword of a 32-bit processor: neither word is reached when the first is not translated. -/
theorem State.physBytes_words_error_first {c : Cause} (h32 : s.env.is64 = false) (h : s.translate k a = .error c) :
    s.physBytes k a 0 8 = .error c := by
  unfold State.physBytes
  rw [if_pos (by simp [h32]), State.elementBytes_error 0 4 h]

theorem State.physBytes_words_error_second {x : Nat × AccessType} {c : Cause} (h32 : s.env.is64 = false)
    (h : s.translate k a = .ok x) (h' : s.translateFor k a (s.norm (a + 4)) = .error c) :
    s.physBytes k a 0 8 = .error c := by
  unfold State.physBytes
  rw [if_pos (by simp [h32]), State.elementBytes_ok 0 4 h, State.elementBytes_error 0 4 h']

theorem State.physBytes_words {p q : Nat} {ty tz : AccessType} (h32 : s.env.is64 = false)
    (h : s.translate k a = .ok (p, ty)) (h' : s.translateFor k a (s.norm (a + 4)) = .ok (q, tz)) :
    s.physBytes k a 0 8 = .ok (s.bytesFrom p 4 ty ++ s.bytesFrom q 4 tz) := by
  unfold State.physBytes
  rw [if_pos (by simp [h32]), State.elementBytes_ok 0 4 h, State.elementBytes_ok 0 4 h']
  rfl

end

/-! ### What stops an access -/

theorem State.mixes_iff (s : State) (l : List (Nat × AccessType)) :
    s.mixes l = true ↔ ∃ e ∈ s.typed, ∃ b ∈ l, b.1 = e.1 ∧ b.2 ≠ e.2 := by
  simp [State.mixes]

section
variable {s : State} {k : AccessKind} {a : Dword} {back n : Nat}

theorem State.dataBytes_untranslated {c : Cause} (h : s.physBytes k a back n = .error c) :
    s.dataBytes k a back n = .error (.raised c) := by
  unfold State.dataBytes; rw [h]

variable {l : List (Nat × AccessType)}

/-- Of a translated access first the mixing of access types is looked at, then Bus Error. -/
theorem State.dataBytes_translated (h : s.physBytes k a back n = .ok l) :
    ((∃ e ∈ s.typed, ∃ b ∈ l, b.1 = e.1 ∧ b.2 ≠ e.2) → s.dataBytes k a back n = .error (.refused .mixedAccess)) ∧
    ((∀ e ∈ s.typed, ∀ b ∈ l, b.1 = e.1 → b.2 = e.2) → s.dataBytes k a back n =
      if s.busHits k (l.map Prod.fst) then .error (.raised (.busError k a)) else .ok l) := by
  unfold State.dataBytes
  rw [h]
  refine ⟨fun hm => if_pos ((s.mixes_iff l).mpr hm), fun hu => if_neg fun hm => ?_⟩
  obtain ⟨e, he, b, hb, hplace, htype⟩ := (s.mixes_iff l).mp hm
  exact htype (hu e he b hb hplace)

/-- With no byte noted and no range of bus errors every translated access goes through. -/
theorem State.dataBytes_goes (ht : s.typed = []) (hb : s.env.busErrors = []) (h : s.physBytes k a back n = .ok l) :
    s.dataBytes k a back n = .ok l := by
  have hbus : s.busHits k (l.map Prod.fst) = false := by simp [State.busHits, hb]
  rw [(State.dataBytes_translated h).2 (by simp [ht]), hbus]
  rfl

end

/-- An access ends as what stops it. -/
theorem State.stops_access (s : State) (k : AccessKind) (a : Dword) (back n : Nat) (f : List Nat → State) :
    s.Stops (s.access k a back n f) k a back n := by
  obtain ⟨hraised, hrefused⟩ := access_error (s := s) (k := k) (a := a) (back := back) (n := n) f
  intro e he
  cases e with
  | raised c => exact hraised c he
  | refused r => exact hrefused r he

/-! ### The tests of an address -/

theorem State.needOffset_fail {s : State} {n : Nat} {offset : BitVec 16} (c : Out)
    (h : 4 ≤ s.env.archLevel ∧ offset.toNat % 2 ^ n ≠ 0) : s.needOffset n offset c = .refused .offsetRestriction :=
  if_pos h

theorem State.needRegion_fail {s : State} {a : Dword} {base : Reg} (c : Out) (h : ¬ s.regionOk a base) :
    s.needRegion a base c = .refused .regionBits := by
  refine if_pos ?_
  simpa [State.regionOk] using h

/-- What base plus offset leads to: Address Error, then the refusal of low offset bits, then the access itself. -/
theorem State.offsetTests (s : State) (k : AccessKind) (n : Nat) (a : Dword) (offset : BitVec 16) (c : Out) :
    let out := s.needAligned k n a (s.needOffset n offset c)
    (a.toNat % 2 ^ n ≠ 0 → Raises s out (.addressError k a)) ∧
    (a.toNat % 2 ^ n = 0 → 4 ≤ s.env.archLevel ∧ offset.toNat % 2 ^ n ≠ 0 → out = .refused .offsetRestriction) ∧
    (a.toNat % 2 ^ n = 0 → (4 ≤ s.env.archLevel → offset.toNat % 2 ^ n = 0) → out = c) := by
  refine ⟨fun ha => State.needAligned_fail _ ha, fun ha ho => ?_, fun ha ho => ?_⟩
  · exact (State.needAligned_pass _ ha).trans (State.needOffset_fail _ ho)
  · exact (State.needAligned_pass _ ha).trans (State.needOffset_pass _ ho)

theorem State.guarded_of_stops {s : State} {k : AccessKind} {n : Nat} {base : Reg} {offset : BitVec 16} {c : Out}
    (h : s.Stops c k (s.effAddr base offset) 0 (2 ^ n)) :
    s.Guarded (s.needAligned k n (s.effAddr base offset) (s.needOffset n offset c)) k n base offset := by
  obtain ⟨hmisaligned, hoffset, hpass⟩ := s.offsetTests k n (s.effAddr base offset) offset c
  refine ⟨hmisaligned, hoffset, fun ha ho => ?_⟩
  rw [hpass ha ho]
  exact h

theorem State.guardedIndex_of_stops {s : State} {k : AccessKind} {n : Nat} {base index : Reg} {c : Out}
    (h : s.Stops c k (s.indexedAddr base index) 0 (2 ^ n)) :
    s.GuardedIndex (s.needRegion (s.indexedAddr base index) base (s.needAligned k n (s.indexedAddr base index) c))
      k n base index := by
  refine ⟨fun hr => State.needRegion_fail _ hr, fun hr ha => ?_, fun hr ha => ?_⟩
  · exact (State.needRegion_pass _ hr).trans (State.needAligned_fail _ ha)
  · rw [State.needRegion_pass _ hr, State.needAligned_pass _ ha]
    exact h

end Sys2Proof.Machine
end

section
/-! PROOFS. The CPU loads and stores that do not go through (20_memory.md R105, R111, R123, 40_cpu_load_store.md R201,
R202, R223). -/

namespace Sys2Proof.Machine

section
variable (s : State)

theorem State.guarded_loadAligned (n : Nat) (base rt : Reg) (offset : BitVec 16) (ext : Dword → Dword) :
    s.Guarded (s.loadAligned n base rt offset ext) .load n base offset :=
  State.guarded_of_stops (s.stops_access _ _ _ _ _)

theorem State.guarded_storeAligned (n : Nat) (base : Reg) (offset : BitVec 16) (v : Dword) :
    s.Guarded (s.storeAligned n base offset v) .store n base offset :=
  State.guarded_of_stops (s.stops_access _ _ _ _ _)

theorem State.stops_loadPart (span : Nat × Nat) (base rt : Reg) (offset : BitVec 16)
    (merge : Nat → Dword → Dword → Dword) :
    s.Stops (s.loadPart span base rt offset merge) .load (s.effAddr base offset) span.1 span.2 :=
  s.stops_access _ _ _ _ _

theorem State.stops_storePart (span : Nat × Nat) (base rt : Reg) (offset : BitVec 16) (pick : Nat → Dword → Dword) :
    s.Stops (s.storePart span base rt offset pick) .store (s.effAddr base offset) span.1 span.2 :=
  s.stops_access _ _ _ _ _

end

/-! ### The instructions -/

section
variable (s : State) (base rt : Reg) (offset : BitVec 16)

theorem exec_lb : exec (.lb base rt offset) s = s.loadAligned 0 base rt offset fun v => (v.setWidth 8).signExtend 64 := rfl
theorem exec_lbu : exec (.lbu base rt offset) s = s.loadAligned 0 base rt offset id := rfl
theorem exec_lh : exec (.lh base rt offset) s = s.loadAligned 1 base rt offset fun v => (v.setWidth 16).signExtend 64 := rfl
theorem exec_lhu : exec (.lhu base rt offset) s = s.loadAligned 1 base rt offset id := rfl
theorem exec_lw : exec (.lw base rt offset) s = s.loadAligned 2 base rt offset fun v => sextWord (lowWord v) := rfl
theorem exec_sb : exec (.sb base rt offset) s = s.storeAligned 0 base offset (s.getGpr2 rt) := rfl
theorem exec_sh : exec (.sh base rt offset) s = s.storeAligned 1 base offset (s.getGpr2 rt) := rfl
theorem exec_sw : exec (.sw base rt offset) s = s.storeAligned 2 base offset (s.getGpr2 rt) := rfl
theorem exec_lwl : exec (.lwl base rt offset) s =
    s.loadPart (leftSpan s.bigEndianCPU 4 ((s.effAddr base offset).toNat % 4)) base rt offset
      fun n v old => sextWord (lowWord (mergeLeft 4 n v old)) := rfl
theorem exec_lwr : exec (.lwr base rt offset) s =
    s.loadPart (rightSpan s.bigEndianCPU 4 ((s.effAddr base offset).toNat % 4)) base rt offset s.lwrResult := rfl
theorem exec_swl : exec (.swl base rt offset) s =
    s.storePart (leftSpan s.bigEndianCPU 4 ((s.effAddr base offset).toNat % 4)) base rt offset topOfWord := rfl
theorem exec_swr : exec (.swr base rt offset) s =
    s.storePart (rightSpan s.bigEndianCPU 4 ((s.effAddr base offset).toNat % 4)) base rt offset fun _ v => v := rfl

end

section
variable {s : State} (h : 3 ≤ s.env.archLevel) (base rt : Reg) (offset : BitVec 16)
include h

theorem exec_lwu : exec (.lwu base rt offset) s = s.loadAligned 2 base rt offset id := State.needLevel_pass _ h
theorem exec_ld : exec (.ld base rt offset) s = s.loadAligned 3 base rt offset id := State.wasCop3_pass _ h
theorem exec_sd : exec (.sd base rt offset) s = s.storeAligned 3 base offset (s.getGpr2 rt) := State.wasCop3_pass _ h
theorem exec_ldl : exec (.ldl base rt offset) s =
    s.loadPart (leftSpan s.bigEndianCPU 8 ((s.effAddr base offset).toNat % 8)) base rt offset (mergeLeft 8) :=
  State.needLevel_pass _ h
theorem exec_ldr : exec (.ldr base rt offset) s =
    s.loadPart (rightSpan s.bigEndianCPU 8 ((s.effAddr base offset).toNat % 8)) base rt offset mergeRight :=
  State.needLevel_pass _ h
theorem exec_sdl : exec (.sdl base rt offset) s =
    s.storePart (leftSpan s.bigEndianCPU 8 ((s.effAddr base offset).toNat % 8)) base rt offset topOfDword :=
  State.needLevel_pass _ h
theorem exec_sdr : exec (.sdr base rt offset) s =
    s.storePart (rightSpan s.bigEndianCPU 8 ((s.effAddr base offset).toNat % 8)) base rt offset (fun _ v => v) :=
  State.needLevel_pass _ h

end

/-! ### The record of access types -/

/-- Where locations have more than one access type, a byte that was used is noted. -/
theorem mem_noteBytes {e : Env} (h : e.oneType = false) (noted l : List (Nat × AccessType)) {x : Nat × AccessType}
    (hx : x ∈ l) : ∃ ty, (x.1, ty) ∈ noteBytes e noted l := by
  unfold noteBytes
  rw [if_neg (by simp [h])]
  by_cases hn : ∃ y ∈ noted, y.1 = x.1
  · obtain ⟨y, hy, hplace⟩ := hn
    exact ⟨y.2, List.mem_append_right _ (hplace ▸ hy)⟩
  · refine ⟨x.2, List.mem_append_left _ (List.mem_filter.mpr ⟨hx, ?_⟩)⟩
    simpa using fun a b hab hax => hn ⟨(a, b), hab, hax⟩

theorem State.access_notes {s : State} {k : AccessKind} {a : Dword} {back n : Nat} {ps : List Nat} {f : List Nat → State}
    (h : s.env.oneType = false) (hf : (f ps).env = s.env) (hr : s.Reaches k a back n ps) :
    ∃ t, s.access k a back n f = .next t ∧ ∀ p ∈ ps, ∃ ty, (p, ty) ∈ t.typed := by
  obtain ⟨l, hl, rfl⟩ := hr
  refine ⟨(f (l.map Prod.fst)).noteTypes l, by unfold State.access; rw [hl], fun p hp => ?_⟩
  obtain ⟨x, hx, rfl⟩ := List.mem_map.mp hp
  exact mem_noteBytes (hf ▸ h) _ l hx

theorem State.loadAligned_pass {s : State} {n : Nat} {base rt : Reg} {offset : BitVec 16} (ext : Dword → Dword)
    (ha : alignedAt n (s.effAddr base offset)) (ho : s.offsetOk n offset) :
    s.loadAligned n base rt offset ext = s.access .load (s.effAddr base offset) 0 (2 ^ n) fun ps =>
      (s.setGpr rt (s.result [base] (ext (s.memValue ps)))).retireWith (s.loadHazard rt) .none :=
  (State.needAligned_pass _ ha).trans (State.needOffset_pass _ ho)

theorem State.storeAligned_pass {s : State} {n : Nat} {base : Reg} {offset : BitVec 16} (v : Dword)
    (ha : alignedAt n (s.effAddr base offset)) (ho : s.offsetOk n offset) :
    s.storeAligned n base offset v = s.access .store (s.effAddr base offset) 0 (2 ^ n) fun ps =>
      (s.storeBytes ps v).retire :=
  (State.needAligned_pass _ ha).trans (State.needOffset_pass _ ho)

/-- Settles O27: the guards of the shared operations, then what `State.dataBytes` answers once the translation is known,
then the bytes noted. -/
theorem stoppedAccessesOfTheCpu : Obligations.StoppedAccessesOfTheCpu := by
  unfold Obligations.StoppedAccessesOfTheCpu
  intro s base rt offset a be left right bytes ends
  rw [exec_lb, exec_lbu, exec_lh, exec_lhu, exec_lw, exec_sb, exec_sh, exec_sw, exec_lwl, exec_lwr, exec_swl, exec_swr]
  refine ⟨s.guarded_loadAligned .., s.guarded_loadAligned .., s.guarded_loadAligned .., s.guarded_loadAligned ..,
    s.guarded_loadAligned .., s.guarded_storeAligned .., s.guarded_storeAligned .., s.guarded_storeAligned ..,
    s.stops_loadPart _ _ _ _ _, s.stops_loadPart _ _ _ _ _, s.stops_storePart _ _ _ _ _, s.stops_storePart _ _ _ _ _,
    fun h3 => ?levelThree, fun k x back n hone => ?element, fun k x h32 => ?words,
    fun htypes ha ho => ⟨fun ps hr => ?noteLoad, fun ps hr => ?noteStore⟩⟩
  case levelThree =>
    rw [exec_lwu h3, exec_ld h3, exec_sd h3, exec_ldl h3, exec_ldr h3, exec_sdl h3, exec_sdr h3]
    exact ⟨s.guarded_loadAligned .., s.guarded_loadAligned .., s.guarded_storeAligned .., s.stops_loadPart _ _ _ _ _,
      s.stops_loadPart _ _ _ _ _, s.stops_storePart _ _ _ _ _, s.stops_storePart _ _ _ _ _⟩
  case element =>
    have hphys := State.physBytes_element k x hone
    cases htr : s.translate k x with
    | error c => exact State.dataBytes_untranslated (hphys.trans (State.elementBytes_error back n htr))
    | ok y => exact State.dataBytes_translated (hphys.trans (State.elementBytes_ok back n htr))
  case words =>
    cases hfirst : s.translate k x with
    | error c => exact State.dataBytes_untranslated (State.physBytes_words_error_first h32 hfirst)
    | ok y =>
      cases hsecond : s.translateFor k x (s.norm (x + 4)) with
      | error c => exact State.dataBytes_untranslated (State.physBytes_words_error_second h32 hfirst hsecond)
      | ok z => exact State.dataBytes_translated (State.physBytes_words h32 hfirst hsecond)
  case noteLoad =>
    rw [State.loadAligned_pass _ ha ho]
    exact State.access_notes htypes (by simp) hr
  case noteStore =>
    rw [State.storeAligned_pass _ ha ho]
    exact State.access_notes htypes (by simp) hr

end Sys2Proof.Machine
end

section
/-! PROOFS. The accesses of the FPU, of coprocessor 2 and of the linked instructions that do not go through (20_memory.md
R111, 40_cpu_load_store.md R229, R233, R238, 47_fpu_transfer.md R554, R556). -/

namespace Sys2Proof.Machine

/-! ### The shared operations -/

section
variable (s : State)

theorem State.guarded_loadWordC1 (srcs : List Reg) (base ft : Reg) (offset : BitVec 16) :
    s.Guarded (s.withOffset .load 2 base offset fun a => s.loadWordC1 srcs a ft) .load 2 base offset :=
  State.guarded_of_stops (s.stops_access _ _ _ _ _)

theorem State.guarded_loadDwordC1 (srcs : List Reg) (base ft : Reg) (offset : BitVec 16) :
    s.Guarded (s.withOffset .load 3 base offset fun a => s.loadDwordC1 srcs a ft) .load 3 base offset :=
  State.guarded_of_stops (s.stops_access _ _ _ _ _)

theorem State.guarded_storeC1 (n : Nat) (base : Reg) (offset : BitVec 16) (v : Dword) :
    s.Guarded (s.withOffset .store n base offset fun a => s.storeC1 a (2 ^ n) v) .store n base offset :=
  State.guarded_of_stops (s.stops_access _ _ _ _ _)

theorem State.guardedIndex_loadWordC1 (srcs : List Reg) (base index ft : Reg) :
    s.GuardedIndex (s.withIndex .load 2 base index fun a => s.loadWordC1 srcs a ft) .load 2 base index :=
  State.guardedIndex_of_stops (s.stops_access _ _ _ _ _)

theorem State.guardedIndex_loadDwordC1 (srcs : List Reg) (base index ft : Reg) :
    s.GuardedIndex (s.withIndex .load 3 base index fun a => s.loadDwordC1 srcs a ft) .load 3 base index :=
  State.guardedIndex_of_stops (s.stops_access _ _ _ _ _)

theorem State.guardedIndex_storeC1 (n : Nat) (base index : Reg) (v : Dword) :
    s.GuardedIndex (s.withIndex .store n base index fun a => s.storeC1 a (2 ^ n) v) .store n base index :=
  State.guardedIndex_of_stops (s.stops_access _ _ _ _ _)

theorem State.guarded_loadCop2 (n : Nat) (base rt : Reg) (offset : BitVec 16) :
    s.Guarded (s.loadCop2 n base rt offset) .load n base offset :=
  State.guarded_of_stops (s.stops_access _ _ _ _ _)

theorem State.guarded_storeCop2 (n : Nat) (base rt : Reg) (offset : BitVec 16) :
    s.Guarded (s.storeCop2 n base rt offset) .store n base offset :=
  State.guarded_of_stops (s.stops_access _ _ _ _ _)

end

theorem State.needCop1x_pass {s : State} (k : Out) (h4 : 4 ≤ s.env.archLevel) (hu : s.usable 1 = true) :
    s.needCop1x k = k := (State.wasCop3_pass _ h4).trans (State.needCop_pass k hu)

theorem State.needCop2_pass {s : State} {n : Nat} (k : Out) (hu : s.usable 2 = true) (hl : n ≤ s.env.archLevel)
    (hp : s.env.cop2Present = true) : s.needCop2 n k = k :=
  (State.needCop_pass _ hu).trans ((State.needLevel_pass _ hl).trans (if_pos hp))

/-! ### Linked accesses -/

/-- The course of a linked access at an aligned address: the exception of its translation, the refusal of a location that
is not cached, or what stops the access, when there is one. -/
structure State.StopsLinked (s : State) (out : Out) (k : AccessKind) (a : Dword) (n : Nat) (goes : Prop) : Prop where
  untranslated : ∀ c, s.translate k a = .error c → Raises s out c
  uncached : ∀ pa ty, s.translate k a = .ok (pa, ty) → ty.cached = false → out = .refused .uncachedLinked
  cached : ∀ pa ty, s.translate k a = .ok (pa, ty) → ty.cached = true → goes → s.Stops out k a 0 (2 ^ n)

/-- A linked access does what its translation, its access type and then `f` of the physical address say. -/
theorem State.stopsLinked_orRaise {s : State} {k : AccessKind} {a : Dword} {n : Nat} {goes : Prop}
    {f : Nat × AccessType → Out} (h : ∀ pt, goes → s.Stops (f pt) k a 0 (2 ^ n)) :
    s.StopsLinked (s.orRaise (s.translate k a) fun pt => if !pt.2.cached then .refused .uncachedLinked else f pt)
      k a n goes where
  untranslated c htr := State.orRaise_error _ htr
  uncached pa ty htr hc := by rw [State.orRaise_ok _ htr]; simp [hc]
  cached pa ty htr hc hgoes := by
    rw [State.orRaise_ok _ htr]
    simpa [hc] using h (pa, ty) hgoes

/-- Base plus offset names a linked object of 2^n bytes: the tests of `State.Guarded`, then the course of its access. -/
def State.GuardedLinked (s : State) (out : Out) (k : AccessKind) (n : Nat) (base : Reg) (offset : BitVec 16)
    (goes : Prop) : Prop :=
  let a := s.effAddr base offset
  (¬ alignedAt n a → Raises s out (.addressError k a)) ∧
  (alignedAt n a → 4 ≤ s.env.archLevel ∧ offset.toNat % 2 ^ n ≠ 0 → out = .refused .offsetRestriction) ∧
  (alignedAt n a → s.offsetOk n offset → s.StopsLinked out k a n goes)

theorem State.guardedLinked_of_stopsLinked {s : State} {k : AccessKind} {n : Nat} {base : Reg} {offset : BitVec 16}
    {goes : Prop} {c : Out} (h : s.StopsLinked c k (s.effAddr base offset) n goes) :
    s.GuardedLinked (s.needAligned k n (s.effAddr base offset) (s.needOffset n offset c)) k n base offset goes := by
  obtain ⟨hmisaligned, hoffset, hpass⟩ := s.offsetTests k n (s.effAddr base offset) offset c
  refine ⟨hmisaligned, hoffset, fun ha ho => ?_⟩
  rw [hpass ha ho]
  exact h

theorem State.guardedLinked_loadLinked (s : State) (n : Nat) (base rt : Reg) (offset : BitVec 16)
    (ext : Dword → Dword) : s.GuardedLinked (s.loadLinked n base rt offset ext) .load n base offset True :=
  State.guardedLinked_of_stopsLinked (State.stopsLinked_orRaise fun _ _ => s.stops_access _ _ _ _ _)

/-- A store-conditional accesses its bytes when LLbit is set, and before any linked load (40_cpu_load_store.md R233). -/
theorem State.guardedLinked_storeConditional (s : State) (n : Nat) (base rt : Reg) (offset : BitVec 16) :
    s.GuardedLinked (s.storeConditional n base rt offset) .store n base offset
      (s.llbit = true ∨ s.llRecord = none) := by
  refine State.guardedLinked_of_stopsLinked (State.stopsLinked_orRaise fun pt hgoes => ?_)
  split
  · exact s.stops_access _ _ _ _ _
  next hlink =>
  split
  · exact s.stops_access _ _ _ _ _
  next hbit => exact absurd (by simp [State.linkBroken, hgoes.resolve_left hbit]) hlink

/-! ### The instructions once their tests are passed -/

section
variable {s : State} (hu : s.usable 1 = true) (base ft : Reg) (offset : BitVec 16)
include hu

theorem exec_lwc1 : exec (.lwc1 base ft offset) s =
    s.withOffset .load 2 base offset fun a => s.loadWordC1 [base] a ft := State.needCop_pass _ hu
theorem exec_swc1 : exec (.swc1 base ft offset) s =
    s.withOffset .store 2 base offset fun a => s.storeC1 a 4 (zextWord (s.wordOfFgr ft)) := State.needCop_pass _ hu
theorem exec_ldc1 (h2 : 2 ≤ s.env.archLevel) : exec (.ldc1 base ft offset) s =
    s.withOffset .load 3 base offset fun a => s.loadDwordC1 [base] a ft :=
  (State.needCop_pass _ hu).trans (State.needLevel_pass _ h2)
theorem exec_sdc1 (h2 : 2 ≤ s.env.archLevel) : exec (.sdc1 base ft offset) s =
    s.withOffset .store 3 base offset fun a => s.storeC1 a 8 (s.dwordOfFgr ft) :=
  (State.needCop_pass _ hu).trans (State.needLevel_pass _ h2)

variable (h4 : 4 ≤ s.env.archLevel) (index : Reg)
include h4

theorem exec_lwxc1 : exec (.lwxc1 base index ft) s =
    s.withIndex .load 2 base index fun a => s.loadWordC1 [base, index] a ft := State.needCop1x_pass _ h4 hu
theorem exec_ldxc1 : exec (.ldxc1 base index ft) s =
    s.withIndex .load 3 base index fun a => s.loadDwordC1 [base, index] a ft := State.needCop1x_pass _ h4 hu
theorem exec_swxc1 : exec (.swxc1 base index ft) s =
    s.withIndex .store 2 base index fun a => s.storeC1 a 4 (zextWord (s.wordOfFgr ft)) := State.needCop1x_pass _ h4 hu
theorem exec_sdxc1 : exec (.sdxc1 base index ft) s =
    s.withIndex .store 3 base index fun a => s.storeC1 a 8 (s.dwordOfFgr ft) := State.needCop1x_pass _ h4 hu

end

section
variable {s : State} (hu : s.usable 2 = true) (hp : s.env.cop2Present = true) (base rt : Reg) (offset : BitVec 16)
include hu hp

theorem exec_lwc2 (h1 : 1 ≤ s.env.archLevel) : exec (.lwc2 base rt offset) s = s.loadCop2 2 base rt offset :=
  State.needCop2_pass _ hu h1 hp
theorem exec_swc2 (h1 : 1 ≤ s.env.archLevel) : exec (.swc2 base rt offset) s = s.storeCop2 2 base rt offset :=
  State.needCop2_pass _ hu h1 hp
theorem exec_ldc2 (h2 : 2 ≤ s.env.archLevel) : exec (.ldc2 base rt offset) s = s.loadCop2 3 base rt offset :=
  State.needCop2_pass _ hu h2 hp
theorem exec_sdc2 (h2 : 2 ≤ s.env.archLevel) : exec (.sdc2 base rt offset) s = s.storeCop2 3 base rt offset :=
  State.needCop2_pass _ hu h2 hp

end

section
variable {s : State} (base rt : Reg) (offset : BitVec 16)

theorem exec_ll (h : 2 ≤ s.env.archLevel) : exec (.ll base rt offset) s =
    s.loadLinked 2 base rt offset fun v => sextWord (lowWord v) := State.needLevel_pass _ h
theorem exec_lld (h : 3 ≤ s.env.archLevel) : exec (.lld base rt offset) s = s.loadLinked 3 base rt offset id :=
  State.needLevel_pass _ h
theorem exec_sc (h : 2 ≤ s.env.archLevel) : exec (.sc base rt offset) s = s.storeConditional 2 base rt offset :=
  State.needLevel_pass _ h
theorem exec_scd (h : 3 ≤ s.env.archLevel) : exec (.scd base rt offset) s = s.storeConditional 3 base rt offset :=
  State.needLevel_pass _ h

end

/-- Settles O28: each instruction is its shared operation once its coprocessor and level tests are passed, and the shared
operation its guards around one access. -/
theorem stoppedAccessesOfCoprocessorsAndLinks : Obligations.StoppedAccessesOfCoprocessorsAndLinks := by
  unfold Obligations.StoppedAccessesOfCoprocessorsAndLinks
  intro s base index rt offset a linked stores
  have hlinked : ∀ {out k n goes}, s.GuardedLinked out k n base offset goes → linked out k n goes := by
    intro out k n goes h
    obtain ⟨hmisaligned, hoffset, hpass⟩ := h
    refine ⟨hmisaligned, hoffset, fun ha ho => ?_⟩
    cases htr : s.translate k a with
    | error c => exact (hpass ha ho).untranslated c htr
    | ok y => exact ⟨(hpass ha ho).uncached y.1 y.2 htr, (hpass ha ho).cached y.1 y.2 htr⟩
  refine ⟨fun hu => ?fpu, fun hu hp h1 => ?cop2, fun h2 => ?word, fun h3 => ?dword⟩
  case fpu =>
    rw [exec_lwc1 hu, exec_swc1 hu]
    refine ⟨s.guarded_loadWordC1 _ _ _ _, s.guarded_storeC1 2 _ _ _, fun h2 => ?_, fun h4 => ?_⟩
    · rw [exec_ldc1 hu _ _ _ h2, exec_sdc1 hu _ _ _ h2]
      exact ⟨s.guarded_loadDwordC1 _ _ _ _, s.guarded_storeC1 3 _ _ _⟩
    · rw [exec_lwxc1 hu _ _ h4, exec_ldxc1 hu _ _ h4, exec_swxc1 hu _ _ h4, exec_sdxc1 hu _ _ h4]
      exact ⟨s.guardedIndex_loadWordC1 _ _ _ _, s.guardedIndex_loadDwordC1 _ _ _ _, s.guardedIndex_storeC1 2 _ _ _,
        s.guardedIndex_storeC1 3 _ _ _⟩
  case cop2 =>
    rw [exec_lwc2 hu hp _ _ _ h1, exec_swc2 hu hp _ _ _ h1]
    refine ⟨s.guarded_loadCop2 _ _ _ _, s.guarded_storeCop2 _ _ _ _, fun h2 => ?_⟩
    rw [exec_ldc2 hu hp _ _ _ h2, exec_sdc2 hu hp _ _ _ h2]
    exact ⟨s.guarded_loadCop2 _ _ _ _, s.guarded_storeCop2 _ _ _ _⟩
  case word =>
    rw [exec_ll _ _ _ h2, exec_sc _ _ _ h2]
    exact ⟨hlinked (s.guardedLinked_loadLinked _ _ _ _ _), hlinked (s.guardedLinked_storeConditional _ _ _ _)⟩
  case dword =>
    rw [exec_lld _ _ _ h3, exec_scd _ _ _ h3]
    exact ⟨hlinked (s.guardedLinked_loadLinked _ _ _ _ _), hlinked (s.guardedLinked_storeConditional _ _ _ _)⟩

end Sys2Proof.Machine
end

section
/-! PROOFS. The bytes that an access reaches and the values they form (20_memory.md R101, R102, R110, R116, D13). -/

namespace Sys2Proof.Machine

/-! ### The byte order of data -/

/-- The reversal of user mode inverts the low address bits of each byte (20_memory.md R102, R116). -/
theorem State.flip_eq (s : State) (p : Nat) : s.flip p =
    if s.env.reBit = true ∧ s.mode = .user then p ^^^ (if s.env.is64 then 7 else 3) else p := by
  simp [State.flip, State.reverseEndian]

theorem State.bigEndianCPU_iff (s : State) :
    s.bigEndianCPU = true ↔ (s.env.bigEndianMem = true ↔ ¬ (s.env.reBit = true ∧ s.mode = .user)) := by
  have hre : s.reverseEndian = true ↔ s.env.reBit = true ∧ s.mode = .user := by simp [State.reverseEndian]
  rw [← hre, State.bigEndianCPU]
  cases s.env.bigEndianMem <;> cases s.reverseEndian <;> decide

/-! ### A plain environment -/

theorem State.Plain.is64 {s : State} (h : s.Plain) : s.env.is64 = true := by
  obtain ⟨-, hlevel⟩ := h.level
  simp [Env.is64, hlevel]

theorem State.Plain.flip {s : State} (h : s.Plain) (p : Nat) : s.flip p = p := by
  obtain ⟨-, hre⟩ := h.order
  rw [State.flip_eq, if_neg (by simp [hre])]

/-- Translation is the identity. -/
theorem State.Plain.translateFor {s : State} (h : s.Plain) (k : AccessKind) (a v : Dword) :
    s.translateFor k a v = .ok (v.toNat, s.env.typeOf s.env.accessType) := by
  obtain ⟨hregions, helse, hsize⟩ := h.xlat
  have hphysical : s.physical (v.toNat / 8) v.toNat = v.toNat := by
    have := v.isLt
    rw [State.physical, hsize]
    omega
  have haddr : s.addrNat v = v.toNat := if_pos h.is64
  simp [State.translateFor, hregions, helse, haddr, hphysical]

/-! ### The value of bytes -/

theorem zero_shiftLeft_or_setWidth (b : Byte) : ((0#64 <<< 8) ||| b.setWidth 64) = b.setWidth 64 := by simp

/-- A byte put below a value. -/
theorem shiftLeft_or_setWidth_append {w : Nat} (v : BitVec w) (b : Byte) :
    ((v.setWidth 64 <<< 8) ||| b.setWidth 64) = (v ++ b).setWidth 64 := by
  refine BitVec.eq_of_getLsbD_eq fun i hi => ?_
  simp only [BitVec.getLsbD_or, BitVec.getLsbD_shiftLeft, BitVec.getLsbD_setWidth, BitVec.getLsbD_append, hi]
  by_cases h8 : i < 8
  · simp [h8]
  · simp [h8, show i - 8 < 64 by omega, BitVec.getLsbD_of_ge b i (by omega)]

/-- The value whose bytes, the most significant first, are `bs`. -/
def bigEndianValue (bs : List Byte) : Dword := bs.foldl (fun acc b => (acc <<< 8) ||| b.setWidth 64) 0

theorem joinBytes_eq (be : Bool) (bs : List Byte) :
    joinBytes be bs = bigEndianValue (if be then bs else bs.reverse) := rfl

theorem bigEndianValue_concat (bs : List Byte) (b : Byte) :
    bigEndianValue (bs ++ [b]) = (bigEndianValue bs <<< 8) ||| b.setWidth 64 := by
  simp [bigEndianValue]

theorem bigEndianValue_lt {bs : List Byte} (h : bs.length ≤ 8) : (bigEndianValue bs).toNat < 2 ^ (8 * bs.length) := by
  induction bs using List.reverseRecOn with
  | nil => simp [bigEndianValue]
  | append_singleton bs b ih =>
    rw [List.length_append, List.length_singleton] at h ⊢
    have hlt := ih (by omega)
    have hpow : 2 ^ (8 * (bs.length + 1)) = 2 ^ (8 * bs.length) * 2 ^ 8 := by rw [← pow_add]; ring_nf
    rw [bigEndianValue_concat, BitVec.toNat_or, BitVec.toNat_shiftLeft, BitVec.toNat_setWidth]
    refine Nat.or_lt_two_pow ?_ ?_
    · rw [Nat.shiftLeft_eq, hpow]
      exact (Nat.mod_le _ _).trans_lt (by omega)
    · exact (Nat.mod_le _ _).trans_lt (b.isLt.trans_le (Nat.pow_le_pow_right two_pos (by omega)))

/-- Byte `i` of a value, from the least significant on, is the one that stands `i` before the last. -/
theorem extractByte_bigEndianValue {bs : List Byte} (h : bs.length ≤ 8) {i : Nat} (hi : i < bs.length) :
    bs[bs.length - 1 - i]? = some ((bigEndianValue bs).extractLsb' (8 * i) 8) := by
  induction bs using List.reverseRecOn generalizing i with
  | nil => simp at hi
  | append_singleton bs b ih =>
    rw [List.length_append, List.length_singleton] at h hi ⊢
    rw [bigEndianValue_concat]
    cases i with
    | zero =>
      have hlow : ((bigEndianValue bs <<< 8) ||| b.setWidth 64).extractLsb' 0 8 = b := by
        refine BitVec.eq_of_getLsbD_eq fun j hj => ?_
        simp [hj, show j < 64 by omega]
      simp [hlow]
    | succ i =>
      have hhigh : ((bigEndianValue bs <<< 8) ||| b.setWidth 64).extractLsb' (8 * (i + 1)) 8 =
          (bigEndianValue bs).extractLsb' (8 * i) 8 := by
        refine BitVec.eq_of_getLsbD_eq fun j hj => ?_
        simp only [BitVec.getLsbD_extractLsb', BitVec.getLsbD_or, BitVec.getLsbD_shiftLeft, BitVec.getLsbD_setWidth, hj,
          show 8 * (i + 1) + j - 8 = 8 * i + j by omega, BitVec.getLsbD_of_ge b (8 * (i + 1) + j) (by omega)]
        simp [show 8 * (i + 1) + j < 64 by omega, show 8 ≤ 8 * (i + 1) + j by omega]
      rw [hhigh, ← ih (by omega) (by omega), List.getElem?_append_left (by omega)]
      congr 1
      omega

/-- The bytes of a value stand in the byte order. -/
theorem extractByte_joinBytes {bs : List Byte} (be : Bool) (h : bs.length ≤ 8) {i : Nat} (hi : i < bs.length) :
    bs[if be then bs.length - 1 - i else i]? = some ((joinBytes be bs).extractLsb' (8 * i) 8) := by
  rw [joinBytes_eq]
  cases be with
  | true => exact extractByte_bigEndianValue h hi
  | false =>
    have hrev := extractByte_bigEndianValue (bs := bs.reverse) (by simpa using h) (i := i) (by simpa using hi)
    rw [List.getElem?_reverse (by simp; omega)] at hrev
    simp only [Bool.false_eq_true, if_false]
    rw [← hrev]
    congr 1
    simp
    omega

theorem joinBytes_lt {bs : List Byte} (be : Bool) (h : bs.length ≤ 8) :
    (joinBytes be bs).toNat < 2 ^ (8 * bs.length) := by
  rw [joinBytes_eq]
  cases be with
  | true => exact bigEndianValue_lt h
  | false => simpa using bigEndianValue_lt (bs := bs.reverse) (by simpa using h)

theorem bigEndianValue_four (a b c d : Byte) :
    bigEndianValue [a, b, c, d] = (a ++ b ++ c ++ d : BitVec (8 + 8 + 8 + 8)).setWidth 64 := by
  show (((((((0#64 <<< 8) ||| a.setWidth 64) <<< 8) ||| b.setWidth 64) <<< 8) ||| c.setWidth 64) <<< 8) |||
    d.setWidth 64 = _
  rw [zero_shiftLeft_or_setWidth, shiftLeft_or_setWidth_append, shiftLeft_or_setWidth_append, shiftLeft_or_setWidth_append]

/-- The bytes that a store takes from a value stand in the byte order. -/
theorem getElem_splitBytes (be : Bool) (v : Dword) {n i : Nat} (hi : i < n) :
    (splitBytes be n v)[if be then n - 1 - i else i]? = some (v.extractLsb' (8 * i) 8) := by
  unfold splitBytes
  cases be with
  | true =>
    simp only [if_true]
    rw [List.getElem?_reverse (by simp; omega)]
    simp [show n - 1 - (n - 1 - i) = i by omega, hi]
  | false => simp [hi]

/-- Settles O29: the translation and the byte order of an access, then the bytes of values. -/
theorem accessesReachTheirBytesInTheDataByteOrder : Obligations.AccessesReachTheirBytesInTheDataByteOrder := by
  unfold Obligations.AccessesReachTheirBytesInTheDataByteOrder
  refine ⟨fun s k a n hplain => ?plain, fun s k a v pa ty h => State.translateFor_low h,
    fun s k a pa ty htr htyped hbus => ?reached, State.bigEndianCPU_iff, fun s ps hlen => ?value,
    fun be v n => ⟨splitBytes_length be n v, fun i hi => getElem_splitBytes be v hi⟩, fun s p q r u => ?four⟩
  case plain =>
    have hphys := State.physBytes_element (s := s) (back := 0) (n := n) k a (.inl hplain.is64)
    rw [State.dataBytes_goes hplain.types hplain.bus (hphys.trans (State.elementBytes_ok 0 n (hplain.translateFor k a a)))]
    simp [State.bytesFrom, hplain.flip]
  case reached =>
    intro turn
    have hturn : s.flip = turn := funext s.flip_eq
    rw [← hturn]
    refine ⟨fun back n hone => ?_, fun q tz h32 htr' => ?_⟩
    · exact State.dataBytes_goes htyped hbus ((State.physBytes_element k a hone).trans (State.elementBytes_ok back n htr))
    · exact State.dataBytes_goes htyped hbus (State.physBytes_words h32 htr htr')
  case value =>
    have hlen' : (ps.map (memRead s.mem)).length ≤ 8 := by simpa using hlen
    refine ⟨by simpa [State.memValue] using joinBytes_lt s.bigEndianCPU hlen', fun i hi => ?_⟩
    simpa [State.memValue] using extractByte_joinBytes s.bigEndianCPU hlen' (i := i) (by simpa using hi)
  case four =>
    refine ⟨fun hbe => ?_, fun hle => ?_⟩
    · rw [State.memValue, hbe]
      exact bigEndianValue_four _ _ _ _
    · rw [State.memValue, hle]
      exact bigEndianValue_four _ _ _ _

end Sys2Proof.Machine
end

section
/-! PROOFS. The events of the environment and its own handler (20_memory.md R138, 40_cpu_load_store.md R230, R232,
60_exceptions.md R722, R724, R725, 70_reset_and_hazards.md R804). -/

namespace Sys2Proof.Machine

/-! ### Which way a step goes -/

theorem step_of_trapped {s : State} (he : s.ended = false) (ht : s.trapped = true) : step s = .next s.runHandler := by
  unfold step
  rw [if_neg (by simp [he]), if_pos ht]

/-- At a boundary with an event other than `idle` the step delivers it. -/
theorem step_of_event {s : State} {e : EnvEvent} {l : List EnvEvent} (he : s.ended = false) (ht : s.trapped = false)
    (hd : s.delay ≠ .nullify) (ha : s.agenda = e :: l) (hidle : e ≠ .idle) :
    step s = .next (State.deliver { s with agenda := l } e) := by
  unfold step
  rw [if_neg (by simp [he]), if_neg (by simp [ht]), if_neg hd, ha]
  cases e with
  | idle => exact absurd rfl hidle
  | _ => rfl

/-! ### What the events do -/

theorem State.excReturn_outside_handler {s : State} (h : s.saved = []) : s.excReturn = s := by
  unfold State.excReturn
  split
  · exact State.returnTo_nil h _
  · rfl

/-- Outside a handler there is nothing to return from and nothing to select. -/
theorem State.deliver_outside_handler {s : State} {e : EnvEvent} (h : s.saved = [])
    (he : e = .excReturn ∨ (∃ pc, e = .excReturnTo pc) ∨ (∃ fr, e = .selectFR fr) ∨ e = .changeTypes) :
    s.deliver e = s := by
  have hin : s.inHandler = false := by simp [State.inHandler, h]
  obtain rfl | ⟨pc, rfl⟩ | ⟨fr, rfl⟩ | rfl := he
  · exact State.excReturn_outside_handler h
  · exact State.returnTo_nil h pc
  · simp [State.deliver, hin]
  · simp [State.deliver, hin]

theorem State.inHandler_of_saved {s : State} (h : s.saved ≠ []) : s.inHandler = true := by
  simp [State.inHandler, h]

theorem State.deliver_selectFR {s : State} (h : s.saved ≠ []) (fr : Bool) : s.deliver (.selectFR fr) = s.selectModel fr :=
  if_pos (State.inHandler_of_saved h)

theorem State.deliver_changeTypes {s : State} (h : s.saved ≠ []) : s.deliver .changeTypes = { s with typed := [] } :=
  if_pos (State.inHandler_of_saved h)

/-- A store by another agent misses the linked block when it is in another block, or when there is none. -/
theorem State.hitsLink_eq_false_iff (s : State) (pa : Nat) : s.hitsLink pa = false ↔
    ∀ k, s.llRecord = some k → pa / s.env.llBlockSize ≠ k.paddr / s.env.llBlockSize := by
  unfold State.hitsLink
  cases s.llRecord with
  | none => simp
  | some r => simp [State.llBlock]

theorem State.memRead_externalStore (s : State) (pa x : Nat) (b : Byte) :
    memRead (s.externalStore pa b).mem x = if x = pa % 2 ^ s.env.psize then b else memRead s.mem x :=
  memRead_memWrite _ _ x b

theorem State.externalStore_llbit_iff (s : State) (pa : Nat) (b : Byte) : (s.externalStore pa b).llbit = true ↔
    s.llbit = true ∧ ∀ k, s.llRecord = some k →
      pa % 2 ^ s.env.psize / s.env.llBlockSize ≠ k.paddr / s.env.llBlockSize := by
  rw [← s.hitsLink_eq_false_iff]
  simp [State.externalStore]

/-- A change of the FPU register model forgets the FPRs; the model that is selected already is left alone. -/
theorem State.selectModel_changed {s : State} {fr : Bool} (h : s.env.is64 = true ∧ fr ≠ s.statusFR) :
    s.selectModel fr = { s.forgetFgrs with statusFR := fr } := by
  refine if_pos ?_
  simpa using h

theorem State.selectModel_unchanged {s : State} {fr : Bool} (h : s.env.is64 = false ∨ fr = s.statusFR) :
    s.selectModel fr = s := by
  refine if_neg ?_
  obtain h | h := h <;> simp [h]

theorem State.selectModel_statusFR (s : State) (fr : Bool) :
    (s.selectModel fr).statusFR = if s.env.is64 then fr else s.statusFR := by
  by_cases h : s.env.is64 = true ∧ fr ≠ s.statusFR
  · rw [State.selectModel_changed h, if_pos h.1]
  · have hun : s.env.is64 = false ∨ fr = s.statusFR := by simpa [or_iff_not_imp_left] using h
    rw [State.selectModel_unchanged hun]
    obtain h64 | hfr := hun
    · simp [h64]
    · simp [hfr]

/-! ### The environment's handler -/

theorem State.runHandler_ends {s : State} {e : ExcRecord} (he : s.exc = some e) (h : Config.trapEntry e s = none) :
    s.runHandler = { s with trapped := false, ended := true } := by
  unfold State.runHandler; simp only [he, h]

theorem State.runHandler_answers {s u : State} {e : ExcRecord} (he : s.exc = some e)
    (h : Config.trapEntry e s = some u) : s.runHandler = s.legalise u := by
  unfold State.runHandler; simp only [he, h]

theorem regGet_legalise (s u : State) (q : Reg) :
    regGet (s.legalise u).gpr q = if q = 0 then 0 else s.norm (regGet u.gpr q) := by
  rw [State.legalise_gpr, regGet_regSet]
  simp [regGet]

theorem memRead_of_unlisted {m : List Host.Cell} {x : Nat} (h : x ∉ m.map Prod.fst) : memRead m x = blankByte := by
  induction m with
  | nil => rfl
  | cons c m ih =>
    rw [List.map_cons, List.mem_cons, not_or] at h
    exact (if_neg h.1).trans (ih h.2)

/-- Bytes listed at rising addresses, placed one by one: each reads back, and no other byte changes. -/
theorem memRead_memWriteAll_sorted {m : List Host.Cell} (h : m.Pairwise (fun c d => c.1 < d.1)) (n : List Host.Cell)
    (x : Nat) : memRead (memWriteAll n m) x = if x ∈ m.map Prod.fst then memRead m x else memRead n x := by
  induction m generalizing n with
  | nil => rfl
  | cons c m ih =>
    obtain ⟨a, v⟩ := c
    obtain ⟨hbelow, hrest⟩ := List.pairwise_cons.mp h
    rw [memWriteAll, ih hrest, memRead_memWrite, memRead, List.map_cons]
    by_cases hx : x = a
    · have hnot : a ∉ m.map Prod.fst := fun hm => by
        obtain ⟨c, hc, hca⟩ := List.mem_map.mp hm
        exact absurd (hbelow c hc) (by simp [hca])
      simp only [hx, if_neg hnot, List.mem_cons_self, if_true]
    · simp only [List.mem_cons, hx, false_or, if_false]

/-- Placing the bytes of a canonical memory one by one gives that memory. -/
theorem memRead_memWriteAll_nil {m : List Host.Cell} (h : Memory.wf m) (x : Nat) :
    memRead (memWriteAll [] m) x = memRead m x := by
  rw [memRead_memWriteAll_sorted h.1]
  split
  · rfl
  · next hx => exact (memRead_of_unlisted hx).symm

theorem State.legalise_target (s : State) {u : State} {x : Dword} (h : u.delay = .target x) :
    (s.legalise u).delay = .target (s.norm x) ∧ (s.legalise u).afterBranch = true := by
  simp [h, State.normDelay, Delay.isTarget]

theorem State.legalise_no_target (s : State) {u : State} (h : ∀ x, u.delay ≠ .target x) :
    (s.legalise u).delay = u.delay ∧ (s.legalise u).afterBranch = u.afterBranch := by
  rw [State.legalise_delay, State.legalise_afterBranch]
  cases hd : u.delay with
  | target x => exact absurd hd (h x)
  | none | nullify => simp [State.normDelay, Delay.isTarget]

theorem State.legalise_llRecord_isSome {s : State} (u : State) (h : s.llRecord.isSome = true) :
    (s.legalise u).llRecord.isSome = true := by
  rw [State.legalise_llRecord]
  cases u.llRecord with
  | none => exact h
  | some r => rfl

/-- Settles O14: which way the step goes, then what each event does, then what the handler's answer becomes. -/
theorem eventsOfTheEnvironment : Obligations.EventsOfTheEnvironment := by
  unfold Obligations.EventsOfTheEnvironment
  intro s l hended
  refine ⟨fun htrapped hdelay => ?events, fun e htrapped hexc => ?handler⟩
  case events =>
    intro r
    have hstep : ∀ {e}, s.agenda = e :: l → e ≠ .idle → step s = .next (r.deliver e) :=
      step_of_event hended htrapped hdelay
    refine ⟨fun ha => hstep ha nofun, fun pa b ha => ?store, fun ha => hstep ha nofun, fun hsaved e ha he => ?outside,
      fun m ms pc hsaved ha => ?ret, fun fr hsaved ha => ?select, fun hsaved ha => ?types⟩
    case store =>
      exact ⟨r.externalStore pa b, hstep ha nofun, rfl, rfl, rfl, fun x => r.memRead_externalStore pa x b,
        r.externalStore_llbit_iff pa b⟩
    case outside =>
      have hidle : e ≠ .idle := by
        rintro rfl
        simp at he
      rw [hstep ha hidle, State.deliver_outside_handler (s := r) hsaved he]
    case ret =>
      refine ⟨_, hstep ha nofun, ?_⟩
      have hret : r.deliver (.excReturnTo pc) = _ := State.returnTo_cons (s := r) hsaved pc
      rw [hret]
      exact ⟨rfl, rfl, rfl, rfl, rfl, rfl, rfl, rfl⟩
    case select =>
      refine ⟨r.selectModel fr, ?_, r.selectModel_gpr fr, r.selectModel_fcsr fr, r.selectModel_mem fr,
        r.selectModel_pc fr, r.selectModel_statusFR fr, fun hchange n => ?_, fun hsame => ?_⟩
      · rw [hstep ha nofun, State.deliver_selectFR (s := r) hsaved]
      · rw [State.selectModel_changed (s := r) hchange]
        exact regGet_replicate _ n
      · rw [State.selectModel_unchanged (s := r) hsame]
        exact ⟨rfl, rfl, rfl⟩
    case types => rw [hstep ha nofun, State.deliver_changeTypes (s := r) hsaved]
  case handler =>
    have hstep := step_of_trapped hended htrapped
    cases hentry : Config.trapEntry e s with
    | none => exact hstep.trans (congrArg _ (State.runHandler_ends hexc hentry))
    | some u =>
      refine ⟨s.legalise u, hstep.trans (congrArg _ (State.runHandler_answers hexc hentry)), regGet_legalise s u, ?_⟩
      exact ⟨rfl, rfl, rfl, rfl, memRead_memWriteAll_nil, rfl, rfl, rfl, State.legalise_llRecord_isSome u, rfl, rfl,
        fun x hx => s.legalise_target hx, s.legalise_no_target⟩

end Sys2Proof.Machine
end


section
/-! PROOFS. The decoder and the encoder are inverse to each other, table by table (30_encoding.md R161 to R163, R167, R169,
R175 to R189). -/

namespace Sys2Proof

/-! ### A packed word is known by its fields -/

theorem packI_eq_iff {op : BitVec 6} {rs rt : BitVec 5} {imm : BitVec 16} {w : Word} :
    packI op rs rt imm = w ↔ op = fOp w ∧ rs = fRs w ∧ rt = fRt w ∧ imm = fImm w := by
  constructor
  · rintro rfl; simp
  · rintro ⟨rfl, rfl, rfl, rfl⟩; exact packI_split w

theorem packR_eq_iff {op fn : BitVec 6} {rs rt rd sa : BitVec 5} {w : Word} :
    packR op rs rt rd sa fn = w ↔
      op = fOp w ∧ rs = fRs w ∧ rt = fRt w ∧ rd = fRd w ∧ sa = fSa w ∧ fn = fFn w := by
  constructor
  · rintro rfl; simp
  · rintro ⟨rfl, rfl, rfl, rfl, rfl, rfl⟩; exact packR_split w

theorem packJ_eq_iff {op : BitVec 6} {index : BitVec 26} {w : Word} :
    packJ op index = w ↔ op = fOp w ∧ index = fIndex w := by
  constructor
  · rintro rfl; simp
  · rintro ⟨rfl, rfl⟩; exact packJ_split w

theorem packCode20_eq_iff {op fn : BitVec 6} {code : BitVec 20} {w : Word} :
    packCode20 op code fn = w ↔ op = fOp w ∧ code = fCode20 w ∧ fn = fFn w := by
  constructor
  · rintro rfl; simp
  · rintro ⟨rfl, rfl, rfl⟩; exact packCode20_split w

theorem packCode10_eq_iff {op fn : BitVec 6} {rs rt : BitVec 5} {code : BitVec 10} {w : Word} :
    packCode10 op rs rt code fn = w ↔ op = fOp w ∧ rs = fRs w ∧ rt = fRt w ∧ code = fCode10 w ∧ fn = fFn w := by
  constructor
  · rintro rfl; simp
  · rintro ⟨rfl, rfl, rfl, rfl, rfl⟩; exact packCode10_split w

theorem packCc_eq_iff {cc : BitVec 3} {low : BitVec 2} {f : BitVec 5} :
    packCc cc low = f ↔ cc = ccOf f ∧ low = ccLow f := by
  constructor
  · rintro rfl; simp
  · rintro ⟨rfl, rfl⟩; exact packCc_split f

/-! ### The word of a decoded instruction is the one decoded

One lemma for each table. A reserved entry has a reason of its table; in any other entry the branch taken and the zero fields
tested say what the fields of the word are. -/

/-- The word of an instruction that the decoder answers is `w`; a reason to reject that it answers is a `p`. -/
def DecodesTo (w : Word) (p : Reject → Prop) (d : Except Reject Instr) : Prop :=
  (∀ i, d = .ok i → encode i = w) ∧ ∀ r, d = .error r → p r

theorem decodesTo_ok {w : Word} {p : Reject → Prop} {i : Instr} : DecodesTo w p (.ok i) ↔ encode i = w := by
  simp [DecodesTo]

theorem decodesTo_error {w : Word} {p : Reject → Prop} {r : Reject} : DecodesTo w p (.error r) ↔ p r := by
  simp [DecodesTo]

theorem decodesTo_zeroed {w : Word} {p : Reject → Prop} {z : Bool} {r : Reject} {i : Instr} (hr : p r) :
    DecodesTo w p (zeroed z r i) ↔ (z = true → encode i = w) := by
  cases z <;> simp [zeroed, DecodesTo, hr]

theorem DecodesTo.mono {w : Word} {p q : Reject → Prop} {d : Except Reject Instr} (h : DecodesTo w p d)
    (hpq : ∀ r, p r → q r) : DecodesTo w q d := ⟨h.1, fun r hd => hpq r (h.2 r hd)⟩

/-- The reasons to reject a word of opcode COP1. -/
def Reject.OfCop1 (r : Reject) : Prop := r = .reservedCop1 ∨ ∃ n, r = .requiredZeroCop1 n

theorem ofCop1_reserved : Reject.OfCop1 .reservedCop1 := .inl rfl
theorem ofCop1_requiredZero (n : Nat) : Reject.OfCop1 (.requiredZeroCop1 n) := .inr ⟨n, rfl⟩

theorem decodesTo_decodeSpecial {w : Word} (hop : fOp w = 0b000000#6) : DecodesTo w (fun _ => True) (decodeSpecial w) := by
  unfold decodeSpecial
  repeat' split
  all_goals simp only [decodesTo_ok, decodesTo_error, decodesTo_zeroed]
  all_goals unfold encode
  all_goals simp +contextual [*, packR_eq_iff, packCode20_eq_iff, packCode10_eq_iff, packCc_eq_iff]

theorem decodesTo_decodeRegimm {w : Word} (hop : fOp w = 0b000001#6) : DecodesTo w (fun _ => True) (decodeRegimm w) := by
  unfold decodeRegimm
  split
  all_goals simp only [decodesTo_ok, decodesTo_error]
  all_goals unfold encode
  all_goals simp [*, packI_eq_iff]

theorem decodesTo_decodeFmtS {w : Word} (hop : fOp w = 0b010001#6) (hfmt : fRs w = 0b10000#5) :
    DecodesTo w Reject.OfCop1 (decodeFmtS w) := by
  unfold decodeFmtS
  repeat' split
  all_goals simp only [decodesTo_ok, decodesTo_error, decodesTo_zeroed, ofCop1_reserved, ofCop1_requiredZero]
  all_goals unfold encode
  all_goals simp +contextual [*, packR_eq_iff, packCc_eq_iff]

theorem decodesTo_decodeFmtD {w : Word} (hop : fOp w = 0b010001#6) (hfmt : fRs w = 0b10001#5) :
    DecodesTo w Reject.OfCop1 (decodeFmtD w) := by
  unfold decodeFmtD
  repeat' split
  all_goals simp only [decodesTo_ok, decodesTo_error, decodesTo_zeroed, ofCop1_reserved, ofCop1_requiredZero]
  all_goals unfold encode
  all_goals simp +contextual [*, packR_eq_iff, packCc_eq_iff]

theorem decodesTo_decodeFmtW {w : Word} (hop : fOp w = 0b010001#6) (hfmt : fRs w = 0b10100#5) :
    DecodesTo w Reject.OfCop1 (decodeFmtW w) := by
  unfold decodeFmtW
  split
  all_goals simp only [decodesTo_error, decodesTo_zeroed, ofCop1_reserved, ofCop1_requiredZero]
  all_goals unfold encode
  all_goals simp +contextual [*, packR_eq_iff]

theorem decodesTo_decodeFmtL {w : Word} (hop : fOp w = 0b010001#6) (hfmt : fRs w = 0b10101#5) :
    DecodesTo w Reject.OfCop1 (decodeFmtL w) := by
  unfold decodeFmtL
  split
  all_goals simp only [decodesTo_error, decodesTo_zeroed, ofCop1_reserved, ofCop1_requiredZero]
  all_goals unfold encode
  all_goals simp +contextual [*, packR_eq_iff]

theorem decodesTo_decodeCop1 {w : Word} (hop : fOp w = 0b010001#6) : DecodesTo w Reject.OfCop1 (decodeCop1 w) := by
  unfold decodeCop1
  split
  case h_8 hfmt => exact decodesTo_decodeFmtS hop hfmt
  case h_9 hfmt => exact decodesTo_decodeFmtD hop hfmt
  case h_10 hfmt => exact decodesTo_decodeFmtW hop hfmt
  case h_11 hfmt => exact decodesTo_decodeFmtL hop hfmt
  case h_7 =>
    split
    all_goals rw [decodesTo_ok]
    all_goals unfold encode
    all_goals simp [*, packI_eq_iff, packCc_eq_iff]
  all_goals simp only [decodesTo_error, decodesTo_zeroed, ofCop1_reserved, ofCop1_requiredZero]
  all_goals unfold encode
  all_goals simp +contextual [*, packR_eq_iff]

theorem decodesTo_decodeCop1x {w : Word} (hop : fOp w = 0b010011#6) : DecodesTo w (fun _ => True) (decodeCop1x w) := by
  unfold decodeCop1x
  split
  all_goals simp only [decodesTo_ok, decodesTo_error, decodesTo_zeroed]
  all_goals unfold encode
  all_goals simp +contextual [*, packR_eq_iff]

theorem decodesTo_decode (w : Word) : DecodesTo w (fun _ => True) (decode w) := by
  unfold decode
  split
  case h_1 hop => exact decodesTo_decodeSpecial hop
  case h_2 hop => exact decodesTo_decodeRegimm hop
  case h_3 hop => exact (decodesTo_decodeCop1 hop).mono fun _ _ => trivial
  case h_4 hop => exact decodesTo_decodeCop1x hop
  all_goals simp only [decodesTo_ok, decodesTo_error, decodesTo_zeroed]
  all_goals unfold encode
  all_goals simp +contextual [*, packI_eq_iff, packJ_eq_iff]

/-! ### Every instruction's word decodes to it

One lemma for each table, or part of a table. An instruction of another table contradicts what is said of its word's fields;
for one of this table the fields of its packed word pick the branch. -/

@[simp] theorem zeroed_true (r : Reject) (i : Instr) : zeroed true r i = .ok i := rfl

theorem decode_of_special {w : Word} (hop : fOp w = 0b000000#6) : decode w = decodeSpecial w := by
  unfold decode; rw [hop]; rfl
theorem decode_of_regimm {w : Word} (hop : fOp w = 0b000001#6) : decode w = decodeRegimm w := by
  unfold decode; rw [hop]; rfl
theorem decode_of_cop1 {w : Word} (hop : fOp w = 0b010001#6) : decode w = decodeCop1 w := by
  unfold decode; rw [hop]; rfl
theorem decode_of_cop1x {w : Word} (hop : fOp w = 0b010011#6) : decode w = decodeCop1x w := by
  unfold decode; rw [hop]; rfl

theorem decodeCop1_of_S {w : Word} (hfmt : fRs w = 0b10000#5) : decodeCop1 w = decodeFmtS w := by
  unfold decodeCop1; rw [hfmt]; rfl
theorem decodeCop1_of_D {w : Word} (hfmt : fRs w = 0b10001#5) : decodeCop1 w = decodeFmtD w := by
  unfold decodeCop1; rw [hfmt]; rfl

theorem decodeSpecial_encode_low {i : Instr} (hop : fOp (encode i) = 0b000000#6) (hfn : fFn (encode i) < 0b100000#6) :
    decodeSpecial (encode i) = .ok i := by
  cases i
  all_goals unfold encode at hop hfn ⊢
  all_goals simp at hop hfn
  all_goals simp [decodeSpecial]

theorem decodeSpecial_encode_high {i : Instr} (hop : fOp (encode i) = 0b000000#6) (hfn : ¬ fFn (encode i) < 0b100000#6) :
    decodeSpecial (encode i) = .ok i := by
  cases i
  all_goals unfold encode at hop hfn ⊢
  all_goals simp at hop hfn
  all_goals simp [decodeSpecial]

theorem decodeSpecial_encode {i : Instr} (hop : fOp (encode i) = 0b000000#6) : decodeSpecial (encode i) = .ok i :=
  if hfn : fFn (encode i) < 0b100000#6 then decodeSpecial_encode_low hop hfn else decodeSpecial_encode_high hop hfn

theorem decodeRegimm_encode {i : Instr} (hop : fOp (encode i) = 0b000001#6) : decodeRegimm (encode i) = .ok i := by
  cases i
  all_goals unfold encode at hop ⊢
  all_goals simp at hop
  all_goals simp [decodeRegimm]

theorem decodeFmtS_encode {i : Instr} (hop : fOp (encode i) = 0b010001#6) (hfmt : fRs (encode i) = 0b10000#5) :
    decodeFmtS (encode i) = .ok i := by
  cases i
  all_goals unfold encode at hop hfmt ⊢
  all_goals simp at hop hfmt
  all_goals simp [decodeFmtS]

theorem decodeFmtD_encode {i : Instr} (hop : fOp (encode i) = 0b010001#6) (hfmt : fRs (encode i) = 0b10001#5) :
    decodeFmtD (encode i) = .ok i := by
  cases i
  all_goals unfold encode at hop hfmt ⊢
  all_goals simp at hop hfmt
  all_goals simp [decodeFmtD]

theorem decodeCop1_encode {i : Instr} (hop : fOp (encode i) = 0b010001#6) : decodeCop1 (encode i) = .ok i := by
  by_cases hS : fRs (encode i) = 0b10000#5
  · exact (decodeCop1_of_S hS).trans (decodeFmtS_encode hop hS)
  by_cases hD : fRs (encode i) = 0b10001#5
  · exact (decodeCop1_of_D hD).trans (decodeFmtD_encode hop hD)
  cases i
  all_goals unfold encode at hop hS hD ⊢
  all_goals simp at hop hS hD
  all_goals simp [decodeCop1, decodeFmtW, decodeFmtL]

theorem decodeCop1x_encode {i : Instr} (hop : fOp (encode i) = 0b010011#6) : decodeCop1x (encode i) = .ok i := by
  cases i
  all_goals unfold encode at hop ⊢
  all_goals simp at hop
  all_goals simp [decodeCop1x]

/-- The primary opcodes whose words are decoded by a second table. -/
def tableOpcodes : List (BitVec 6) := [0b000000#6, 0b000001#6, 0b010001#6, 0b010011#6]

theorem decode_encode_low {i : Instr} (hop : fOp (encode i) ∉ tableOpcodes) (hlow : fOp (encode i) < 0b100000#6) :
    decode (encode i) = .ok i := by
  cases i
  all_goals unfold encode at hop hlow ⊢
  all_goals simp [tableOpcodes] at hop hlow
  all_goals simp [decode]

theorem decode_encode_mid {i : Instr} (hlow : ¬ fOp (encode i) < 0b100000#6) (hmid : fOp (encode i) < 0b110000#6) :
    decode (encode i) = .ok i := by
  cases i
  all_goals unfold encode at hlow hmid ⊢
  all_goals simp at hlow hmid
  all_goals simp [decode]

theorem decode_encode_high {i : Instr} (hhigh : ¬ fOp (encode i) < 0b110000#6) : decode (encode i) = .ok i := by
  cases i
  all_goals unfold encode at hhigh ⊢
  all_goals simp at hhigh
  all_goals simp [decode]

theorem decode_encode (i : Instr) : decode (encode i) = .ok i := by
  by_cases hop : fOp (encode i) ∈ tableOpcodes
  · simp only [tableOpcodes, List.mem_cons, List.not_mem_nil, or_false] at hop
    rcases hop with hspecial | hregimm | hcop1 | hcop1x
    · exact (decode_of_special hspecial).trans (decodeSpecial_encode hspecial)
    · exact (decode_of_regimm hregimm).trans (decodeRegimm_encode hregimm)
    · exact (decode_of_cop1 hcop1).trans (decodeCop1_encode hcop1)
    · exact (decode_of_cop1x hcop1x).trans (decodeCop1x_encode hcop1x)
  · by_cases hlow : fOp (encode i) < 0b100000#6
    · exact decode_encode_low hop hlow
    by_cases hmid : fOp (encode i) < 0b110000#6
    · exact decode_encode_mid hlow hmid
    · exact decode_encode_high hmid

/-- Settles O1: `decode_encode` follows each instruction's word through the tables, `decodesTo_decode` each branch of the
tables back to the word. -/
theorem decodeAndEncodeAreInverse : Obligations.DecodeAndEncodeAreInverse := by
  unfold Obligations.DecodeAndEncodeAreInverse
  exact ⟨decode_encode, fun w => (decodesTo_decode w).1⟩

/-- Settles O2: each word is a literal, which the decoder evaluates. -/
theorem writtenOutWordsDecode : Obligations.WrittenOutWordsDecode := by
  unfold Obligations.WrittenOutWordsDecode
  exact ⟨rfl, rfl, rfl, rfl, rfl, rfl, rfl, rfl, rfl, rfl, rfl⟩

end Sys2Proof
end

section
/-! PROOFS. Words of the coprocessor 1 opcodes with coprocessor 1 not usable (30_encoding.md R174, 47_fpu_transfer.md R552,
60_exceptions.md R706). -/

namespace Sys2Proof

/-! ### A word as the fetch finds it -/

theorem wordOfBytes_of_fields (w : Word) :
    wordOfBytes true (w.extractLsb' 24 8) (w.extractLsb' 16 8) (w.extractLsb' 8 8) (w.extractLsb' 0 8) = w := by
  show (w.extractLsb' 24 8 ++ w.extractLsb' 16 8 ++ w.extractLsb' 8 8 ++ w.extractLsb' 0 8 : BitVec (8 + 8 + 8 + 8)) = w
  refine BitVec.eq_of_getLsbD_eq fun i hi => ?_
  simp only [BitVec.getLsbD_append, BitVec.getLsbD_extractLsb']
  split_ifs
  all_goals (rw [decide_eq_true (by omega), Bool.true_and]; congr 1; omega)

/-- The bytes of a word decode to what the word decodes to, in either byte order. -/
theorem decodeBytes_bytesOfWord (bigEndian : Bool) (w : Word) :
    decodeBytes bigEndian (bytesOfWord bigEndian w) = (decode w).map fun i => (i, []) := by
  have hw := wordOfBytes_of_fields w
  cases bigEndian
  · exact congrArg (fun v => (decode v).map fun i => (i, [])) hw
  · exact congrArg (fun v => (decode v).map fun i => (i, [])) hw

theorem decodeBytes_of_ok {w : Word} {i : Instr} (bigEndian : Bool) (h : decode w = .ok i) :
    decodeBytes bigEndian (bytesOfWord bigEndian w) = .ok (i, []) := by
  rw [decodeBytes_bytesOfWord, h]; rfl

theorem decodeBytes_of_error {w : Word} {r : Reject} (bigEndian : Bool) (h : decode w = .error r) :
    decodeBytes bigEndian (bytesOfWord bigEndian w) = .error r := by
  rw [decodeBytes_bytesOfWord, h]; rfl

/-! ### A coprocessor 1 word that is rejected -/

/-- The primary opcodes of coprocessor 1: COP1, LWC1, LDC1, SWC1 and SDC1. -/
def cop1Opcodes : List (BitVec 6) := [0b010001#6, 0b110001#6, 0b110101#6, 0b111001#6, 0b111101#6]

/-- LWC1, LDC1, SWC1 and SDC1 have no word that is rejected. -/
theorem ofCop1_of_decode_error {w : Word} {r : Reject} (hop : fOp w ∈ cop1Opcodes) (hd : decode w = .error r) :
    r.OfCop1 := by
  simp only [cop1Opcodes, List.mem_cons, List.not_mem_nil, or_false] at hop
  obtain hop | hop | hop | hop | hop := hop
  case inl => exact (decodesTo_decodeCop1 hop).2 r (decode_of_cop1 hop ▸ hd)
  all_goals simp [decode, hop] at hd

end Sys2Proof

namespace Sys2Proof.Machine

/-! ### An instruction of coprocessor 1 -/

theorem exec_of_cop1Opcodes {s : State} {i : Instr} (hu : s.usable 1 = false) (hop : fOp (encode i) ∈ cop1Opcodes) :
    exec i s = .next (s.raise (.coprocessorUnusable 1)) := by
  cases i
  all_goals unfold encode at hop
  all_goals simp [cop1Opcodes] at hop
  all_goals exact State.needCop_fail _ hu

/-- A coprocessor 1 instruction whose sources are no coprocessor 1 ones has none, since it is above MIPS I. -/
theorem no_sources_of_cop1Opcodes {i : Instr} (hop : fOp (encode i) ∈ cop1Opcodes) (hunit : sourceUnit i ≠ some 1) :
    gprSources i = [] ∧ (∀ s : State, s.fgrSources i = []) ∧ cop2Sources i = [] := by
  cases i
  all_goals unfold encode at hop
  all_goals simp [cop1Opcodes] at hop
  all_goals unfold sourceUnit at hunit
  all_goals simp at hunit
  all_goals exact ⟨rfl, fun _ => rfl, rfl⟩

/-- An instruction without sources breaks no load delay. -/
theorem State.loadDelayBroken_of_no_sources {i : Instr} (s : State) (hgpr : gprSources i = []) (hfgr : s.fgrSources i = [])
    (hcop2 : cop2Sources i = []) : s.loadDelayBroken i = none := by
  unfold State.loadDelayBroken
  simp only [hgpr, hfgr, hcop2, List.contains_nil, Bool.false_and]
  cases s.hazards.loadGpr <;> cases s.hazards.loadFpr <;> cases s.hazards.loadCop2 <;> simp

/-- An instruction of a coprocessor that is not usable breaks no load delay. -/
theorem State.loadDelayBroken_of_unusable {s : State} {i : Instr} {z : BitVec 2} (hunit : sourceUnit i = some z)
    (hu : s.usable z = false) : s.loadDelayBroken i = none := by
  unfold State.loadDelayBroken
  simp [hunit, hu]

theorem State.loadDelayBroken_of_cop1Opcodes {s : State} {i : Instr} (hu : s.usable 1 = false)
    (hop : fOp (encode i) ∈ cop1Opcodes) : s.loadDelayBroken i = none := by
  by_cases hunit : sourceUnit i = some 1
  · exact State.loadDelayBroken_of_unusable hunit hu
  · obtain ⟨hgpr, hfgr, hcop2⟩ := no_sources_of_cop1Opcodes hop hunit
    exact s.loadDelayBroken_of_no_sources hgpr (hfgr s) hcop2

theorem State.rejected_ofCop1 {s : State} {r : Reject} (hu : s.usable 1 = false) (h : r.OfCop1) :
    s.rejected r = .next (s.raise (.coprocessorUnusable 1)) := by
  obtain rfl | ⟨n, rfl⟩ := h
  · exact State.needCop_fail _ hu
  · exact State.needCop_fail _ hu

/-- Settles O6: the decoder rejects a word of these opcodes only for reasons that stand behind the usable test, and the
word of an instruction that it accepts is the instruction's own (`decodesTo_decode`), which begins with that test. -/
theorem coprocessorUnusableComesBeforeTheDecode : Obligations.CoprocessorUnusableComesBeforeTheDecode := by
  unfold Obligations.CoprocessorUnusableComesBeforeTheDecode
  intro s w hfetch hu hop
  cases hd : decode w with
  | error r =>
    rw [State.runWord_rejected exec hfetch (decodeBytes_of_error _ hd)]
    exact State.rejected_ofCop1 hu (ofCop1_of_decode_error hop hd)
  | ok i =>
    have hi : fOp (encode i) ∈ cop1Opcodes := by rw [(decodesTo_decode w).1 i hd]; exact hop
    rw [State.runWord_decoded exec hfetch (decodeBytes_of_ok _ hd) (State.loadDelayBroken_of_cop1Opcodes hu hi)]
    exact exec_of_cop1Opcodes hu hi

end Sys2Proof.Machine
end

section
/-! PROOFS. Encodings that the enabled level does not have (30_encoding.md R170, R172, R173, R186, R187, R189,
47_fpu_transfer.md R553). -/

namespace Sys2Proof

/-! ### The words that are rejected -/

theorem decode_swc3 {w : Word} (hop : fOp w = 0b111011#6) : decode w = .error .opcodeSwc3 := by
  unfold decode; rw [hop]; rfl

theorem decode_opcode2F {w : Word} (hop : fOp w = 0b101111#6) : decode w = .error (.opcode2F (fIndex w)) := by
  unfold decode; rw [hop]; rfl

theorem zeroed_error {z : Bool} (r : Reject) (i : Instr) (hz : z = false) : zeroed z r i = .error r := by
  rw [hz]; rfl

theorem decode_sqrtS_nonzero {w : Word} (hop : fOp w = 0b010001#6) (hfmt : fRs w = 0b10000#5) (hfn : fFn w = 0b000100#6)
    (hft : fRt w ≠ 0#5) : decode w = .error (.requiredZeroCop1 2) := by
  rw [decode_of_cop1 hop, decodeCop1_of_S hfmt]
  unfold decodeFmtS; rw [hfn]
  exact zeroed_error _ _ (beq_eq_false_iff_ne.mpr hft)

theorem decode_recipS_nonzero {w : Word} (hop : fOp w = 0b010001#6) (hfmt : fRs w = 0b10000#5) (hfn : fFn w = 0b010101#6)
    (hft : fRt w ≠ 0#5) : decode w = .error (.requiredZeroCop1 4) := by
  rw [decode_of_cop1 hop, decodeCop1_of_S hfmt]
  unfold decodeFmtS; rw [hfn]
  exact zeroed_error _ _ (beq_eq_false_iff_ne.mpr hft)

/-- Bits 10..0 are the fields at bits 10..6 and 5..0. -/
theorem low11_eq_append (w : Word) : w.extractLsb' 0 11 = fSa w ++ fFn w := by
  unfold fSa fFn
  refine BitVec.eq_of_getLsbD_eq fun i hi => ?_
  simp only [BitVec.getLsbD_append, BitVec.getLsbD_extractLsb', hi, decide_true, Bool.true_and]
  split_ifs
  all_goals (rewrite [decide_eq_true (by omega), Bool.true_and]; exact congrArg _ (by omega))

theorem decode_dmfc1_nonzero {w : Word} (hop : fOp w = 0b010001#6) (hfmt : fRs w = 0b00001#5)
    (hlow : w.extractLsb' 0 11 ≠ 0#11) : decode w = .error (.requiredZeroCop1 3) := by
  rw [decode_of_cop1 hop]
  unfold decodeCop1; rw [hfmt]
  refine zeroed_error _ _ (Bool.eq_false_iff.mpr fun hz => hlow ?_)
  simp only [Bool.and_eq_true, beq_iff_eq] at hz
  obtain ⟨hsa, hfn⟩ := hz
  rw [low11_eq_append, hsa, hfn]; rfl

end Sys2Proof

namespace Sys2Proof.Machine

theorem State.runWord_of_reject {s : State} {w : Word} {r : Reject} (run : Instr → State → Out)
    (hfetch : s.fetchBytes = .ok (bytesOfWord s.env.bigEndianMem w)) (h : decode w = .error r) :
    s.runWord run = s.rejected r := State.runWord_rejected run hfetch (decodeBytes_of_error _ h)

/-! ### Former coprocessor 3 encodings -/

/-- The outcome of a coprocessor 3 encoding that is one from MIPS `first` on (30_encoding.md R173, R174). -/
structure State.EndsAsCop3 (s : State) (first : Nat) (out : Out) : Prop where
  unusable : s.env.procLevel ≤ 2 → s.usable 3 = false → Raises s out (.coprocessorUnusable 3)
  below : s.env.procLevel ≤ 2 → s.usable 3 = true → s.env.archLevel < first → Raises s out .reservedInstruction
  usable : s.env.procLevel ≤ 2 → s.usable 3 = true → first ≤ s.env.archLevel → out = .refused .cop3Operation
  later : 2 < s.env.procLevel → Raises s out .reservedInstruction

theorem State.cop3_ends (s : State) (first : Nat) : s.EndsAsCop3 first (s.cop3 first) := by
  have hold : s.env.procLevel ≤ 2 → s.cop3 first = s.needCop 3 (s.needLevel first (.refused .cop3Operation)) :=
    fun hp => if_pos hp
  refine ⟨fun hp hu => ?_, fun hp hu hl => ?_, fun hp hu hl => ?_, fun hp => if_neg (by omega)⟩
  · exact (hold hp).trans (State.needCop_fail _ hu)
  · exact (hold hp).trans ((State.needCop_pass _ hu).trans (State.needLevel_fail _ hl))
  · exact (hold hp).trans ((State.needCop_pass _ hu).trans (State.needLevel_pass _ hl))

theorem State.wasCop3_old {s : State} {first now : Nat} (k : Out) (hn : s.env.archLevel < now)
    (hl : s.env.archLevel ≤ 2) : s.wasCop3 first now k = s.cop3 first := by
  unfold State.wasCop3
  rw [if_neg (by omega), if_pos hl]

theorem State.wasCop3_between {s : State} {first now : Nat} (k : Out) (hn : s.env.archLevel < now)
    (hl : 2 < s.env.archLevel) : Raises s (s.wasCop3 first now k) .reservedInstruction := by
  unfold State.wasCop3
  rw [if_neg (by omega), if_neg (by omega)]
  exact rfl

/-- Below MIPS `now` the encoding is one of coprocessor 3 at MIPS I and II, and reserved above (30_encoding.md R173). -/
def State.WasCop3 (s : State) (first now : Nat) (out : Out) : Prop :=
  s.env.archLevel < now → (s.env.archLevel ≤ 2 → s.EndsAsCop3 first out) ∧
    (2 < s.env.archLevel → Raises s out .reservedInstruction)

theorem State.wasCop3_former (s : State) (first now : Nat) (k : Out) : s.WasCop3 first now (s.wasCop3 first now k) :=
  fun hn => ⟨fun hl => State.wasCop3_old k hn hl ▸ s.cop3_ends first, State.wasCop3_between k hn⟩

/-! ### Other encodings of the coprocessors -/

theorem State.rejected_requiredZeroCop1 {s : State} (n : Nat) (hu : s.usable 1 = true) :
    (s.env.archLevel < n → s.rejected (.requiredZeroCop1 n) = .next s.raiseReservedFpu) ∧
    (n ≤ s.env.archLevel → Raises s (s.rejected (.requiredZeroCop1 n)) .reservedInstruction) :=
  ⟨fun hl => (State.needCop_pass _ hu).trans (State.needFpLevel_fail _ hl),
    fun hl => (State.needCop_pass _ hu).trans (State.needFpLevel_pass _ hl)⟩

theorem State.rejected_opcode2F_reserved {s : State} {bits : BitVec 26}
    (h : s.env.archLevel < 2 ∨ s.env.opcode2FUsed = false) :
    Raises s (s.rejected (.opcode2F bits)) .reservedInstruction := by
  by_cases hl : s.env.archLevel < 2
  · exact State.needLevel_fail _ hl
  · have hunused := h.resolve_left hl
    exact (State.needLevel_pass _ (by omega)).trans (if_pos (by simp [hunused]))

/-- From MIPS II on, where the opcode is used: unusable in user mode without coprocessor 0, else its operation. -/
theorem State.rejected_opcode2F_used {s : State} (bits : BitVec 26) (hl : 2 ≤ s.env.archLevel)
    (hused : s.env.opcode2FUsed = true) : s.rejected (.opcode2F bits) =
      if !s.usable 0 && s.mode == .user then .next (s.raise (.coprocessorUnusable 0)) else s.cop0Operation true bits :=
  (State.needLevel_pass _ hl).trans (if_neg (by simp [hused]))

theorem State.rejected_opcode2F_unusable {s : State} (bits : BitVec 26) (hl : 2 ≤ s.env.archLevel)
    (hused : s.env.opcode2FUsed = true) (hu : s.usable 0 = false) (hm : s.mode = .user) :
    Raises s (s.rejected (.opcode2F bits)) (.coprocessorUnusable 0) :=
  (State.rejected_opcode2F_used bits hl hused).trans (if_pos (by rw [hu, hm]; rfl))

theorem State.rejected_opcode2F_operation {s : State} (bits : BitVec 26) (hl : 2 ≤ s.env.archLevel)
    (hused : s.env.opcode2FUsed = true) (h : s.usable 0 = true ∨ s.mode ≠ .user) :
    s.rejected (.opcode2F bits) = s.cop0Operation true bits :=
  (State.rejected_opcode2F_used bits hl hused).trans (if_neg (by
    obtain hu | hm := h
    · rw [hu]; simp
    · simp [hm]))

theorem State.cop0Operation_given {s : State} (base : Bool) (bits : BitVec 26) (h : s.env.cop0Given = true) :
    s.cop0Operation base bits = s.applyCop0 (Config.cop0Op base bits s) := if_pos h

theorem State.cop0Operation_refused {s : State} (base : Bool) (bits : BitVec 26) (h : s.env.cop0Given = false) :
    s.cop0Operation base bits = .refused .cop0Operation := if_neg (by simp [h])

/-- Settles O45: below its level each instruction begins with the test of a former coprocessor 3 encoding, and each word is
rejected for a reason of its own. -/
theorem encodingsOfOtherLevels : Obligations.EncodingsOfOtherLevels := by
  unfold Obligations.EncodingsOfOtherLevels
  intro s base index rt fd hint offset cop3 former
  have hcop3 : ∀ {first out}, s.EndsAsCop3 first out → cop3 first out := fun h => ⟨h.unusable, h.below, h.usable, h.later⟩
  have hformer : ∀ {first now : Nat} (k : Out), former first now (s.wasCop3 first now k) := fun {first now} k hn =>
    (s.wasCop3_former first now k hn).imp_left fun h hl => hcop3 (h hl)
  refine ⟨hformer _, hformer _, hformer _, hformer _, hformer _, hformer _, hformer _, hformer _, hformer _, hformer _,
    hformer _, hformer _, hformer _, hformer _, hformer _, hformer _, fun hu hl => ?belowII, fun hu => ?unusable,
    fun w hfetch => ?word⟩
  case belowII =>
    exact ⟨(State.needCop_pass _ hu).trans (State.needLevel_fail _ hl),
      (State.needCop_pass _ hu).trans (State.needLevel_fail _ hl)⟩
  case unusable => exact ⟨State.needCop_fail _ hu, State.needCop_fail _ hu⟩
  case word =>
    intro out op fmt fn zeroField
    have hout : ∀ {r}, decode w = .error r → out = s.rejected r := State.runWord_of_reject exec hfetch
    have hzero : ∀ {n}, decode w = .error (.requiredZeroCop1 n) → zeroField n := fun hd hu =>
      hout hd ▸ State.rejected_requiredZeroCop1 _ hu
    refine ⟨fun hop => ?swc3, fun hop hfmt hfn hft => hzero (decode_sqrtS_nonzero hop hfmt hfn hft),
      fun hop hfmt hfn hft => hzero (decode_recipS_nonzero hop hfmt hfn hft),
      fun hop hfmt hlow => hzero (decode_dmfc1_nonzero hop hfmt hlow), fun hop => ?opcode2F⟩
    case swc3 =>
      rw [hout (decode_swc3 hop)]
      exact ⟨fun hl => (hformer (first := 1) (now := 5) _ (by omega)).1 hl,
        fun hl h5 => (hformer (first := 1) (now := 5) _ h5).2 hl⟩
    case opcode2F =>
      rw [hout (decode_opcode2F hop)]
      refine ⟨State.rejected_opcode2F_reserved, fun hl hused =>
        ⟨State.rejected_opcode2F_unusable _ hl hused, fun h => ?_⟩⟩
      rw [State.rejected_opcode2F_operation _ hl hused h]
      exact ⟨State.cop0Operation_refused _ _, State.cop0Operation_given _ _⟩

end Sys2Proof.Machine
end

section
/-! PROOFS. The CPU stores that go through (20_memory.md R116, 40_cpu_load_store.md R201, R211 to R214, R219 to R223). -/

namespace Sys2Proof.Machine

/-! ### The shared operations -/

/-- An aligned store that goes through. -/
theorem completes_storeAligned {s : State} {n : Nat} {base : Reg} {offset : BitVec 16} {ps : List Nat} (v : Dword)
    (ha : alignedAt n (s.effAddr base offset)) (ho : s.offsetOk n offset)
    (hr : s.Reaches .store (s.effAddr base offset) 0 (2 ^ n) ps) :
    Completes s (s.storeAligned n base offset v) (ps.map .byte) fun t =>
      ps.map (memRead t.mem) = splitBytes s.bigEndianCPU (2 ^ n) v := by
  rw [State.storeAligned_pass v ha ho]
  exact completes_access _ hr (completes_storeBytes v hr) fun _ h => h

/-- A store of part of a unit that goes through. -/
theorem completes_storePart {s : State} {span : Nat × Nat} {base rt : Reg} {offset : BitVec 16} {ps : List Nat}
    (pick : Nat → Dword → Dword) (hr : s.Reaches .store (s.effAddr base offset) span.1 span.2 ps) :
    Completes s (s.storePart span base rt offset pick) (ps.map .byte) fun t =>
      ps.map (memRead t.mem) = splitBytes s.bigEndianCPU span.2 (pick span.2 (s.getGpr2 rt)) :=
  completes_access _ hr (completes_storeBytes _ hr) fun _ h => h

/-- The upper bytes of the low word are those of the doubleword with its upper word cleared. -/
theorem topOfWord_eq (n : Nat) (v : Dword) : topOfWord n v = (v &&& 0xFFFFFFFF) >>> (32 - 8 * n) := by
  have hmask : (0xFFFFFFFF : Dword) = (BitVec.allOnes 32).setWidth 64 := by decide
  refine BitVec.eq_of_getLsbD_eq fun i hi => ?_
  simp only [topOfWord, zextWord, lowWord, hmask, BitVec.getLsbD_setWidth, BitVec.getLsbD_ushiftRight,
    BitVec.getLsbD_extractLsb', BitVec.getLsbD_and, BitVec.getLsbD_allOnes, hi, decide_true, Bool.true_and, zero_add]
  by_cases h32 : 32 - 8 * n + i < 32
  · simp [h32, show 32 - 8 * n + i < 64 by omega]
  · simp [h32]

/-! ### The instructions -/

/-- Settles O26: each instruction is an aligned store of rt, SD from MIPS III on. -/
theorem alignedStoresWriteTheirBytes : Obligations.AlignedStoresWriteTheirBytes := by
  unfold Obligations.AlignedStoresWriteTheirBytes
  intro s base rt offset a stores
  rw [exec_sb, exec_sh, exec_sw]
  have hstores : ∀ n, stores (s.storeAligned n base offset (s.getGpr2 rt)) n :=
    fun n ps ha ho hr => completes_storeAligned (s.getGpr2 rt) ha ho hr
  exact ⟨hstores 0, hstores 1, hstores 2, fun h3 => exec_sd h3 base rt offset ▸ hstores 3⟩

/-- Settles O31: each instruction stores part of a unit, with `topOfWord` or `topOfDword` for the left ones. -/
theorem unalignedStoresWriteTheirBytes : Obligations.UnalignedStoresWriteTheirBytes := by
  unfold Obligations.UnalignedStoresWriteTheirBytes
  intro s base rt offset a v be left right stores
  have hstores : ∀ span (pick : Nat → Dword → Dword), stores (s.storePart span base rt offset pick) span fun n => pick n v :=
    fun span pick ps hr => completes_storePart pick hr
  have htop : (fun n => (v &&& 0xFFFFFFFF) >>> (32 - 8 * n)) = fun n => topOfWord n v :=
    funext fun n => (topOfWord_eq n v).symm
  rw [exec_swl, exec_swr, htop]
  refine ⟨hstores _ topOfWord, hstores _ _, ⟨State.needLevel_fail _, fun h3 => ?_⟩, ⟨State.needLevel_fail _, fun h3 => ?_⟩⟩
  · exact exec_sdl h3 base rt offset ▸ hstores _ topOfDword
  · exact exec_sdr h3 base rt offset ▸ hstores _ _

end Sys2Proof.Machine
end

section
/-! PROOFS. Accesses one after the other in a plain environment: the second finds the bytes of the first noted with the one
access type that all locations have (20_memory.md R116, R120, R123). -/

namespace Sys2Proof.Machine

/-! ### A plain environment in use -/

/-- A plain environment whose locations may have been used, all with its one access type. -/
structure State.PlainUsed (s : State) : Prop where
  plain : { s with typed := [] }.Plain
  types : ∀ e ∈ s.typed, e.2 = s.env.typeOf s.env.accessType

theorem State.Plain.used {s : State} (h : s.Plain) : s.PlainUsed where
  plain := ⟨h.level, h.order, h.xlat, h.bus, h.cached, rfl, h.trackers⟩
  types := by simp [h.types]

section
variable {s t : State} (h : s.PlainUsed)
include h

/-- It stays one while the parameters stand, no tracker is set and every new use is noted with that access type. -/
theorem State.PlainUsed.of_env (henv : t.env = s.env) (htrackers : t.hazards = Hazards.empty)
    (htypes : ∀ e ∈ t.typed, e.2 = s.env.typeOf s.env.accessType) : t.PlainUsed where
  plain := ⟨henv ▸ h.plain.level, henv ▸ h.plain.order, henv ▸ h.plain.xlat, henv ▸ h.plain.bus, henv ▸ h.plain.cached,
    rfl, htrackers⟩
  types := henv ▸ htypes

theorem State.PlainUsed.archLevel : s.env.archLevel = 4 := h.plain.level.1

theorem State.PlainUsed.is64 : s.env.is64 = true := h.plain.is64

theorem State.PlainUsed.norm (v : Dword) : s.norm v = v := if_pos h.is64

theorem State.PlainUsed.bigEndianCPU : s.bigEndianCPU = true := by
  obtain ⟨hmem, hre⟩ := h.plain.order
  exact s.bigEndianCPU_iff.mpr (by simp_all)

/-! ### Registers -/

theorem State.PlainUsed.movedGpr (l : List Reg) : s.movedGpr l = false := by
  have htrackers : s.hazards = Hazards.empty := h.plain.trackers
  simp [State.movedGpr, htrackers, Hazards.empty]

theorem State.PlainUsed.getGpr2 {r : Reg} (hr : r ≠ 0) : s.getGpr2 r = regGet s.gpr r :=
  (State.readGpr_pass _ (h.movedGpr [r])).trans (if_neg hr)

/-- The two reads of an instruction agree. -/
theorem State.PlainUsed.getGpr_eq_getGpr2 (r : Reg) : s.getGpr r = s.getGpr2 r :=
  (State.readGpr_pass _ (h.movedGpr [r])).trans (State.readGpr_pass _ (h.movedGpr [r])).symm

/-- An address is the same later on when its base register is. -/
theorem State.PlainUsed.effAddr_congr (h' : t.PlainUsed) {base : Reg} (hbase : regGet t.gpr base = regGet s.gpr base)
    (offset : BitVec 16) : t.effAddr base offset = s.effAddr base offset := by
  have hread : t.getGpr base = s.getGpr base := by
    rw [State.getGpr, State.getGpr, State.readGpr_pass _ (h.movedGpr [base]), State.readGpr_pass _ (h'.movedGpr [base]),
      hbase]
  rw [State.effAddr, State.effAddr, h.norm, h'.norm, hread]

/-! ### Accesses -/

theorem State.PlainUsed.translate (k : AccessKind) (a : Dword) :
    s.translate k a = .ok (a.toNat, s.env.typeOf s.env.accessType) := h.plain.translateFor k a a

theorem State.PlainUsed.cached : (s.env.typeOf s.env.accessType).cached = true := by
  have hc : s.env.accessType.cached = true := h.plain.cached
  unfold Env.typeOf
  split
  · rfl
  · exact hc

/-- Every access goes through. -/
theorem State.PlainUsed.dataBytes (k : AccessKind) (a : Dword) (back n : Nat) :
    s.dataBytes k a back n = .ok (s.bytesFrom (a.toNat - back) n (s.env.typeOf s.env.accessType)) := by
  have hphys := (State.physBytes_element k a (.inl h.is64)).trans (State.elementBytes_ok back n (h.translate k a))
  have hbus : s.env.busErrors = [] := h.plain.bus
  rw [(State.dataBytes_translated hphys).2 ?uniform, if_neg (by simp [State.busHits, hbus])]
  case uniform =>
    intro e he b hb _
    obtain ⟨i, -, rfl⟩ := List.mem_map.mp hb
    exact (h.types e he).symm

theorem State.PlainUsed.bytesFrom_places (p n : Nat) (ty : AccessType) :
    (s.bytesFrom p n ty).map Prod.fst = (List.range n).map (p + ·) := by
  have hflip : ∀ q, s.flip q = q := h.plain.flip
  simp [State.bytesFrom, hflip]

/-- It reaches the bytes of its addresses. -/
theorem State.PlainUsed.reaches (k : AccessKind) (a : Dword) (back n : Nat) :
    s.Reaches k a back n ((List.range n).map (a.toNat - back + ·)) :=
  ⟨_, h.dataBytes k a back n, h.bytesFrom_places _ _ _⟩

end

theorem snd_of_mem_noteBytes {e : Env} {noted l : List (Nat × AccessType)} {ty : AccessType}
    (hnoted : ∀ x ∈ noted, x.2 = ty) (hl : ∀ x ∈ l, x.2 = ty) : ∀ x ∈ noteBytes e noted l, x.2 = ty := by
  intro x hx
  unfold noteBytes at hx
  split at hx
  · exact hnoted x hx
  · obtain hnew | hold := List.mem_append.mp hx
    · exact hl x (List.mem_of_mem_filter hnew)
    · exact hnoted x hold

/-- An access in a plain environment is what `f` makes of the bytes of its addresses, and leaves it plain. -/
theorem State.PlainUsed.completes_access {s : State} (h : s.PlainUsed) {k : AccessKind} {a : Dword} {back n : Nat}
    {w : List Part} {post : State → Prop} {f : List Nat → State}
    (hf : Completes s (.next (f ((List.range n).map (a.toNat - back + ·)))) w post)
    (hp : ∀ l u, post u → post (u.noteTypes l))
    (htyped : ∀ ps, (f ps).typed = s.typed) (htrackers : ∀ ps, (f ps).hazards = Hazards.empty) :
    Completes s (s.access k a back n f) w fun t => post t ∧ t.PlainUsed := by
  unfold State.access
  rw [h.dataBytes k a back n]
  simp only [h.bytesFrom_places]
  obtain ⟨t, hnext, hframe, hadvanced, hpost⟩ := hf.noteTypes _ (hp _ _)
  refine ⟨t, hnext, hframe, hadvanced, hpost, ?_⟩
  cases hnext
  refine h.of_env hframe.env.1 (htrackers _) (snd_of_mem_noteBytes ?_ ?_)
  · exact htyped _ ▸ h.types
  · intro x hx
    obtain ⟨i, -, rfl⟩ := List.mem_map.mp hx
    rfl

end Sys2Proof.Machine
end

section
/-! PROOFS. LWL, then LWR, in a plain big-endian environment (40_cpu_load_store.md R215, R216, R223, R224). -/

namespace Sys2Proof.Machine

/-! ### The bits of a merged register -/

theorem getLsbD_lowWord (v : Dword) {i : Nat} (hi : i < 32) : (lowWord v).getLsbD i = v.getLsbD i := by
  simp [lowWord, hi]

theorem getLsbD_sextWord (w : Word) {i : Nat} (hi : i < 64) : (sextWord w).getLsbD i = w.getLsbD (min i 31) := by
  rw [sextWord, BitVec.getLsbD_signExtend, BitVec.msb_eq_getLsbD_last]
  by_cases h32 : i < 32
  · simp only [hi, h32, decide_true, Bool.true_and, if_true, show min i 31 = i by omega]
  · simp only [hi, h32, decide_true, Bool.true_and, if_false, show min i 31 = 32 - 1 by omega]

theorem lowWord_setWidth (w : Word) : lowWord (w.setWidth 64) = w :=
  BitVec.eq_of_getLsbD_eq fun i hi => by simp [getLsbD_lowWord _ hi, show i < 64 by omega]

theorem getLsbD_of_toNat_lt {v : Dword} {n i : Nat} (hv : v.toNat < 2 ^ n) (hi : n ≤ i) : v.getLsbD i = false :=
  Nat.testBit_lt_two_pow (hv.trans_le (Nat.pow_le_pow_right two_pos hi))

theorem getLsbD_lowMask {m : Nat} (hm : m < 64) (i : Nat) : ((1#64 <<< m) - 1).getLsbD i = decide (i < m) := by
  change ((1#64 <<< m) - 1#64).toNat.testBit i = _
  have hpow : 2 ^ m < 2 ^ 64 := Nat.pow_lt_pow_right (by omega) hm
  have hone : (1#64 <<< m).toNat = 2 ^ m := by
    rw [BitVec.toNat_shiftLeft, Nat.shiftLeft_eq, BitVec.toNat_ofNat, Nat.mod_eq_of_lt (by omega : 1 < 2 ^ 64), one_mul,
      Nat.mod_eq_of_lt hpow]
  have hmask : ((1#64 <<< m) - 1#64).toNat = 2 ^ m - 1 := by
    rw [BitVec.toNat_sub_of_le (by rw [BitVec.le_def, hone]; exact Nat.one_le_two_pow), hone]
    rfl
  rw [hmask, Nat.testBit_two_pow_sub_one]

/-- After a left merge the lowest bits are those of before, and the value stands above them. -/
theorem getLsbD_mergeLeft {unit n : Nat} (v old : Dword) {i : Nat} (hn : 8 * (unit - n) < 64) (hi : i < 64) :
    (mergeLeft unit n v old).getLsbD i =
      if i < 8 * (unit - n) then old.getLsbD i else v.getLsbD (i - 8 * (unit - n)) := by
  rw [mergeLeft, BitVec.getLsbD_or, BitVec.getLsbD_shiftLeft, BitVec.getLsbD_and, getLsbD_lowMask hn]
  split <;> simp [*]

/-- After a right merge the value stands in its `n` bytes, and above them is what was there. -/
theorem getLsbD_mergeRight {n : Nat} {v : Dword} (old : Dword) {i : Nat} (hv : v.toNat < 2 ^ (8 * n)) (hi : i < 64) :
    (mergeRight n v old).getLsbD i = if i < 8 * n then v.getLsbD i else old.getLsbD i := by
  rw [mergeRight, BitVec.getLsbD_or, BitVec.getLsbD_shiftLeft, BitVec.getLsbD_ushiftRight]
  split
  · simp [*]
  next hge =>
    rw [getLsbD_of_toNat_lt hv (by omega), Bool.or_false]
    simp [hi, hge, show 8 * n + (i - 8 * n) = i by omega]

/-! ### The word of two parts -/

/-- With fewer than four bytes merged into it, a sign-extended word stays one. -/
theorem mergeRight_sextWord {n : Nat} (hn : n < 4) {v : Dword} (hv : v.toNat < 2 ^ (8 * n)) (w : Word) :
    mergeRight n v (sextWord w) = sextWord (lowWord (mergeRight n v (sextWord w))) := by
  refine BitVec.eq_of_getLsbD_eq fun i hi => ?_
  rw [getLsbD_sextWord _ hi, getLsbD_lowWord _ (by omega), getLsbD_mergeRight _ hv hi, getLsbD_mergeRight _ hv (by omega),
    getLsbD_sextWord _ hi, getLsbD_sextWord _ (by omega)]
  by_cases h8 : i < 8 * n
  · rw [if_pos h8, if_pos (by omega), show min i 31 = i by omega]
  · rw [if_neg h8, if_neg (by omega), show min (min i 31) 31 = min i 31 by omega]

/-- An LWR that did not load the whole word leaves a sign-extended word, whatever LwrUpperBits says. -/
theorem State.lwrResult_sextWord (s : State) {n : Nat} (hn : n < 4) {v : Dword} (hv : v.toNat < 2 ^ (8 * n)) (w : Word) :
    s.lwrResult n v (sextWord w) = sextWord (lowWord (mergeRight n v (sextWord w))) := by
  unfold State.lwrResult
  dsimp only
  split
  · rfl
  · split
    · exact mergeRight_sextWord hn hv w
    · rfl

/-- Right bytes `v` after left bytes `u` give the word of both. -/
theorem lowWord_mergeRight_mergeLeft {n : Nat} (hn : n < 4) (u old : Dword) {v : Dword} (hv : v.toNat < 2 ^ (8 * n)) :
    lowWord (mergeRight n v (sextWord (lowWord (mergeLeft 4 (4 - n) u old)))) = lowWord ((u <<< (8 * n)) ||| v) := by
  refine BitVec.eq_of_getLsbD_eq fun i hi => ?_
  have hunit : 4 - (4 - n) = n := by omega
  rw [getLsbD_lowWord _ hi, getLsbD_lowWord _ hi, getLsbD_mergeRight _ hv (by omega), getLsbD_sextWord _ (by omega),
    show min i 31 = i by omega, getLsbD_lowWord _ hi, getLsbD_mergeLeft _ _ (by omega) (by omega), hunit,
    BitVec.getLsbD_or, BitVec.getLsbD_shiftLeft]
  split
  · simp [*]
  next hge =>
    rw [getLsbD_of_toNat_lt hv (by omega), Bool.or_false]
    simp [hge, show i < 64 by omega]

/-- LWR of a whole word leaves it sign-extended. -/
theorem State.lwrResult_whole (s : State) {v : Dword} (hv : v.toNat < 2 ^ (8 * 4)) (old : Dword) :
    s.lwrResult 4 v old = sextWord (lowWord v) := by
  have hlow : lowWord (mergeRight 4 v old) = lowWord v := BitVec.eq_of_getLsbD_eq fun i hi => by
    rw [getLsbD_lowWord _ hi, getLsbD_lowWord _ hi, getLsbD_mergeRight _ hv (by omega), if_pos (by omega)]
  rw [State.lwrResult, hlow]
  rfl

theorem bigEndianValue_append (bs cs : List Byte) :
    bigEndianValue (bs ++ cs) = (bigEndianValue bs <<< (8 * cs.length)) ||| bigEndianValue cs := by
  induction cs using List.reverseRecOn with
  | nil => simp [bigEndianValue]
  | append_singleton cs c ih =>
    rw [← List.append_assoc, bigEndianValue_concat, bigEndianValue_concat, ih, BitVec.shiftLeft_or_distrib,
      ← BitVec.shiftLeft_add, BitVec.or_assoc, List.length_append, List.length_singleton, Nat.mul_add]

/-- What LWL of the first bytes of a word and then LWR of the others leave. -/
theorem State.lwrResult_after_lwl (s : State) (l r : List Byte) (hl : 0 < l.length) (hlen : l.length + r.length = 4)
    (old : Dword) :
    s.lwrResult r.length (bigEndianValue r) (sextWord (lowWord (mergeLeft 4 l.length (bigEndianValue l) old))) =
      sextWord (lowWord (bigEndianValue (l ++ r))) := by
  have hr : r.length < 4 := by omega
  have hvalue := bigEndianValue_lt (bs := r) (by omega)
  rw [State.lwrResult_sextWord s hr hvalue, show l.length = 4 - r.length by omega,
    lowWord_mergeRight_mergeLeft hr _ _ hvalue, bigEndianValue_append]

/-! ### The bytes of memory -/

/-- The `n` bytes of memory from `p` on. -/
def memBytes (m : List Host.Cell) (p n : Nat) : List Byte := (List.range n).map fun i => memRead m (p + i)

@[simp] theorem memBytes_length (m : List Host.Cell) (p n : Nat) : (memBytes m p n).length = n := by simp [memBytes]

theorem memBytes_append (m : List Host.Cell) (p k n : Nat) :
    memBytes m p k ++ memBytes m (p + k) n = memBytes m p (k + n) := by
  simp [memBytes, List.range_add, Nat.add_assoc]

theorem memBytes_congr {m m' : List Host.Cell} (h : ∀ x, memRead m x = memRead m' x) (p n : Nat) :
    memBytes m p n = memBytes m' p n := by simp [memBytes, h]

theorem sextWord_memBytes (m : List Host.Cell) (p : Nat) : sextWord (lowWord (bigEndianValue (memBytes m p 4))) =
    (memRead m p ++ memRead m (p + 1) ++ memRead m (p + 2) ++ memRead m (p + 3) : BitVec (8 + 8 + 8 + 8)).signExtend 64 := by
  have hbytes : memBytes m p 4 = [memRead m p, memRead m (p + 1), memRead m (p + 2), memRead m (p + 3)] := rfl
  rw [hbytes, bigEndianValue_four]
  exact congrArg sextWord (lowWord_setWidth _)

/-- LWL at `p` takes the bytes up to the end of the aligned word there, LWR at `p + 3` the rest of the four, or all of
them when `p` is aligned (40_cpu_load_store.md R223, R224). -/
theorem State.lwrResult_lwl_memBytes (s : State) (m : List Host.Cell) (p : Nat) (old : Dword) :
    s.lwrResult ((p + 3) % 4 + 1) (bigEndianValue (memBytes m (p + 3 - (p + 3) % 4) ((p + 3) % 4 + 1)))
        (sextWord (lowWord (mergeLeft 4 (4 - p % 4) (bigEndianValue (memBytes m p (4 - p % 4))) old))) =
      sextWord (lowWord (bigEndianValue (memBytes m p 4))) := by
  by_cases hp : p % 4 = 0
  · rw [show (p + 3) % 4 = 3 by omega, show p + 3 - 3 = p by omega]
    exact s.lwrResult_whole (by simpa using bigEndianValue_lt (bs := memBytes m p 4) (by simp)) _
  · have hparts := s.lwrResult_after_lwl (memBytes m p (4 - p % 4)) (memBytes m (p + (4 - p % 4)) (p % 4))
      (by rw [memBytes_length]; omega) (by simp only [memBytes_length]; omega) old
    rw [memBytes_append, memBytes_length, memBytes_length, show 4 - p % 4 + p % 4 = 4 by omega] at hparts
    rw [show (p + 3) % 4 + 1 = p % 4 by omega, show p + 3 - (p + 3) % 4 = p + (4 - p % 4) by omega, hparts]

/-! ### The instructions -/

section
variable {s : State} (h : s.PlainUsed)
include h

theorem State.PlainUsed.memValue (p n : Nat) :
    s.memValue ((List.range n).map (p + ·)) = bigEndianValue (memBytes s.mem p n) := by
  rw [State.memValue, h.bigEndianCPU, joinBytes_eq, if_pos rfl, List.map_map]
  rfl

/-- A load of part of a unit merges the bytes it reaches into rt. -/
theorem State.PlainUsed.completes_loadPart {rt : Reg} (hrt : rt ≠ 0) (span : Nat × Nat) (base : Reg) (offset : BitVec 16)
    (merge : Nat → Dword → Dword → Dword) :
    Completes s (s.loadPart span base rt offset merge) [.gpr rt] fun t =>
      regGet t.gpr rt = merge span.2
        (bigEndianValue (memBytes s.mem ((s.effAddr base offset).toNat - span.1) span.2)) (regGet s.gpr rt) ∧
      t.PlainUsed := by
  have htracker : s.loadHazard rt = Hazards.empty := by simp [State.loadHazard, h.archLevel, Hazards.empty]
  have hwrites := h.completes_access (k := .load) (a := s.effAddr base offset) (back := span.1) (n := span.2)
    (f := fun ps => (s.setGpr rt (s.result [base, rt] (merge span.2 (s.memValue ps) (s.getGpr2 rt)))).retireWith
      (s.loadHazard rt) .none)
    (writesGpr_retireWith s rt _ _ _) (fun _ _ hu => hu) (fun _ => by simp) fun _ => htracker
  refine hwrites.mono (List.Subset.refl _) fun t ⟨hvalue, ht⟩ => ⟨?_, ht⟩
  rw [hvalue, if_neg hrt, h.norm, State.result_pass _ (h.movedGpr _), h.memValue, h.getGpr2 hrt]

theorem State.PlainUsed.completes_lwl {rt : Reg} (hrt : rt ≠ 0) (base : Reg) (offset : BitVec 16) {p : Nat}
    (hp : (s.effAddr base offset).toNat = p) :
    Completes s (exec (.lwl base rt offset) s) [.gpr rt] fun t =>
      regGet t.gpr rt = sextWord (lowWord (mergeLeft 4 (4 - p % 4) (bigEndianValue (memBytes s.mem p (4 - p % 4)))
        (regGet s.gpr rt))) ∧ t.PlainUsed := by
  rw [exec_lwl, h.bigEndianCPU, hp]
  exact hp ▸ h.completes_loadPart hrt (leftSpan true 4 (p % 4)) base offset _

theorem State.PlainUsed.completes_lwr {rt : Reg} (hrt : rt ≠ 0) (base : Reg) (offset : BitVec 16) {p : Nat}
    (hp : (s.effAddr base offset).toNat = p) :
    Completes s (exec (.lwr base rt offset) s) [.gpr rt] fun t =>
      regGet t.gpr rt = s.lwrResult (p % 4 + 1) (bigEndianValue (memBytes s.mem (p - p % 4) (p % 4 + 1)))
        (regGet s.gpr rt) ∧ t.PlainUsed := by
  rw [exec_lwr, h.bigEndianCPU, hp]
  exact hp ▸ h.completes_loadPart hrt (rightSpan true 4 (p % 4)) base offset _

/-- Three more in the offset is three more in the address. -/
theorem State.PlainUsed.effAddr_add_three (base : Reg) {offset : BitVec 16} (hoffset : offset.toInt + 3 < 2 ^ 15)
    (haddr : (s.effAddr base offset).toNat + 3 < 2 ^ 64) :
    (s.effAddr base (offset + 3)).toNat = (s.effAddr base offset).toNat + 3 := by
  have himm : immS (offset + 3) = immS offset + 3 := by
    have hlow := offset.le_toInt
    refine BitVec.eq_of_toInt_eq ?_
    rw [immS, immS, BitVec.toInt_add, BitVec.toInt_signExtend_of_le (by omega), BitVec.toInt_signExtend_of_le (by omega),
      BitVec.toInt_add, show (3 : BitVec 16).toInt = 3 by decide, show (3 : BitVec 64).toInt = 3 by decide,
      Int.bmod_eq_of_le (by omega) (by omega), Int.bmod_eq_of_le (by omega) (by omega)]
  have hadd : s.effAddr base (offset + 3) = s.effAddr base offset + 3 := by
    rw [State.effAddr, State.effAddr, h.norm, h.norm, himm, BitVec.add_assoc]
  rw [hadd, BitVec.toNat_add, show (3 : BitVec 64).toNat = 3 by decide, Nat.mod_eq_of_lt haddr]

end

/-- Settles O32: LWL leaves the environment plain and base as it was, so LWR finds the rest of the four bytes. -/
theorem lwlThenLwrLoadsAnUnalignedWord : Obligations.LwlThenLwrLoadsAnUnalignedWord := by
  unfold Obligations.LwlThenLwrLoadsAnUnalignedWord
  intro s base rt offset hplain hrt hbase a haddr hoffset
  have hs := hplain.used
  obtain ⟨t, hlwl, hleft, -, hleftValue, ht⟩ := hs.completes_lwl hrt base offset (p := a.toNat) rfl
  have hbaseSame : regGet t.gpr base = regGet s.gpr base := hleft.gpr base (by simpa using hbase.symm)
  have hright : (t.effAddr base (offset + 3)).toNat = a.toNat + 3 := by
    rw [hs.effAddr_congr ht hbaseSame]
    exact hs.effAddr_add_three base hoffset haddr
  obtain ⟨u, hlwr, hlast, -, hvalue, -⟩ := ht.completes_lwr hrt base (offset + 3) hright
  have hmemLeft : ∀ x, memRead t.mem x = memRead s.mem x := fun x => hleft.byte x (by simp)
  refine ⟨t, u, hlwl, hlwr, ?_, fun x => (hlast.byte x (by simp)).trans (hmemLeft x)⟩
  rw [hvalue, hleftValue, memBytes_congr hmemLeft, State.lwrResult_lwl_memBytes, sextWord_memBytes]

end Sys2Proof.Machine
end

section
/-! PROOFS. LL, then SC, in a plain environment (20_memory.md R138, 40_cpu_load_store.md R227, R229, R230, R232, D24). -/

namespace Sys2Proof.Machine

/-! ### The shared operations once their tests are passed -/

section
variable {s : State} {n : Nat} {base rt : Reg} {offset : BitVec 16} {pa : Nat} {ty : AccessType}

/-- A linked load at an aligned cached address. -/
theorem State.loadLinked_pass (ext : Dword → Dword) (ha : alignedAt n (s.effAddr base offset)) (ho : s.offsetOk n offset)
    (htr : s.translate .load (s.effAddr base offset) = .ok (pa, ty)) (hc : ty.cached = true) :
    s.loadLinked n base rt offset ext = s.access .load (s.effAddr base offset) 0 (2 ^ n) fun ps =>
      { (s.setGpr rt (s.result [base] (ext (s.memValue ps)))).retire with
        llbit := true, llRecord := some ⟨s.effAddr base offset, pa, ty, decide (n = 3)⟩ } := by
  refine (State.needAligned_pass _ ha).trans ((State.needOffset_pass _ ho).trans ((State.orRaise_ok _ htr).trans ?_))
  exact if_neg (by simp [hc])

/-- A store-conditional at an aligned cached address while LLbit is set and the link is the one for this access. -/
theorem State.storeConditional_linked (ha : alignedAt n (s.effAddr base offset)) (ho : s.offsetOk n offset)
    (htr : s.translate .store (s.effAddr base offset) = .ok (pa, ty)) (hc : ty.cached = true) (hbit : s.llbit = true)
    (hlink : s.llRecord = some ⟨s.effAddr base offset, pa, ty, decide (n = 3)⟩) :
    s.storeConditional n base rt offset = s.access .store (s.effAddr base offset) 0 (2 ^ n) fun ps =>
      { ((s.storeBytes ps (s.getGpr2 rt)).setGpr rt 1).retire with llbit := false } := by
  refine (State.needAligned_pass _ ha).trans ((State.needOffset_pass _ ho).trans ((State.orRaise_ok _ htr).trans ?_))
  exact (if_neg (by simp [hc])).trans ((if_neg (by simp [State.linkBroken, hlink])).trans (if_pos hbit))

/-- A store-conditional at an aligned cached address whose link is broken: LLbit is clear after a linked load. -/
theorem State.storeConditional_unlinked (ha : alignedAt n (s.effAddr base offset)) (ho : s.offsetOk n offset)
    (htr : s.translate .store (s.effAddr base offset) = .ok (pa, ty)) (hc : ty.cached = true) (hbit : s.llbit = false)
    (hlink : s.llRecord ≠ none) :
    s.storeConditional n base rt offset = .next { (s.setGpr rt 0).retire with llbit := false } := by
  refine (State.needAligned_pass _ ha).trans ((State.needOffset_pass _ ho).trans ((State.orRaise_ok _ htr).trans ?_))
  exact (if_neg (by simp [hc])).trans ((if_neg (by simp [State.linkBroken, hlink, hbit])).trans (if_neg (by simp [hbit])))

end

/-! ### Completion -/

/-- Writing LLbit and the record of the link beside what an instruction completes with. -/
theorem Completes.setLink {s u : State} {w : List Part} {post : State → Prop} (h : Completes s (.next u) w post)
    (hw : .link ∈ w) (b : Bool) (r : Option LinkRecord) (hp : ∀ t, post t → post { t with llbit := b, llRecord := r }) :
    Completes s (.next { u with llbit := b, llRecord := r }) w fun t => post t ∧ t.llbit = b ∧ t.llRecord = r := by
  obtain ⟨t, hnext, hframe, hadvanced, hpost⟩ := h
  cases hnext
  have hlink : Frame u { u with llbit := b, llRecord := r } w := by constructor <;> simp [hw]
  exact ⟨_, rfl, hframe.trans hlink, ⟨hadvanced.pc, hadvanced.delay, hadvanced.afterBranch, hadvanced.recentMF⟩,
    hp _ hpost, rfl, rfl⟩

/-- The bytes stored of a word, one by one. -/
theorem memRead_of_wordStored {m : List Host.Cell} {p : Nat} {v : Dword}
    (h : ((List.range 4).map (p + ·)).map (memRead m) = splitBytes true 4 v) {i : Nat} (hi : i < 4) :
    memRead m (p + i) = v.extractLsb' (24 - 8 * i) 8 := by
  have hbyte := getElem_splitBytes true v (show 3 - i < 4 by omega)
  rw [if_pos rfl, ← h, show 4 - 1 - (3 - i) = i by omega, show 8 * (3 - i) = 24 - 8 * i by omega] at hbyte
  simpa [hi] using hbyte

/-- The link that LL records in a plain environment. -/
def State.wordLink (s : State) (a : Dword) : LinkRecord := ⟨a, a.toNat, s.env.typeOf s.env.accessType, false⟩

section
variable {s : State} (h : s.PlainUsed) {base : Reg} {offset : BitVec 16} (ha : alignedAt 2 (s.effAddr base offset))
  (ho : offset.toNat % 4 = 0)
include h ha ho

theorem State.PlainUsed.completes_ll (rt : Reg) :
    Completes s (exec (.ll base rt offset) s) [.gpr rt, .link] fun t =>
      (t.llbit = true ∧ t.llRecord = some (s.wordLink (s.effAddr base offset))) ∧ t.PlainUsed := by
  rw [exec_ll base rt offset (by rw [h.archLevel]; decide),
    State.loadLinked_pass _ ha (fun _ => ho) (h.translate _ _) h.cached]
  refine h.completes_access ?_ (fun _ _ hu => hu) (fun _ => by simp) fun _ => rfl
  have hload : ∀ v, Completes s (.next (s.setGpr rt v).retire) [.gpr rt, .link] fun _ => True := fun v =>
    (writesGpr_writeGpr s rt v).mono (by simp) fun _ _ => trivial
  exact ((hload _).setLink (by simp) true (some (s.wordLink (s.effAddr base offset))) fun _ _ => trivial).mono
    (List.Subset.refl _) fun _ ht => ht.2

/-- SC with the link of its address stores the word. -/
theorem State.PlainUsed.exec_sc_linked {ru : Reg} (hru : ru ≠ 0) (hbit : s.llbit = true)
    (hlink : s.llRecord = some (s.wordLink (s.effAddr base offset))) :
    ∃ u, exec (.sc base ru offset) s = .next u ∧ regGet u.gpr ru = 1 ∧
      ∀ i < 4, memRead u.mem ((s.effAddr base offset).toNat + i) = (regGet s.gpr ru).extractLsb' (24 - 8 * i) 8 := by
  rw [exec_sc base ru offset (by rw [h.archLevel]; decide),
    State.storeConditional_linked ha (fun _ => ho) (h.translate _ _) h.cached hbit hlink]
  have hreach := h.reaches .store (s.effAddr base offset) 0 (2 ^ 2)
  obtain ⟨t, hnext, -, -, hstored⟩ := completes_storeBytes (regGet s.gpr ru) hreach
  cases hnext
  rw [h.bigEndianCPU] at hstored
  refine ⟨_, by rw [State.access, h.dataBytes], ?_, fun i hi => ?_⟩
  · exact (regGet_setGpr (s.storeBytes _ _) ru 1).trans ((if_neg hru).trans (h.norm 1))
  · rw [h.bytesFrom_places, h.getGpr2 hru]
    simpa using memRead_of_wordStored hstored hi

/-- SC after the link was lost stores nothing. -/
theorem State.PlainUsed.completes_sc_unlinked {ru : Reg} (hru : ru ≠ 0) (hbit : s.llbit = false)
    (hlink : s.llRecord ≠ none) :
    Completes s (exec (.sc base ru offset) s) [.gpr ru, .link] fun u => regGet u.gpr ru = 0 := by
  rw [exec_sc base ru offset (by rw [h.archLevel]; decide),
    State.storeConditional_unlinked ha (fun _ => ho) (h.translate _ _) h.cached hbit hlink]
  have hwrite := (writesGpr_writeGpr s ru 0).mono (w := [.gpr ru, .link]) (q := fun u => regGet u.gpr ru = 0) (by simp)
    fun u hu => by rw [hu, if_neg hru, h.norm]
  exact (hwrite.setLink (by simp) false (s.setGpr ru 0).llRecord fun _ hu => hu).mono (List.Subset.refl _) fun _ hu => hu.1

end

/-- A store by another agent leaves a plain environment plain. -/
theorem State.PlainUsed.externalStore {s : State} (h : s.PlainUsed) (pa : Nat) (b : Byte) :
    (s.externalStore pa b).PlainUsed := h.of_env rfl h.plain.trackers h.types

/-- It clears LLbit when it is into the block of the link. -/
theorem State.PlainUsed.llbit_externalStore {s : State} (h : s.PlainUsed) {r : LinkRecord} (hlink : s.llRecord = some r)
    {pa : Nat} (hpa : pa < 2 ^ 64) (hblock : pa / s.env.llBlockSize = r.paddr / s.env.llBlockSize) (b : Byte) :
    (s.externalStore pa b).llbit = false := by
  have hsize : s.env.psize = 64 := h.plain.xlat.2.2
  refine Bool.eq_false_iff.mpr fun hbit => ?_
  obtain ⟨-, hmiss⟩ := (s.externalStore_llbit_iff pa b).mp hbit
  exact hmiss r hlink (by rw [hsize, Nat.mod_eq_of_lt hpa, hblock])

/-- Settles O35: LL leaves the environment plain and its link recorded; the other agent's store clears LLbit. -/
theorem llThenScIsAtomic : Obligations.LlThenScIsAtomic := by
  unfold Obligations.LlThenScIsAtomic
  intro s base rt ru offset pa b hplain a ha ho hbase hru hrt
  have hs := hplain.used
  obtain ⟨t, hll, hframe, -, ⟨hbit, hlink⟩, ht⟩ := hs.completes_ll ha ho rt
  have haddr : t.effAddr base offset = a := hs.effAddr_congr ht (hframe.gpr base (by simpa using hbase.symm)) offset
  have hword : regGet t.gpr ru = s.getGpr ru := by
    rw [hs.getGpr_eq_getGpr2, hs.getGpr2 hru]
    exact hframe.gpr ru (by simpa using hrt.symm)
  have henv : t.env = s.env := hframe.env.1
  refine ⟨t, hll, ?alone, fun hpa hblock => ?interrupted⟩
  case alone =>
    have hsame : t.wordLink a = s.wordLink a := by rw [State.wordLink, State.wordLink, henv]
    rw [← hword, ← haddr]
    exact ht.exec_sc_linked (haddr ▸ ha) ho hru hbit (by rw [haddr, hsame, hlink])
  case interrupted =>
    have hlost := ht.llbit_externalStore hlink hpa (by rw [henv]; exact hblock) b
    have haddr' : (t.externalStore pa b).effAddr base offset = a :=
      (ht.effAddr_congr (ht.externalStore pa b) rfl offset).trans haddr
    have hsize : t.env.psize = 64 := ht.plain.xlat.2.2
    obtain ⟨u, hsc, hrest, -, hfails⟩ := (ht.externalStore pa b).completes_sc_unlinked (haddr' ▸ ha) ho hru hlost
      (hlink.trans_ne (Option.some_ne_none _))
    refine ⟨u, hsc, hfails, fun x => ?_⟩
    rw [hrest.byte x (by simp), State.memRead_externalStore, hsize, Nat.mod_eq_of_lt hpa, hframe.byte x (by simp)]

end Sys2Proof.Machine
end

section
/-! PROOFS. The moves to and from HI and LO, and the restriction on writing HI or LO soon after a read of it
(43_cpu_muldiv.md R338, R339, R348 to R351, 70_reset_and_hazards.md R822). -/

namespace Sys2Proof.Machine

/-! ### The instructions -/

section
variable (s : State) (r : Reg)

theorem exec_mfhi : exec (.mfhi r) s =
    .next { (s.setGpr r s.hi).retireWith Hazards.empty (mfEntry r (.hi r)) with hiLoPending := false } := rfl
theorem exec_mflo : exec (.mflo r) s =
    .next { (s.setGpr r s.lo).retireWith Hazards.empty (mfEntry r (.lo r)) with hiLoPending := false } := rfl
theorem exec_mthi : exec (.mthi r) s = s.needHiLo true false (.next (s.moveToHi (s.getGpr r)).retire) := rfl
theorem exec_mtlo : exec (.mtlo r) s = s.needHiLo false true (.next (s.moveToLo (s.getGpr r)).retire) := rfl

end

/-! ### Moves from HI and LO -/

theorem mfEntry_of_ne {r : Reg} (h : r ≠ 0) (e : MfEntry) : mfEntry r e = e := if_neg h

/-- A move of `v` from HI or LO that enters `e` in the read history. -/
theorem completes_moveFrom (s : State) (r : Reg) (v : Dword) (hz : Hazards) (e : MfEntry) :
    Completes s (.next { (s.setGpr r v).retireWith hz (mfEntry r e) with hiLoPending := false }) [.gpr r, .pendingHiLo]
      fun t => regGet t.gpr r = (if r = 0 then regGet s.gpr 0 else s.norm v) ∧ t.hiLoPending = false ∧
        (r ≠ 0 → t.recentMF.last = e) := by
  obtain ⟨t, hnext, hframe, hadvanced, hvalue⟩ := writesGpr_retireWith s r v hz (mfEntry r e)
  cases hnext
  have hcleared : ∀ u : State, Frame u { u with hiLoPending := false } [.gpr r, .pendingHiLo] :=
    fun u => by constructor <;> simp
  exact ⟨_, rfl, (hframe.mono (by simp)).trans (hcleared _),
    ⟨hadvanced.pc, hadvanced.delay, hadvanced.afterBranch, hadvanced.recentMF⟩, hvalue, rfl, fun h => mfEntry_of_ne h e⟩

/-! ### Moves to HI and LO -/

section
variable (s : State) (v : Dword)

theorem State.moveToHi_hi : (s.moveToHi v).hi = s.norm v := rfl
theorem State.moveToLo_lo : (s.moveToLo v).lo = s.norm v := rfl

theorem State.moveToHi_lo (h : s.hiLoPending = false) : (s.moveToHi v).lo = s.lo := if_neg (by simp [h])
theorem State.moveToLo_hi (h : s.hiLoPending = false) : (s.moveToLo v).hi = s.hi := if_neg (by simp [h])

theorem Frame.moveToHi : Frame s (s.moveToHi v) [.hi, .lo] := by constructor <;> simp [State.moveToHi]
theorem Frame.moveToLo : Frame s (s.moveToLo v) [.hi, .lo] := by constructor <;> simp [State.moveToLo]

theorem completes_moveToHi : Completes s (.next (s.moveToHi v).retire) [.hi, .lo] fun t =>
    t.hi = s.norm v ∧ (s.hiLoPending = false → t.lo = s.lo) :=
  completes_retire (Frame.moveToHi s v) ⟨rfl, rfl, rfl⟩ ⟨s.moveToHi_hi v, s.moveToHi_lo v⟩

theorem completes_moveToLo : Completes s (.next (s.moveToLo v).retire) [.hi, .lo] fun t =>
    t.lo = s.norm v ∧ (s.hiLoPending = false → t.hi = s.hi) :=
  completes_retire (Frame.moveToLo s v) ⟨rfl, rfl, rfl⟩ ⟨s.moveToLo_lo v, s.moveToLo_hi v⟩

end

/-! ### A multiply or divide too soon after a read of HI or LO -/

section
variable {s : State} (h : ¬ s.mayWriteHiLo true true)
include h

theorem State.computeHiLo_refused (srcs : List Reg) (hi lo : Dword) :
    s.computeHiLo srcs hi lo = .refused .hiLoReadWrite := State.needHiLo_fail _ h

/-- Whether the operands are word values makes no difference. -/
theorem State.computeWordHiLo_refused (rs rt : Reg) (hi lo : Word) :
    s.computeWordHiLo rs rt hi lo = .refused .hiLoReadWrite := by
  unfold State.computeWordHiLo
  split
  · exact State.computeHiLo_refused h _ _ _
  · exact State.computeHiLo_refused h _ _ _

/-- A zero divisor makes no difference. -/
theorem State.divideHiLo_refused (srcs : List Reg) (zero : Bool) (hi lo : Dword) :
    s.divideHiLo srcs zero hi lo = .refused .hiLoReadWrite := by
  unfold State.divideHiLo
  split
  · exact State.computeHiLo_refused h _ _ _
  · exact State.computeHiLo_refused h _ _ _

theorem State.divideWordHiLo_refused (rs rt : Reg) (hi lo : Word) :
    s.divideWordHiLo rs rt hi lo = .refused .hiLoReadWrite := by
  unfold State.divideWordHiLo
  split
  · exact State.computeHiLo_refused h _ _ _
  · exact State.divideHiLo_refused h _ _ _ _

theorem wordMulDiv_refused (r q : Reg) :
    ∀ out ∈ [exec (.mult r q) s, exec (.multu r q) s, exec (.div r q) s, exec (.divu r q) s],
      out = .refused .hiLoReadWrite := by
  simp only [List.forall_mem_cons, List.not_mem_nil, false_implies, implies_true, and_true]
  exact ⟨State.computeWordHiLo_refused h _ _ _ _, State.computeWordHiLo_refused h _ _ _ _,
    State.divideWordHiLo_refused h _ _ _ _, State.divideWordHiLo_refused h _ _ _ _⟩

theorem dwordMulDiv_refused (h3 : 3 ≤ s.env.archLevel) (r q : Reg) :
    ∀ out ∈ [exec (.dmult r q) s, exec (.dmultu r q) s, exec (.ddiv r q) s, exec (.ddivu r q) s],
      out = .refused .hiLoReadWrite := by
  simp only [List.forall_mem_cons, List.not_mem_nil, false_implies, implies_true, and_true]
  exact ⟨(State.needLevel_pass _ h3).trans (State.computeHiLo_refused h _ _ _),
    (State.needLevel_pass _ h3).trans (State.computeHiLo_refused h _ _ _),
    (State.needLevel_pass _ h3).trans (State.divideHiLo_refused h _ _ _ _),
    (State.needLevel_pass _ h3).trans (State.divideHiLo_refused h _ _ _ _)⟩

end

/-- Settles O24: each move completes once the restriction on the registers it writes is passed, and every writer of HI or LO
that breaks it is refused whatever its operands are. -/
theorem hiLoMovesFollowTheOrderingRules : Obligations.HiLoMovesFollowTheOrderingRules := by
  unfold Obligations.HiLoMovesFollowTheOrderingRules
  intro s r q
  rw [exec_mfhi, exec_mflo, exec_mthi, exec_mtlo]
  refine ⟨completes_moveFrom s r s.hi _ (.hi r), completes_moveFrom s r s.lo _ (.lo r), fun hmay => ?hi, fun hmay => ?lo,
    State.needHiLo_fail _, State.needHiLo_fail _, fun h => ⟨wordMulDiv_refused h r q, fun h3 => dwordMulDiv_refused h h3 r q⟩⟩
  case hi => rw [State.needHiLo_pass _ hmay]; exact completes_moveToHi s (s.getGpr r)
  case lo => rw [State.needHiLo_pass _ hmay]; exact completes_moveToLo s (s.getGpr r)

end Sys2Proof.Machine
end

section
/-! PROOFS. The CPU jumps and branches outside the slot of a taken branch, and every jump and branch in it
(44_cpu_jump_branch.md R361 to R367, R370 to R389, 49_fpu_convert_move_branch.md R659 to R663). -/

namespace Sys2Proof.Machine

/-! ### Targets -/

/-- The offset field with two zero bits below it is four times the offset (R363). -/
theorem signExtend_append_zeros (offset : BitVec 16) :
    (offset ++ 0#2).signExtend 64 = BitVec.ofInt 64 (4 * offset.toInt) := by
  have happend : (offset ++ 0#2).toInt = 4 * offset.toInt := by
    rw [BitVec.toInt_eq_toNat_cond, BitVec.toInt_eq_toNat_cond, BitVec.toNat_append]
    simp only [BitVec.toNat_ofNat, Nat.zero_mod, Nat.or_zero, Nat.shiftLeft_eq]
    omega
  rw [BitVec.signExtend, happend]

theorem State.branchTarget_eq (s : State) (offset : BitVec 16) :
    s.branchTarget offset = s.norm (s.pcPlus4 + BitVec.ofInt 64 (4 * offset.toInt)) := by
  rw [State.branchTarget, signExtend_append_zeros]

/-- Bits 1..0 of a jump target are zero, bits 27..2 the index, bits 63..28 those of the slot's address (R364). -/
theorem State.jumpTarget_eq (s : State) (index : BitVec 26) :
    s.jumpTarget index = (s.pcPlus4 &&& ~~~0xFFFFFFF#64) ||| (index.setWidth 64 <<< 2) := by
  have hregion : ~~~0xFFFFFFF#64 = BitVec.allOnes 64 <<< 28 := by decide
  rw [hregion]
  refine BitVec.eq_of_getLsbD_eq fun i hi => ?_
  simp only [State.jumpTarget, BitVec.getLsbD_append, BitVec.getLsbD_extractLsb', BitVec.getLsbD_or, BitVec.getLsbD_and,
    BitVec.getLsbD_shiftLeft, BitVec.getLsbD_allOnes, BitVec.getLsbD_setWidth, BitVec.getLsbD_zero]
  obtain hzeros | hindex | hslot : i < 2 ∨ (2 ≤ i ∧ i < 28) ∨ 28 ≤ i := by omega
  · simp [hzeros, show i < 28 by omega]
  · simp [hi, hindex, show ¬ i < 2 by omega, show i - 2 < 26 by omega, show i - 2 < 64 by omega]
  · have hout : index.getLsbD (i - 2) = false := BitVec.getLsbD_of_ge _ _ (by omega)
    simp [hi, hout, show ¬ i < 2 by omega, show ¬ i < 28 by omega, show ¬ i - 2 < 26 by omega,
      show i - 2 - 26 < 36 by omega, show 28 + (i - 2 - 26) = i by omega, show i - 28 < 64 by omega]

/-! ### Comparisons with zero -/

theorem isNegative_eq (v : Dword) : isNegative v = decide (v.toInt < 0) := by
  rw [isNegative, ← BitVec.msb_eq_toInt, BitVec.msb_eq_getLsbD_last]

theorem not_isNegative_eq (v : Dword) : (!isNegative v) = decide (0 ≤ v.toInt) := by
  rw [isNegative_eq, ← decide_not]
  exact decide_eq_decide.mpr Int.not_lt

theorem isPositive_eq (v : Dword) : isPositive v = decide (0 < v.toInt) := by
  have hzero : v = 0 ↔ v.toInt = 0 := BitVec.toInt_inj.symm
  have hsign : v.getLsbD 63 = decide (v.toInt < 0) := isNegative_eq v
  rw [isPositive, hsign, Bool.eq_iff_iff]
  simp only [Bool.and_eq_true, Bool.not_eq_true', decide_eq_false_iff_not, bne_iff_ne, ne_eq, hzero, decide_eq_true_eq]
  omega

theorem not_isPositive_eq (v : Dword) : (!isPositive v) = decide (v.toInt ≤ 0) := by
  rw [isPositive_eq, ← decide_not]
  exact decide_eq_decide.mpr Int.not_lt

/-! ### Branches outside a taken slot -/

/-- An instruction of MIPS `n` of which `P` holds once its level test is passed. -/
theorem leveled_of_passed {s : State} {n : Nat} {k : Out} (P : Out → Prop) (h : P k) :
    Leveled s n (s.needLevel n k) (P (s.needLevel n k)) :=
  leveled fun _ hpass => hpass.symm ▸ h

/-- A fact that does not speak of the next state. -/
theorem Branches.and_const {s : State} {out : Out} {w : List Part} {taken likely : Bool} {target : Dword} {q : Prop}
    (h : Branches s out w taken likely target fun _ => True) (hq : q) :
    Branches s out w taken likely target fun _ => True ∧ q :=
  let ⟨t, hnext, hframe, hpc, hdelay, hafter, hpost⟩ := h
  ⟨t, hnext, hframe, hpc, hdelay, hafter, hpost, hq⟩

/-- A branch whose test `c` is the comparison `p`. -/
theorem branches_of_test {s : State} (h : s.notInTakenSlot) {c : Bool} {p : Prop} [Decidable p] (hc : c = decide p)
    (likely : Bool) (offset : BitVec 16) :
    Branches s (s.notInSlot (.next (s.branchIf c likely offset))) [] (decide p) likely (s.branchTarget offset)
      fun _ => True := by
  rw [State.notInSlot_pass _ h, hc]
  exact branches_branchIf (.refl s _) (.refl s) _ _ _ trivial

/-- A branch-likely whose test `c` is the comparison `p`. -/
theorem leveled_branches_of_test {s : State} (h : s.notInTakenSlot) {c : Bool} {p : Prop} [Decidable p]
    (hc : c = decide p) (offset : BitVec 16) :
    Leveled s 2 (s.needLevel 2 (s.notInSlot (.next (s.branchIf c true offset))))
      (Branches s (s.needLevel 2 (s.notInSlot (.next (s.branchIf c true offset)))) [] (decide p) true
        (s.branchTarget offset) fun _ => True) :=
  leveled_of_passed (fun out => Branches s out [] (decide p) true (s.branchTarget offset) fun _ => True)
    (branches_of_test h hc true offset)

/-- Settles O39: each branch is `branchIf` of a test, and the test is the comparison. In the statement the condition on the
next state of each ordinary branch reaches to the end, so the remaining branches stand inside it (`Branches.and_const`). -/
theorem conditionalBranchesTestAndBranch : Obligations.ConditionalBranchesTestAndBranch := by
  unfold Obligations.ConditionalBranchesTestAndBranch
  intro s rs rt offset h
  rw [← State.branchTarget_eq]
  intro target
  have hne : (s.getGpr rs != s.getGpr2 rt) = decide (s.getGpr rs ≠ s.getGpr2 rt) := decide_not.symm
  have hle := not_isPositive_eq (s.getGpr rs)
  have hgt := isPositive_eq (s.getGpr rs)
  have hlt := isNegative_eq (s.getGpr rs)
  have hge := not_isNegative_eq (s.getGpr rs)
  have hbeql : Leveled s 2 (exec (.beql rs rt offset) s) _ :=
    ⟨State.needLevel_fail _, fun hlevel => exec_beql h hlevel rs rt offset⟩
  refine (exec_beq h rs rt offset).and_const ⟨hbeql, ?_⟩
  refine (branches_of_test h hne false offset).and_const ⟨leveled_branches_of_test h hne offset, ?_⟩
  refine (branches_of_test h hle false offset).and_const ⟨leveled_branches_of_test h hle offset, ?_⟩
  refine (branches_of_test h hgt false offset).and_const ⟨leveled_branches_of_test h hgt offset, ?_⟩
  refine (branches_of_test h hlt false offset).and_const ⟨leveled_branches_of_test h hlt offset, ?_⟩
  exact (branches_of_test h hge false offset).and_const (leveled_branches_of_test h hge offset)

/-! ### Links -/

@[simp] theorem State.branchIf_gpr (s : State) (c l : Bool) (o : BitVec 16) : (s.branchIf c l o).gpr = s.gpr := by
  unfold State.branchIf
  split
  · exact s.takeBranch_gpr _
  · split
    · exact s.nullifyNext_gpr
    · exact s.fallThrough_gpr

/-- Written to register 0 the link is discarded (R51). -/
theorem regGet_setGpr_link (s : State) (r : Reg) :
    regGet (s.setGpr r s.link).gpr r = if r = 0 then regGet s.gpr 0 else s.norm (s.pc + 8) := by
  rw [regGet_setGpr, State.link, State.norm_norm]

theorem regGet_setGpr_link_31 (s : State) : regGet (s.setGpr 31 s.link).gpr 31 = s.norm (s.pc + 8) :=
  (regGet_setGpr_link s 31).trans (if_neg (by decide))

theorem exec_jalr_ne {s : State} {rs rd : Reg} (hne : rs ≠ rd) :
    exec (.jalr rs rd) s = s.notInSlot (.next ((s.setGpr rd s.link).takeBranch (s.getGpr rs))) :=
  congrArg s.notInSlot (if_neg hne)

section
variable {s : State} (h : s.notInTakenSlot)
include h

theorem branches_jump (target : Dword) :
    Branches s (s.notInSlot (.next (s.takeBranch target))) [] true false target fun _ => True := by
  rw [State.notInSlot_pass _ h]
  exact branches_takeBranch (.refl s _) (.refl s) target trivial

theorem branches_jumpLink (r : Reg) (target : Dword) :
    Branches s (s.notInSlot (.next ((s.setGpr r s.link).takeBranch target))) [.gpr r] true false target fun t =>
      regGet t.gpr r = if r = 0 then regGet s.gpr 0 else s.norm (s.pc + 8) := by
  rw [State.notInSlot_pass _ h]
  exact branches_takeBranch (.setGpr s r _) (.setGpr s r _) target (regGet_setGpr_link s r)

theorem exec_jalr_same {rs rd : Reg} (heq : rs = rd) : exec (.jalr rs rd) s = .refused .linkRestriction :=
  (State.notInSlot_pass _ h).trans (if_pos heq)

theorem branches_branchLink {rs : Reg} (hrs : rs ≠ 31) {c : Bool} {p : Prop} [Decidable p] (hc : c = decide p)
    (likely : Bool) (offset : BitVec 16) :
    Branches s (s.branchLink rs c likely offset) [.gpr 31] (decide p) likely (s.branchTarget offset) fun t =>
      regGet t.gpr 31 = s.norm (s.pc + 8) := by
  rw [State.branchLink, State.notInSlot_pass _ h, if_neg hrs, hc]
  exact branches_branchIf (.setGpr s 31 _) (.setGpr s 31 _) _ _ _ (by rw [State.branchIf_gpr, regGet_setGpr_link_31])

theorem State.branchLink_refused {rs : Reg} (hrs : rs = 31) (c likely : Bool) (offset : BitVec 16) :
    s.branchLink rs c likely offset = .refused .linkRestriction :=
  (State.notInSlot_pass _ h).trans (if_pos hrs)

end

/-- Settles O40: each jump takes a branch to its target, after its link is written where it has one. -/
theorem jumpsAndLinksGoToTheirTargets : Obligations.JumpsAndLinksGoToTheirTargets := by
  unfold Obligations.JumpsAndLinksGoToTheirTargets
  intro s rs rd index h
  rw [← State.jumpTarget_eq]
  exact ⟨branches_jump h _, branches_jumpLink h 31 _, branches_jump h _,
    fun hne => exec_jalr_ne hne ▸ branches_jumpLink h rd _, exec_jalr_same h⟩

/-- Settles O41: each is `branchLink` of a test, and the test is the comparison. -/
theorem linkingBranchesLinkTakenOrNot : Obligations.LinkingBranchesLinkTakenOrNot := by
  unfold Obligations.LinkingBranchesLinkTakenOrNot
  intro s rs offset h
  rw [← State.branchTarget_eq]
  intro target links
  have hlinks {c : Bool} {p : Prop} [Decidable p] (hc : c = decide p) (likely : Bool) :
      links (s.branchLink rs c likely offset) (decide p) likely :=
    ⟨fun hrs => branches_branchLink h hrs hc likely offset, fun hrs => State.branchLink_refused h hrs c likely offset⟩
  have hlt := isNegative_eq (s.getGpr rs)
  have hge := not_isNegative_eq (s.getGpr rs)
  exact ⟨hlinks hlt false, leveled_of_passed (links · _ true) (hlinks hlt true),
    hlinks hge false, leveled_of_passed (links · _ true) (hlinks hge true)⟩

/-! ### Branches in a taken slot -/

theorem State.notInSlot_fail {s : State} {target : Dword} (k : Out) (h : s.delay = .target target) :
    s.notInSlot k = .refused .branchInDelaySlot := by
  rw [State.notInSlot, h]

/-- A branch-likely in a taken slot, from MIPS II on. -/
theorem State.needLevel_notInSlot_fail {s : State} {n : Nat} {target : Dword} (k : Out) (hlevel : n ≤ s.env.archLevel)
    (h : s.delay = .target target) : s.needLevel n (s.notInSlot k) = .refused .branchInDelaySlot :=
  (State.needLevel_pass _ hlevel).trans (State.notInSlot_fail k h)

/-- A floating-point branch in a taken slot, once the tests that come before it are passed. -/
theorem State.fpBranch_fail {s : State} {target : Dword} {i : Instr} {cc : BitVec 3} {likely : Bool} (tf : Bool)
    (offset : BitVec 16) (h : s.delay = .target target) (husable : s.usable 1 = true)
    (hlevel : (if likely then 2 else 1) ≤ s.env.archLevel) (hcc : s.env.archLevel < 4 → cc = 0)
    (htrapped : s.fpTrapped i [] = false) : s.fpBranch i cc likely tf offset = .refused .branchInDelaySlot := by
  rw [State.fpBranch, State.needCop_pass _ husable, State.needFpLevel_pass _ hlevel, State.needCc_pass _ hcc,
    if_neg (by simp [htrapped]), State.notInSlot_fail _ h]

/-- Settles O43: each jump and branch tests the slot before anything else, the likely and the floating-point ones after
the tests of their own. -/
theorem branchesInATakenSlotAreRefused : Obligations.BranchesInATakenSlotAreRefused := by
  unfold Obligations.BranchesInATakenSlotAreRefused
  intro s target rs rt index offset cc h
  refine ⟨?ordinary, fun hlevel => ?likely, fun husable hlevel hcc htrapped => ?floatingPoint⟩
  case ordinary =>
    have hslot (k : Out) : s.notInSlot k = .refused .branchInDelaySlot := State.notInSlot_fail k h
    simp only [List.forall_mem_cons, List.not_mem_nil, false_implies, implies_true, and_true]
    exact ⟨hslot _, hslot _, hslot _, hslot _, hslot _, hslot _, hslot _, hslot _, hslot _, hslot _, hslot _, hslot _⟩
  case likely =>
    have hslot (k : Out) := State.needLevel_notInSlot_fail k hlevel h
    simp only [List.forall_mem_cons, List.not_mem_nil, false_implies, implies_true, and_true]
    exact ⟨hslot _, hslot _, hslot _, hslot _, hslot _, hslot _, hslot _, hslot _⟩
  case floatingPoint =>
    have hslot (likely tf : Bool) (i : Instr) (hl : (if likely then 2 else 1) ≤ s.env.archLevel) :=
      State.fpBranch_fail (likely := likely) tf offset h husable hl hcc (htrapped i)
    exact ⟨hslot false false _ hlevel, hslot false true _ hlevel,
      fun hlevel2 => ⟨hslot true false _ hlevel2, hslot true true _ hlevel2⟩⟩

end Sys2Proof.Machine
end

section
/-! PROOFS. System call, breakpoint, the conditional traps and moves, SYNC, the prefetches, and the operations of
coprocessors 0 and 2 (45_cpu_trap_sync_move_cop.md R402 to R444, 47_fpu_transfer.md R565,
49_fpu_convert_move_branch.md R650, R651). -/

namespace Sys2Proof.Machine

/-! ### Traps -/

/-- Settles O15: each raises its exception without a test. -/
theorem systemCallAndBreakpointTrap : Obligations.SystemCallAndBreakpointTrap := fun _ _ => ⟨rfl, rfl⟩

theorem State.trapIf_pass {s : State} (c : Bool) (h2 : 2 ≤ s.env.archLevel) :
    s.trapIf c = .next (if c then s.raise .trap else s.retire) := State.needLevel_pass _ h2

/-- A conditional trap whose test `c` is the comparison `p`. -/
theorem leveled_trapIf (s : State) {c : Bool} {p : Prop} [Decidable p] (hc : c = decide p) :
    Leveled s 2 (s.trapIf c)
      ((p → Raises s (s.trapIf c) .trap) ∧ (¬ p → Completes s (s.trapIf c) [] fun _ => True)) := by
  refine ⟨State.needLevel_fail _, fun h2 => ?_⟩
  rw [State.trapIf_pass c h2, hc]
  refine ⟨fun hp => ?traps, fun hp => ?goesOn⟩
  case traps => rw [if_pos (decide_eq_true hp)]; exact rfl
  case goesOn => rw [if_neg (by simp [hp])]; exact completes_nothing s

theorem toInt_immS (imm : BitVec 16) : (immS imm).toInt = imm.toInt := BitVec.toInt_signExtend_of_le (by decide)

/-- Settles O16: each instruction is `trapIf` of a test, and the test is the comparison. -/
theorem conditionalTrapsTestAndTrap : Obligations.ConditionalTrapsTestAndTrap := by
  unfold Obligations.ConditionalTrapsTestAndTrap
  intro s rs rt code imm traps
  have htraps {c : Bool} {p : Prop} [Decidable p] (hc : c = decide p) : traps (s.trapIf c) p := leveled_trapIf s hc
  rw [← toInt_immS]
  exact ⟨htraps decide_not.symm, htraps decide_not.symm, htraps rfl, htraps rfl, htraps rfl, htraps decide_not.symm,
    htraps decide_not.symm, htraps decide_not.symm, htraps rfl, htraps rfl, htraps rfl, htraps decide_not.symm⟩

/-! ### Conditional moves -/

/-- A move of `v` to general register `r` under the test `c`, which holds exactly when `p` does. -/
theorem writes_or_completes_of_test (s : State) (r : Reg) (v : Dword) {c p : Prop} [Decidable c] (hc : c ↔ p) :
    (p → WritesGpr s (.next (if c then (s.setGpr r v).retire else s.retire)) r v) ∧
    (¬ p → Completes s (.next (if c then (s.setGpr r v).retire else s.retire)) [] fun _ => True) := by
  refine ⟨fun hp => ?moves, fun hp => ?keeps⟩
  case moves => rw [if_pos (hc.mpr hp)]; exact writesGpr_writeGpr s r v
  case keeps => rw [if_neg (mt hc.mp hp)]; exact completes_nothing s

theorem State.fcsrView_of_no_ctc {s : State} (h : s.hazards.ctc = false) : s.fcsrView = s.fcsr := if_neg (by simp [h])

/-- The test of MOVF and MOVT, when no CTC1 came just before. -/
theorem State.fccTest_iff {s : State} (h : s.hazards.ctc = false) (cc : BitVec 3) (tf : Bool) :
    (fccOf s.fcsrView cc == tf) = true ↔ fccOf s.fcsr cc = tf := by
  rw [State.fcsrView_of_no_ctc h, beq_iff_eq]

/-- Settles O20: each instruction is a move under a test, behind the level test and, for MOVF and MOVT, the usable
test. -/
theorem conditionalMovesMoveOrKeep : Obligations.ConditionalMovesMoveOrKeep := by
  unfold Obligations.ConditionalMovesMoveOrKeep
  intro s rs rt rd cc moves onCode
  have hmoves {c p : Prop} [Decidable c] (hc : c ↔ p) :
      moves (.next (if c then (s.setGpr rd (s.getGpr rs)).retire else s.retire)) p :=
    writes_or_completes_of_test s rd (s.getGpr rs) hc
  have hcode (tf : Bool) : onCode (s.needCop 1 (.next
      (if fccOf s.fcsrView cc == tf then (s.setGpr rd (s.getGpr rs)).retire else s.retire))) tf :=
    ⟨State.needCop_fail _, fun hu hctc => State.needCop_pass _ hu ▸ hmoves (State.fccTest_iff hctc cc tf)⟩
  exact ⟨leveled_of_passed (moves · _) (hmoves Iff.rfl), leveled_of_passed (moves · _) (hmoves Iff.rfl),
    leveled_of_passed (onCode · _) (hcode false), leveled_of_passed (onCode · _) (hcode true)⟩

/-! ### Hints and SYNC -/

theorem State.needCop1x_fail {s : State} (k : Out) (h4 : 4 ≤ s.env.archLevel) (hu : s.usable 1 = false) :
    s.needCop1x k = .next (s.raise (.coprocessorUnusable 1)) :=
  (State.wasCop3_pass _ h4).trans (State.needCop_fail k hu)

theorem exec_pref {s : State} (base : Reg) (hint : BitVec 5) (offset : BitVec 16) (h4 : 4 ≤ s.env.archLevel) :
    exec (.pref base hint offset) s = .next s.retire := State.wasCop3_pass _ h4

theorem exec_prefx {s : State} {base index : Reg} (hint : BitVec 5) (h4 : 4 ≤ s.env.archLevel)
    (hu : s.usable 1 = true) (hregion : s.regionOk (s.indexedAddr base index) base) :
    exec (.prefx base index hint) s = .next s.retire :=
  (State.needCop1x_pass _ h4 hu).trans (State.needRegion_pass _ hregion)

/-- Settles O38: once its tests are passed each instruction ends and does nothing else. -/
theorem hintsAndSyncOnlyAdvance : Obligations.HintsAndSyncOnlyAdvance := by
  unfold Obligations.HintsAndSyncOnlyAdvance
  intro s base index hint stype offset
  have hends := completes_nothing s
  refine ⟨fun h4 => ?pref, ?sync, fun h4 => ⟨State.needCop1x_fail _ h4, fun hu hregion => ?prefx⟩⟩
  case pref => rw [exec_pref base hint offset h4]; exact hends
  case sync => exact leveled_of_passed (Completes s · [] fun _ => True) hends
  case prefx => rw [exec_prefx hint h4 hu hregion]; exact hends

/-! ### The end of a coprocessor operation -/

/-- The outcome of a coprocessor operation: the exception it raises, or `t`, when it is no branch in a taken slot. -/
structure State.EndsAsCop (s : State) (out : Out) (raises : Option Cause) (w : CopFlow) (t : State) : Prop where
  raised : ∀ c, raises = some c → Raises s out c
  ended : raises = none → out = s.needFlow w (.next t)

/-- The state after a coprocessor 0 operation that raises nothing. -/
def State.cop0Next (s : State) (e : Cop0Effect) : State := ((s.copGpr e.gpr).selectModel e.statusFR).cop0End e

/-- The state after a coprocessor 2 operation that raises nothing. -/
def State.cop2Next (s : State) (e : Cop2Effect) : State := ((s.copGpr e.gpr).setCop2 e.regs).follow e.flow

theorem State.applyCop0_ends (s : State) (e : Cop0Effect) :
    s.EndsAsCop (s.applyCop0 e) e.raises e.flow (s.cop0Next e) where
  raised c hc := by rw [State.applyCop0, hc]; exact rfl
  ended hn := by rw [State.applyCop0, hn]; exact rfl

theorem State.applyCop2_ends (s : State) (e : Cop2Effect) :
    s.EndsAsCop (s.applyCop2 e) e.raises e.flow (s.cop2Next e) where
  raised c hc := by rw [State.applyCop2, hc]; exact rfl
  ended hn := by rw [State.applyCop2, hn]; exact rfl

theorem State.EndsAsCop.exists_next {s t : State} {out : Out} {raises : Option Cause} {w : CopFlow}
    (h : s.EndsAsCop out raises w t) (hs : s.notInTakenSlot) : ∃ u, out = .next u := by
  cases raises with
  | none => exact ⟨t, (h.ended rfl).trans (State.needFlow_goes (.inr hs) _)⟩
  | some c => exact ⟨s.raise c, h.raised c rfl⟩

/-! ### What a coprocessor operation writes -/

/-- A general register after a write to one. -/
theorem regGet_setGpr_eq_ite (s : State) (r q : Reg) (v : Dword) :
    regGet (s.setGpr r v).gpr q = if q = r ∧ q ≠ 0 then s.norm v else regGet s.gpr q := by
  by_cases hq : q = r
  · subst hq
    rw [regGet_setGpr]
    by_cases h0 : q = 0
    · simp [h0]
    · rw [if_neg h0, if_pos ⟨rfl, h0⟩]
  · rw [if_neg fun h => hq h.1]
    exact (Frame.setGpr s r v).gpr q (by simpa using hq)

/-- The general register that a coprocessor operation writes, as a part of the state. -/
def copGprParts (g : Option (Reg × Dword)) : List Part :=
  match g with
  | some (r, _) => [.gpr r]
  | none => []

theorem Frame.copGpr (s : State) (g : Option (Reg × Dword)) : Frame s (s.copGpr g) (copGprParts g) := by
  cases g with
  | none => exact Frame.refl s _
  | some p => exact Frame.setGpr s p.1 p.2

theorem Frame.follow {s u : State} {w : List Part} (h : Frame s u w) (f : CopFlow) : Frame s (u.follow f) w :=
  h.trans (by constructor <;> simp)

theorem Frame.cop2Next (s : State) (e : Cop2Effect) : Frame s (s.cop2Next e) (.cop2Unit :: copGprParts e.gpr) :=
  (((Frame.copGpr s e.gpr).mono (by simp)).trans ((Frame.setCop2 _ e.regs).mono (by simp))).follow e.flow

theorem State.cop2Next_cop2Regs (s : State) (e : Cop2Effect) : (s.cop2Next e).cop2Regs = e.regs := by
  simp [State.cop2Next, State.cop2Regs]

section
variable (s : State) (e : Cop0Effect)

theorem State.cop0Next_llbit_iff :
    (s.cop0Next e).llbit = true ↔ s.llbit = true ∧ e.unlink = false ∧ e.returns = false := by
  simp [State.cop0Next, and_assoc]

theorem State.cop0Next_statusFR :
    (s.cop0Next e).statusFR = if s.env.is64 then e.statusFR else s.statusFR := by
  simp [State.cop0Next, State.selectModel_statusFR]

theorem State.cop0Next_saved : (s.cop0Next e).saved = if e.returns then s.saved.tail else s.saved := by
  simp [State.cop0Next]

theorem State.cop0Next_cop2Regs : (s.cop0Next e).cop2Regs = s.cop2Regs := by simp [State.cop0Next, State.cop2Regs]

/-- With the FPU register model as it was, no FGR and no format state changes. -/
theorem State.cop0Next_fgrs (h : s.env.is64 = false ∨ e.statusFR = s.statusFR) :
    (s.cop0Next e).fgrLo = s.fgrLo ∧ (s.cop0Next e).fgrHi = s.fgrHi ∧ (s.cop0Next e).fprTag = s.fprTag := by
  have hsame : (s.copGpr e.gpr).selectModel e.statusFR = s.copGpr e.gpr :=
    State.selectModel_unchanged (by simpa using h)
  simp [State.cop0Next, hsame]

end

/-! ### COP0 and COP2 -/

theorem exec_cop0 {s : State} (f : BitVec 26) (hu : s.usable 0 = true) :
    exec (.cop0 f) s = s.cop0Operation false f := State.needCop_pass _ hu

theorem exec_cop2 {s : State} (f : BitVec 26) (hu : s.usable 2 = true) (h1 : 1 ≤ s.env.archLevel)
    (hp : s.env.cop2Present = true) : exec (.cop2 f) s = s.applyCop2 (Config.cop2Op f s) :=
  State.needCop2_pass _ hu h1 hp

theorem exec_cop2_absent {s : State} (f : BitVec 26) (hu : s.usable 2 = true) (h1 : 1 ≤ s.env.archLevel)
    (hp : s.env.cop2Present = false) : exec (.cop2 f) s = .refused .unimplementedCoprocessor :=
  (State.needCop_pass _ hu).trans ((State.needLevel_pass _ h1).trans (if_neg (by simp [hp])))

/-- Settles O37: behind the usable tests each is the application of the effect that its parameter gives, which ends by
following the flow of control (`follow`). -/
theorem coprocessorOperations : Obligations.CoprocessorOperations := by
  unfold Obligations.CoprocessorOperations
  intro s f flows answers writes
  have hflows : ∀ (w : CopFlow) {u : State}, u.env = s.env → Before s u → flows w (u.follow w) := by
    intro w u henv hb
    have hslot : u.pcPlus4 = s.pcPlus4 := State.pcPlus4_congr henv hb.pc
    cases w with
    | next => exact ⟨State.nextPc_congr henv hb.pc hb.delay, rfl, rfl⟩
    | goto p => exact ⟨State.norm_congr henv p, rfl, rfl⟩
    | taken x => exact ⟨hslot, congrArg Delay.target (State.norm_congr henv x), rfl⟩
    | notTaken => exact ⟨hslot, rfl, rfl⟩
    | nullify => exact ⟨hslot, rfl, rfl⟩
  have hanswers : ∀ {out raises w t} {post : State → Prop}, s.EndsAsCop out raises w t → flows w t → post t →
      answers out raises w post := fun {_ _ _ t _} h hw hpost =>
    ⟨h.raised, fun hn hbranch hslot => (h.ended hn).trans (State.needFlow_refused hbranch hslot _),
      fun hn hgoes => ⟨t, (h.ended hn).trans (State.needFlow_goes hgoes _), hw, hpost⟩⟩
  have hwrites : ∀ g {t : State}, t.gpr = (s.copGpr g).gpr → writes g t := by
    intro g t ht q
    rw [ht]
    cases g with
    | none => rfl
    | some p => exact regGet_setGpr_eq_ite s p.1 q p.2
  refine ⟨State.needCop_fail _, fun hu hgiven => ?notGiven, fun hu hgiven => ?given, fun e => ?effect0,
    State.needCop_fail _, fun hu h1 hp => ?present, fun e => ?effect2, exec_cop2_absent f⟩
  case notGiven => exact (exec_cop0 f hu).trans (State.cop0Operation_refused _ _ hgiven)
  case given =>
    have hexec := (exec_cop0 f hu).trans (State.cop0Operation_given false f hgiven)
    exact ⟨hexec, fun hs => hexec ▸ (s.applyCop0_ends _).exists_next hs⟩
  case effect0 =>
    refine hanswers (s.applyCop0_ends e) ?flow ⟨hwrites _ ?gpr, rfl, rfl, rfl, s.cop0Next_llbit_iff e, ?record,
      s.cop0Next_statusFR e, s.cop0Next_saved e, ?hi, ?lo, ?fcsr, ?fcr0, s.cop0Next_cop2Regs e, ?exc, s.cop0Next_fgrs e,
      fun x => congrArg (memRead · x) ?mem⟩
    case flow => exact hflows e.flow (u := (s.copGpr e.gpr).selectModel e.statusFR) (by simp) (by constructor <;> simp)
    all_goals simp [State.cop0Next]
  case present =>
    have hexec := exec_cop2 f hu h1 hp
    exact ⟨hexec, fun hs => hexec ▸ (s.applyCop2_ends _).exists_next hs⟩
  case effect2 =>
    have hunit := hflows e.flow (u := (s.copGpr e.gpr).setCop2 e.regs) (by simp) (by constructor <;> simp)
    exact hanswers (s.applyCop2_ends e) hunit
      ⟨hwrites _ (by simp [State.cop2Next]), s.cop2Next_cop2Regs e, Frame.cop2Next s e⟩

end Sys2Proof.Machine
end

section
/-! PROOFS. The value of every pattern of a floating-point format, and the order of the values (46_fpu_model.md R503 to
R506, 48_fpu_arith.md R600). -/

namespace Sys2Proof.Machine

/-! ### The magnitude pattern -/

/-- The pattern below the sign bit. -/
def magField (fmt : FpFmt) (b : Dword) : Nat := b.toNat % 2 ^ signPos fmt

theorem fracField_eq (fmt : FpFmt) (b : Dword) : fracField fmt b = magField fmt b % 2 ^ (precOf fmt - 1) := by
  rw [fracField, magField, two_pow_signPos, Nat.mod_mul_right_mod]

theorem expField_eq (fmt : FpFmt) (b : Dword) : expField fmt b = magField fmt b / 2 ^ (precOf fmt - 1) := by
  rw [expField, magField, two_pow_signPos, Nat.mod_mul_right_div_self]

theorem fracField_lt (fmt : FpFmt) (b : Dword) : fracField fmt b < 2 ^ (precOf fmt - 1) :=
  Nat.mod_lt _ (Nat.two_pow_pos _)

theorem magField_eq (fmt : FpFmt) (b : Dword) : magField fmt b = magOf fmt (expField fmt b) (fracField fmt b) := by
  rw [magOf, expField_eq, fracField_eq, Nat.div_add_mod']

/-- Patterns that agree below the sign bit have one magnitude. -/
theorem magField_congr {fmt : FpFmt} {a b : Dword} (h : ∀ i < signPos fmt, a.getLsbD i = b.getLsbD i) :
    magField fmt a = magField fmt b := by
  refine Nat.eq_of_testBit_eq fun i => ?_
  rw [magField, magField, Nat.testBit_mod_two_pow, Nat.testBit_mod_two_pow, BitVec.testBit_toNat, BitVec.testBit_toNat]
  by_cases hi : i < signPos fmt
  · rw [h i hi]
  · simp [hi]

/-! ### The kinds of patterns -/

/-- The exponent field of an infinity or a NaN. -/
def expMax (fmt : FpFmt) : Nat := 2 ^ expBits fmt - 1

theorem expMax_eq (fmt : FpFmt) : expMax fmt = 2 * emaxOf fmt + 1 := by rw [expMax, two_pow_expBits]; rfl

section
variable {fmt : FpFmt} {b : Dword}

theorem fpVal_of_inf (he : expField fmt b = expMax fmt) (hf : fracField fmt b = 0) :
    fpVal fmt b = .inf (signField fmt b) := (if_pos he).trans (if_pos hf)

theorem fpVal_of_nan (he : expField fmt b = expMax fmt) (hf : fracField fmt b ≠ 0) :
    fpVal fmt b = .nan (decide (fracField fmt b / 2 ^ (precOf fmt - 2) = 1)) := (if_pos he).trans (if_neg hf)

theorem expMax_ne_zero (fmt : FpFmt) : expMax fmt ≠ 0 := by
  have := expMax_eq fmt
  omega

theorem fpVal_of_zero (he : expField fmt b = 0) (hf : fracField fmt b = 0) : fpVal fmt b = .zero (signField fmt b) :=
  (if_neg (he ▸ (expMax_ne_zero fmt).symm)).trans ((if_pos he).trans (if_pos hf))

theorem fpVal_of_denormal (he : expField fmt b = 0) (hf : fracField fmt b ≠ 0) :
    fpVal fmt b = .num (signField fmt b) (fracField fmt b) (eminOf fmt - (precOf fmt - 1 : Nat)) :=
  (if_neg (he ▸ (expMax_ne_zero fmt).symm)).trans ((if_pos he).trans (if_neg hf))

theorem fpVal_of_normal (he : expField fmt b ≠ expMax fmt) (h0 : expField fmt b ≠ 0) :
    fpVal fmt b = .num (signField fmt b) (fracField fmt b + 2 ^ (precOf fmt - 1))
      ((expField fmt b : Int) - (emaxOf fmt : Int) - (precOf fmt - 1 : Nat)) := (if_neg he).trans (if_neg h0)

/-- Every pattern is a NaN, an infinity, a zero, a denormalized or a normalized number. -/
theorem fpVal_fields (fmt : FpFmt) (b : Dword) :
    (expField fmt b = expMax fmt ∧ fracField fmt b ≠ 0) ∨ (expField fmt b = expMax fmt ∧ fracField fmt b = 0) ∨
      (expField fmt b = 0 ∧ fracField fmt b = 0) ∨ (expField fmt b = 0 ∧ fracField fmt b ≠ 0) ∨
      (expField fmt b ≠ expMax fmt ∧ expField fmt b ≠ 0) := by
  tauto

theorem expField_lt_of_finite (h : (fpVal fmt b).finite = true) : expField fmt b < expMax fmt := by
  have hle : expField fmt b < 2 ^ expBits fmt := Nat.mod_lt _ (Nat.two_pow_pos _)
  have hne : expField fmt b ≠ expMax fmt := fun he => by
    by_cases hf : fracField fmt b = 0
    · rw [fpVal_of_inf he hf] at h; nomatch h
    · rw [fpVal_of_nan he hf] at h; nomatch h
  unfold expMax at *
  omega

/-- A finite pattern is a zero of its sign, or a number of its sign with at most p bits. -/
theorem finite_cases (h : (fpVal fmt b).finite = true) :
    fpVal fmt b = .zero (signField fmt b) ∨
      ∃ m e, 0 < m ∧ m < 2 ^ precOf fmt ∧ fpVal fmt b = .num (signField fmt b) m e := by
  have hmax := expField_lt_of_finite h
  have hfrac := fracField_lt fmt b
  have hp := two_pow_precOf fmt
  by_cases he : expField fmt b = 0
  · by_cases hf : fracField fmt b = 0
    · exact .inl (fpVal_of_zero he hf)
    · exact .inr ⟨_, _, by omega, by omega, fpVal_of_denormal he hf⟩
  · exact .inr ⟨_, _, by omega, by omega, fpVal_of_normal hmax.ne he⟩

theorem fields_of_inf {neg : Bool} (h : fpVal fmt b = .inf neg) :
    expField fmt b = expMax fmt ∧ fracField fmt b = 0 ∧ signField fmt b = neg := by
  obtain ⟨he, hf⟩ | ⟨he, hf⟩ | ⟨he, hf⟩ | ⟨he, hf⟩ | ⟨he, hf⟩ := fpVal_fields fmt b
  · rw [fpVal_of_nan he hf] at h; nomatch h
  · rw [fpVal_of_inf he hf] at h; exact ⟨he, hf, FpVal.inf.inj h⟩
  · rw [fpVal_of_zero he hf] at h; nomatch h
  · rw [fpVal_of_denormal he hf] at h; nomatch h
  · rw [fpVal_of_normal he hf] at h; nomatch h

theorem signField_of_inf {neg : Bool} (h : fpVal fmt b = .inf neg) : signField fmt b = neg := by
  obtain ⟨-, -, hs⟩ := fields_of_inf h
  exact hs

theorem magField_of_inf {neg : Bool} (h : fpVal fmt b = .inf neg) : magField fmt b = infMag fmt := by
  obtain ⟨he, hf, -⟩ := fields_of_inf h
  rw [magField_eq, he, hf]
  rfl

theorem magField_lt_of_finite (h : (fpVal fmt b).finite = true) : magField fmt b < infMag fmt := by
  have he := expField_lt_of_finite h
  have hf := fracField_lt fmt b
  calc magField fmt b = expField fmt b * 2 ^ (precOf fmt - 1) + fracField fmt b := magField_eq fmt b
    _ < (expField fmt b + 1) * 2 ^ (precOf fmt - 1) := by rw [Nat.add_mul]; omega
    _ ≤ infMag fmt := Nat.mul_le_mul_right _ he

end

/-! ### The value in units of the smallest denormalized number -/

/-- The units of a magnitude pattern: its fraction alone in the first binade, which is that of the denormalized numbers. -/
def magUnits (fmt : FpFmt) (mag : Nat) : Nat :=
  if mag / 2 ^ (precOf fmt - 1) = 0 then mag % 2 ^ (precOf fmt - 1)
  else (mag % 2 ^ (precOf fmt - 1) + 2 ^ (precOf fmt - 1)) * 2 ^ (mag / 2 ^ (precOf fmt - 1) - 1)

theorem magUnits_zero (fmt : FpFmt) : magUnits fmt 0 = 0 := by simp [magUnits]

/-- The next pattern is one unit of its binade more. -/
theorem magUnits_succ (fmt : FpFmt) (mag : Nat) :
    magUnits fmt (mag + 1) = magUnits fmt mag + 2 ^ (mag / 2 ^ (precOf fmt - 1) - 1) := by
  have hP : 0 < 2 ^ (precOf fmt - 1) := Nat.two_pow_pos _
  unfold magUnits
  generalize 2 ^ (precOf fmt - 1) = P at *
  have hdiv := Nat.div_add_mod mag P
  have hlt := Nat.mod_lt mag hP
  generalize hE : mag / P = E at *
  generalize hF : mag % P = F at *
  obtain hin | hlast : F + 1 < P ∨ F + 1 = P := by omega
  · have h1 : (mag + 1) / P = E := by rw [← hdiv, add_assoc, Nat.mul_add_div hP, Nat.div_eq_of_lt hin, add_zero]
    have h2 : (mag + 1) % P = F + 1 := by rw [← hdiv, add_assoc, Nat.mul_add_mod, Nat.mod_eq_of_lt hin]
    rw [h1, h2]
    split
    · next h0 => simp [h0]
    · ring
  · have hnext : mag + 1 = P * (E + 1) := by rw [Nat.mul_add, Nat.mul_one]; omega
    have h1 : (mag + 1) / P = E + 1 := by rw [hnext, Nat.mul_div_cancel_left _ hP]
    have h2 : (mag + 1) % P = 0 := by rw [hnext, Nat.mul_mod_right]
    rw [h1, h2, if_neg (Nat.succ_ne_zero E), Nat.add_sub_cancel, ← hlast]
    split
    · next h0 => simp [h0]
    · next h0 =>
      obtain ⟨n, rfl⟩ := Nat.exists_eq_succ_of_ne_zero h0
      simp only [Nat.succ_eq_add_one, Nat.add_sub_cancel, pow_succ]
      ring

theorem magUnits_strictMono (fmt : FpFmt) : StrictMono (magUnits fmt) :=
  strictMono_nat_of_lt_succ fun mag => by
    rw [magUnits_succ]
    exact Nat.lt_add_of_pos_right (Nat.two_pow_pos _)

/-- The exponent of the smallest denormalized number. -/
def unitExp (fmt : FpFmt) : Int := eminOf fmt - (precOf fmt - 1 : Nat)

theorem toRat_num_rat (neg : Bool) (m : Nat) (e : Int) : (FpVal.num neg m e).toRat = signedInt neg m * 2 ^ e := by
  cases neg <;> simp [FpVal.toRat, signedInt]

theorem signedInt_mul (neg : Bool) (q k : Nat) : signedInt neg (q * k) = signedInt neg q * k := by
  cases neg <;> simp [signedInt]

theorem toRat_eq_units {fmt : FpFmt} {b : Dword} (h : (fpVal fmt b).finite = true) :
    (fpVal fmt b).toRat = signedInt (signField fmt b) (magUnits fmt (magField fmt b)) * 2 ^ unitExp fmt := by
  have hmax := (expField_lt_of_finite h).ne
  rw [magUnits, ← expField_eq, ← fracField_eq]
  by_cases he : expField fmt b = 0
  · rw [if_pos he]
    by_cases hf : fracField fmt b = 0
    · rw [fpVal_of_zero he hf, hf]
      cases signField fmt b <;> simp [FpVal.toRat, signedInt]
    · rw [fpVal_of_denormal he hf, toRat_num_rat, unitExp]
  · have hexp : (expField fmt b : Int) - (emaxOf fmt : Int) - (precOf fmt - 1 : Nat) =
        (expField fmt b - 1 : Nat) + unitExp fmt := by
      have := eminOf_eq fmt
      unfold unitExp
      omega
    rw [if_neg he, fpVal_of_normal hmax he, toRat_num_rat, hexp, zpow_add₀ two_ne_zero, zpow_natCast, ← mul_assoc,
      signedInt_mul]
    push_cast
    rfl

/-! ### The order -/

theorem orderKey_eq (fmt : FpFmt) (b : Dword) : orderKey fmt b = signedInt (signField fmt b) (magField fmt b) := rfl

/-- A strictly increasing measure of magnitudes that is 0 at 0 keeps the order of signed magnitudes. -/
theorem signedInt_lt_iff {u : Nat → Nat} (hu : StrictMono u) (h0 : u 0 = 0) (s t : Bool) (m n : Nat) :
    signedInt s (u m) < signedInt t (u n) ↔ signedInt s m < signedInt t n := by
  have hpos : ∀ k, 0 < u k ↔ 0 < k := fun k => by rw [← h0, hu.lt_iff_lt, h0]
  have hm := hpos m
  have hn := hpos n
  have hmn := hu.lt_iff_lt (a := m) (b := n)
  have hnm := hu.lt_iff_lt (a := n) (b := m)
  cases s <;> cases t <;> simp [signedInt] <;> omega

theorem orderKey_lt_iff {fmt : FpFmt} {a b : Dword} (ha : (fpVal fmt a).finite = true)
    (hb : (fpVal fmt b).finite = true) :
    orderKey fmt a < orderKey fmt b ↔ (fpVal fmt a).toRat < (fpVal fmt b).toRat := by
  rw [toRat_eq_units ha, toRat_eq_units hb, mul_lt_mul_iff_left₀ (by positivity), Int.cast_lt,
    signedInt_lt_iff (magUnits_strictMono fmt) (magUnits_zero fmt), ← orderKey_eq, ← orderKey_eq]

theorem orderKey_eq_iff {fmt : FpFmt} {a b : Dword} (ha : (fpVal fmt a).finite = true)
    (hb : (fpVal fmt b).finite = true) :
    orderKey fmt a = orderKey fmt b ↔ (fpVal fmt a).toRat = (fpVal fmt b).toRat := by
  have hab := orderKey_lt_iff ha hb
  have hba := orderKey_lt_iff hb ha
  rw [le_antisymm_iff, le_antisymm_iff, ← not_lt, ← not_lt, ← not_lt, ← not_lt, hab, hba]

theorem orderKey_of_inf {fmt : FpFmt} {b : Dword} {neg : Bool} (h : fpVal fmt b = .inf neg) :
    orderKey fmt b = signedInt neg (infMag fmt) := by
  rw [orderKey_eq, magField_of_inf h, signField_of_inf h]

theorem infMag_pos (fmt : FpFmt) : 0 < infMag fmt := by cases fmt <;> decide

/-- The key of a finite number lies between those of the infinities. -/
theorem orderKey_bounds {fmt : FpFmt} {b : Dword} (h : (fpVal fmt b).finite = true) :
    signedInt true (infMag fmt) < orderKey fmt b ∧ orderKey fmt b < signedInt false (infMag fmt) := by
  have hlt := magField_lt_of_finite h
  rw [orderKey_eq]
  cases signField fmt b <;> simp [signedInt] <;> omega

/-- Settles O52: a magnitude pattern counts units of the smallest denormalized number by a strictly increasing function, and
infinity is the pattern above all finite ones. -/
theorem theOrderKeyIsTheNumericOrder : Obligations.TheOrderKeyIsTheNumericOrder := by
  unfold Obligations.TheOrderKeyIsTheNumericOrder
  intro fmt a b _
  refine ⟨fun ha hb => ⟨orderKey_lt_iff ha hb, orderKey_eq_iff ha hb⟩, fun ha hb => ?_, fun ha hb => ?_,
    fun neg ha hb => ?_⟩
  · rw [orderKey_of_inf ha]
    obtain hfin | hinf := hb
    · exact (orderKey_bounds hfin).1
    · have := infMag_pos fmt
      rw [orderKey_of_inf hinf]
      simp only [signedInt, if_true, Bool.false_eq_true, if_false]
      omega
  · rw [orderKey_of_inf hb]
    exact (orderKey_bounds ha).2
  · rw [orderKey_of_inf ha, orderKey_of_inf hb]

end Sys2Proof.Machine
end

section
/-! PROOFS. What an operation delivers: the number of a pattern, its sign bit, and what a number rounded once can be
(46_fpu_model.md R504, R514, R537 to R546). -/

namespace Sys2Proof.Machine

/-! ### The sign bit -/

theorem getLsbD_signBit (fmt : FpFmt) (i : Nat) : (1#64 <<< signPos fmt).getLsbD i = decide (i = signPos fmt) := by
  have h := signPos_lt fmt
  rw [← BitVec.twoPow_eq, BitVec.getLsbD_twoPow]
  simp [h, eq_comm]

theorem getLsbD_fpNegate (fmt : FpFmt) (b : Dword) (i : Nat) :
    (fpNegate fmt b).getLsbD i = (b.getLsbD i ^^ decide (i = signPos fmt)) := by
  rw [fpNegate, BitVec.getLsbD_xor, getLsbD_signBit]

theorem getLsbD_fpNegate_of_ne {fmt : FpFmt} (b : Dword) {i : Nat} (h : i ≠ signPos fmt) :
    (fpNegate fmt b).getLsbD i = b.getLsbD i := by simp [getLsbD_fpNegate, h]

@[simp] theorem signField_fpNegate (fmt : FpFmt) (b : Dword) : signField fmt (fpNegate fmt b) = !signField fmt b := by
  simp [signField, getLsbD_fpNegate]

@[simp] theorem fpNegate_fpNegate (fmt : FpFmt) (b : Dword) : fpNegate fmt (fpNegate fmt b) = b := by
  rw [fpNegate, fpNegate, BitVec.xor_assoc, BitVec.xor_self, BitVec.xor_zero]

@[simp] theorem magField_fpNegate (fmt : FpFmt) (b : Dword) : magField fmt (fpNegate fmt b) = magField fmt b :=
  magField_congr fun _ hi => getLsbD_fpNegate_of_ne b hi.ne

theorem getLsbD_fpAbs (fmt : FpFmt) (a : Dword) (i : Nat) :
    (fpAbs fmt a).bits.getLsbD i = (a.getLsbD i && !decide (i = signPos fmt)) := by
  by_cases hi : i < 64
  · simp only [fpAbs, exactly, BitVec.getLsbD_and, BitVec.getLsbD_not, getLsbD_signBit, hi, decide_true, Bool.true_and]
  · rw [BitVec.getLsbD_of_ge _ _ (not_lt.mp hi), BitVec.getLsbD_of_ge _ _ (not_lt.mp hi), Bool.false_and]

/-- The value of the opposite sign. -/
def FpVal.negated : FpVal → FpVal
  | .nan s => .nan s
  | .inf s => .inf !s
  | .zero s => .zero !s
  | .num s m e => .num (!s) m e

theorem fpVal_fpNegate (fmt : FpFmt) (b : Dword) : fpVal fmt (fpNegate fmt b) = (fpVal fmt b).negated := by
  have he : expField fmt (fpNegate fmt b) = expField fmt b := by rw [expField_eq, expField_eq, magField_fpNegate]
  have hf : fracField fmt (fpNegate fmt b) = fracField fmt b := by rw [fracField_eq, fracField_eq, magField_fpNegate]
  obtain h | h | h | h | h := fpVal_fields fmt b <;> obtain ⟨h1, h2⟩ := h
  · rw [fpVal_of_nan h1 h2, fpVal_of_nan (he ▸ h1) (hf ▸ h2), hf]; rfl
  · rw [fpVal_of_inf h1 h2, fpVal_of_inf (he ▸ h1) (hf ▸ h2), signField_fpNegate]; rfl
  · rw [fpVal_of_zero h1 h2, fpVal_of_zero (he ▸ h1) (hf ▸ h2), signField_fpNegate]; rfl
  · rw [fpVal_of_denormal h1 h2, fpVal_of_denormal (he ▸ h1) (hf ▸ h2), signField_fpNegate, hf]; rfl
  · rw [fpVal_of_normal h1 h2, fpVal_of_normal (he ▸ h1) (he ▸ h2), signField_fpNegate, hf, he]; rfl

theorem finite_fpNegate (fmt : FpFmt) (b : Dword) : (fpVal fmt (fpNegate fmt b)).finite = (fpVal fmt b).finite := by
  rw [fpVal_fpNegate]
  cases fpVal fmt b <;> rfl

/-- Only an infinity is the infinity of the opposite sign when negated. -/
theorem fpVal_fpNegate_eq_inf {fmt : FpFmt} {b : Dword} {neg : Bool} :
    fpVal fmt (fpNegate fmt b) = .inf (!neg) ↔ fpVal fmt b = .inf neg := by
  rw [fpVal_fpNegate]
  cases fpVal fmt b <;> simp [FpVal.negated]

/-! ### The number of a pattern -/

/-- The number of a finite pattern, as a real number. -/
def numberOf (fmt : FpFmt) (b : Dword) : ℝ := ((fpVal fmt b).toRat : ℝ)

theorem numberOf_fpNegate (fmt : FpFmt) (b : Dword) : numberOf fmt (fpNegate fmt b) = -numberOf fmt b := by
  rw [numberOf, numberOf, fpVal_fpNegate]
  cases fpVal fmt b with
  | num s m e => cases s <;> simp [FpVal.negated, FpVal.toRat]
  | _ => simp [FpVal.negated, FpVal.toRat]

theorem signFactor_ne_zero (neg : Bool) : signFactor neg ≠ 0 := by cases neg <;> simp [signFactor]

theorem signFactor_xor (s t : Bool) : signFactor (s ^^ t) = signFactor s * signFactor t := by
  cases s <;> cases t <;> simp [signFactor]

theorem signFactor_mul_self (s : Bool) : signFactor s * signFactor s = 1 := by cases s <;> simp [signFactor]

section
variable {fmt : FpFmt} {b : Dword}

theorem numberOf_zero {s : Bool} (h : fpVal fmt b = .zero s) : numberOf fmt b = 0 := by
  rw [numberOf, h]
  exact Rat.cast_zero

theorem numberOf_num {s : Bool} {m : Nat} {e : Int} (h : fpVal fmt b = .num s m e) :
    numberOf fmt b = signFactor s * m * 2 ^ e := by rw [numberOf, h, FpVal.toRat_num]

theorem num_ne_zero (s : Bool) {m : Nat} (hm : 0 < m) (e : Int) : signFactor s * m * 2 ^ e ≠ 0 :=
  mul_ne_zero (mul_ne_zero (signFactor_ne_zero s) (Nat.cast_ne_zero.mpr hm.ne')) (by positivity)

/-- A finite pattern is a zero, or a number that is not zero. -/
theorem number_cases (h : (fpVal fmt b).finite = true) :
    (fpVal fmt b = .zero (signField fmt b) ∧ numberOf fmt b = 0) ∨
      ((∃ m e, 0 < m ∧ m < 2 ^ precOf fmt ∧ fpVal fmt b = .num (signField fmt b) m e) ∧ numberOf fmt b ≠ 0) := by
  obtain hz | ⟨m, e, hm, hlt, hn⟩ := finite_cases h
  · exact .inl ⟨hz, numberOf_zero hz⟩
  · exact .inr ⟨⟨m, e, hm, hlt, hn⟩, numberOf_num hn ▸ num_ne_zero _ hm e⟩

theorem zero_of_number (h : (fpVal fmt b).finite = true) (h0 : numberOf fmt b = 0) :
    fpVal fmt b = .zero (signField fmt b) := by
  obtain ⟨hz, -⟩ | ⟨-, hne⟩ := number_cases h
  · exact hz
  · exact absurd h0 hne

theorem num_of_number (h : (fpVal fmt b).finite = true) (h0 : numberOf fmt b ≠ 0) :
    ∃ m e, 0 < m ∧ m < 2 ^ precOf fmt ∧ fpVal fmt b = .num (signField fmt b) m e := by
  obtain ⟨-, hz⟩ | ⟨hn, -⟩ := number_cases h
  · exact absurd hz h0
  · exact hn

theorem numberOf_neg_iff (h : (fpVal fmt b).finite = true) (h0 : numberOf fmt b ≠ 0) :
    signField fmt b = true ↔ numberOf fmt b < 0 := by
  obtain ⟨m, e, hm, -, hn⟩ := num_of_number h h0
  rw [numberOf_num hn, mul_assoc]
  exact signFactor_neg_iff _ (mul_pos (Nat.cast_pos.mpr hm) (by positivity))

end

/-! ### What is delivered -/

/-- The number rounded once, with one sign or the other. -/
def DeliversOnce (fmt : FpFmt) (f : Word) (v : ℝ) (o : Rounded) : Prop := ∃ neg, RoundedOnce fmt f neg v o

/-- A zero of the sign, without a condition. -/
def DeliversZero (fmt : FpFmt) (neg : Bool) (o : Rounded) : Prop := o.conds = 0 ∧ fpVal fmt o.bits = .zero neg

/-- An infinity of the sign, without a condition. -/
def DeliversInf (fmt : FpFmt) (neg : Bool) (o : Rounded) : Prop := o.conds = 0 ∧ fpVal fmt o.bits = .inf neg

theorem deliversZero_fpZero (fmt : FpFmt) (neg : Bool) : DeliversZero fmt neg (exactly (fpZero fmt neg)) :=
  ⟨rfl, fpVal_zero fmt neg⟩

theorem deliversInf_fpInf (fmt : FpFmt) (neg : Bool) : DeliversInf fmt neg (exactly (fpInf fmt neg)) :=
  ⟨rfl, fpVal_inf fmt neg⟩

theorem deliversInf_exactly {fmt : FpFmt} {b : Dword} {neg : Bool} (h : fpVal fmt b = .inf neg) :
    DeliversInf fmt neg (exactly b) := ⟨rfl, h⟩

theorem deliversOnce_roundResult (fmt : FpFmt) (f : Word) (neg : Bool) {m : Nat} (e : Int) (h : 0 < m) :
    DeliversOnce fmt f (signFactor neg * m * 2 ^ e) (roundResult fmt f neg m e false) :=
  ⟨neg, roundedOnce_roundResult fmt f neg e h⟩

/-- A magnitude with guard bits and the part of its unit that the mark stands for, rounded once. -/
theorem StickyPart.deliversOnce {sticky : Bool} {θ : ℝ} (h : StickyPart sticky θ) (fmt : FpFmt) (f : Word) (neg : Bool)
    {m : Nat} (e : Int) (hm : 2 ^ (precOf fmt + 2) ≤ m) :
    DeliversOnce fmt f (signFactor neg * (m + θ) * 2 ^ e) (roundResult fmt f neg m e sticky) := by
  cases hs : sticky
  · rw [h.eq_zero hs, add_zero]
    exact deliversOnce_roundResult fmt f neg e ((Nat.two_pow_pos _).trans_le hm)
  · exact ⟨neg, roundedOnce_roundResult_sticky fmt f neg e (h.sticky.mp hs) h.lt_one hm⟩

/-- An integer in units of `2^e`, rounded once. -/
theorem deliversOnce_signed (fmt : FpFmt) (f : Word) {x : Int} (e : Int) (h : x ≠ 0) :
    DeliversOnce fmt f (x * 2 ^ e) (roundResult fmt f (decide (x < 0)) x.natAbs e false) := by
  have hx : (x : ℝ) = signFactor (decide (x < 0)) * x.natAbs := by
    rw [← signedInt_cast, Int.cast_inj]
    simp only [signedInt, decide_eq_true_eq]
    split <;> omega
  rw [hx]
  exact deliversOnce_roundResult fmt f _ e (Int.natAbs_pos.mpr h)

/-! ### A number rounded once is no NaN -/

theorem isNaN_iff (fmt : FpFmt) (b : Dword) : isNaN fmt b = true ↔ ∃ s, fpVal fmt b = .nan s := by
  unfold isNaN
  cases fpVal fmt b <;> simp

theorem isNaN_of_finite {fmt : FpFmt} {b : Dword} (h : (fpVal fmt b).finite = true) : isNaN fmt b = false := by
  refine Bool.eq_false_iff.mpr fun hn => ?_
  obtain ⟨s, hs⟩ := (isNaN_iff fmt b).mp hn
  rw [hs] at h
  nomatch h

theorem isNaN_of_inf {fmt : FpFmt} {b : Dword} {neg : Bool} (h : fpVal fmt b = .inf neg) : isNaN fmt b = false := by
  simp only [isNaN, h]

/-- What is no NaN is a zero, a number or an infinity. -/
theorem not_nan_cases {fmt : FpFmt} {b : Dword} (h : isNaN fmt b = false) :
    (fpVal fmt b).finite = true ∨ fpVal fmt b = .inf (signField fmt b) := by
  cases hv : fpVal fmt b with
  | nan s => exact absurd ((isNaN_iff fmt b).mpr ⟨s, hv⟩) (by simp [h])
  | inf s => exact .inr (by rw [signField_of_inf hv])
  | zero s | num s m e => exact .inl rfl

theorem OverflowDelivers.not_nan {fmt : FpFmt} {mode : BitVec 2} {neg : Bool} {b : Dword}
    (h : OverflowDelivers fmt mode neg b) : isNaN fmt b = false := by
  unfold OverflowDelivers at h
  split at h
  · exact isNaN_of_inf h
  · exact isNaN_of_finite h.1

theorem TinyDelivers.finite {fmt : FpFmt} {f : Word} {neg : Bool} {x d : ℝ} {o : Rounded}
    (h : TinyDelivers fmt f neg x d o) : (fpVal fmt o.bits).finite = true := by
  obtain ⟨hflush, hkeep⟩ := h
  by_cases hc : fsOf f = true ∧ d ≠ 0 ∧ |d| < 2 ^ eminOf fmt
  · exact (hflush hc).1.1
  · exact (hkeep hc).1.1

theorem TinyDelivers.no_invalid {fmt : FpFmt} {f : Word} {neg : Bool} {x d : ℝ} {o : Rounded}
    (h : TinyDelivers fmt f neg x d o) : o.conds &&& condV = 0 := by
  obtain ⟨hflush, hkeep⟩ := h
  by_cases hc : fsOf f = true ∧ d ≠ 0 ∧ |d| < 2 ^ eminOf fmt
  · rw [(hflush hc).2]; decide
  · obtain ⟨-, hne, heq⟩ := hkeep hc
    by_cases hd : d = x
    · rw [heq hd, BitVec.and_assoc, show condU &&& condV = 0 by decide]
      exact BitVec.and_zero
    · rw [hne hd]; decide

section
variable {fmt : FpFmt} {f : Word} {neg : Bool} {x : ℝ} {o : Rounded}

theorem RoundedOnce.not_nan (h : RoundedOnce fmt f neg x o) : isNaN fmt o.bits = false := by
  obtain ⟨-, e, r, -, -, -, hlarge, hsmall, hrange⟩ := h
  obtain hl | hl := le_or_gt (2 ^ (emaxOf fmt + 1 : ℤ)) |r|
  · exact (hlarge hl).1.not_nan
  · obtain hs | hs := lt_or_ge |r| (2 ^ eminOf fmt)
    · obtain ⟨d, -, hd⟩ := hsmall hs
      exact isNaN_of_finite hd.finite
    · exact isNaN_of_finite (hrange hs hl).1.1

theorem RoundedOnce.no_invalid (h : RoundedOnce fmt f neg x o) : o.conds &&& condV = 0 := by
  obtain ⟨-, e, r, -, -, -, hlarge, hsmall, hrange⟩ := h
  obtain hl | hl := le_or_gt (2 ^ (emaxOf fmt + 1 : ℤ)) |r|
  · obtain ⟨-, hboth, hlone⟩ := hlarge hl
    by_cases hc : enablesOf f &&& condO = 0 ∨ r ≠ x
    · rw [hboth hc]; decide
    · obtain ⟨hen, hr⟩ := not_or.mp hc
      rw [hlone hen (not_not.mp hr)]; decide
  · obtain hs | hs := lt_or_ge |r| (2 ^ eminOf fmt)
    · obtain ⟨d, -, hd⟩ := hsmall hs
      exact hd.no_invalid
    · obtain ⟨-, heq, hne⟩ := hrange hs hl
      by_cases hr : r = x
      · rw [heq hr]; decide
      · rw [hne hr]; decide

end

end Sys2Proof.Machine
end

section
/-! PROOFS. The arithmetic of 48_fpu_arith.md R581 to R588: one lemma for each operation and kind of operands. -/

namespace Sys2Proof.Machine

/-! ### Sums -/

/-- A sum `v` of numbers of the signs `s` and `t`: rounded once, or an exact zero (R582). -/
def SumDelivers (fmt : FpFmt) (f : Word) (s t : Bool) (v : ℝ) (o : Rounded) : Prop :=
  (v ≠ 0 → DeliversOnce fmt f v o) ∧ (v = 0 → DeliversZero fmt (if s = t then s else decide (rmOf f = 3)) o)

theorem SumDelivers.of_zeros (fmt : FpFmt) (f : Word) (s t : Bool) :
    SumDelivers fmt f s t 0 (exactly (fpZero fmt (if s = t then s else zeroSumNeg f))) :=
  ⟨fun h => absurd rfl h, fun _ => deliversZero_fpZero fmt _⟩

theorem SumDelivers.of_number {fmt : FpFmt} {f : Word} {v : ℝ} {o : Rounded} (s t : Bool) (hv : v ≠ 0)
    (h : DeliversOnce fmt f v o) : SumDelivers fmt f s t v o :=
  ⟨fun _ => h, fun h0 => absurd h0 hv⟩

theorem scaled_cast (neg : Bool) (m : Nat) {e low : Int} (h : low ≤ e) :
    (scaled neg m e low : ℝ) * 2 ^ low = signFactor neg * m * 2 ^ e := by
  have hs : scaled neg m e low = signedInt neg (m <<< (e - low).toNat) := rfl
  have he : e = low + (e - low).toNat := by omega
  conv_rhs => rw [he, two_zpow_add_natCast]
  rw [hs, signedInt_cast, Nat.shiftLeft_eq]
  push_cast
  ring

/-- Two numbers of one sign do not cancel. -/
theorem same_sign_sum_ne_zero (s : Bool) {x y : ℝ} (hx : 0 < x) (hy : 0 < y) : signFactor s * x + signFactor s * y ≠ 0 := by
  rw [← mul_add]
  exact mul_ne_zero (signFactor_ne_zero s) (add_pos hx hy).ne'

theorem sumDelivers_roundSum (fmt : FpFmt) (f : Word) (s t : Bool) {ma mb : Nat} (ea eb : Int) (ha : 0 < ma) (hb : 0 < mb) :
    SumDelivers fmt f s t (signFactor s * ma * 2 ^ ea + signFactor t * mb * 2 ^ eb) (roundSum fmt f s ma ea t mb eb) := by
  have hsum : ((scaled s ma ea (min ea eb) + scaled t mb eb (min ea eb) : Int) : ℝ) * 2 ^ min ea eb =
      signFactor s * ma * 2 ^ ea + signFactor t * mb * 2 ^ eb := by
    rw [Int.cast_add, add_mul, scaled_cast s ma (min_le_left ea eb), scaled_cast t mb (min_le_right ea eb)]
  have hdiff : signFactor s * ma * 2 ^ ea + signFactor t * mb * 2 ^ eb = 0 → s ≠ t := by
    rintro h0 rfl
    rw [mul_assoc, mul_assoc] at h0
    exact same_sign_sum_ne_zero s (mul_pos (Nat.cast_pos.mpr ha) (by positivity))
      (mul_pos (Nat.cast_pos.mpr hb) (by positivity)) h0
  unfold roundSum
  dsimp only
  split
  · next hx =>
    have h0 := hsum
    rw [hx, Int.cast_zero, zero_mul] at h0
    refine ⟨fun hne => absurd h0.symm hne, fun hv => ?_⟩
    rw [if_neg (hdiff hv)]
    exact deliversZero_fpZero fmt _
  · next hx =>
    rw [← hsum]
    exact .of_number s t (mul_ne_zero (Int.cast_ne_zero.mpr hx) (by positivity)) (deliversOnce_signed fmt f _ hx)

section
variable {fmt : FpFmt} {a b : Dword} (f : Word)

theorem fpAdd_finite (ha : (fpVal fmt a).finite = true) (hb : (fpVal fmt b).finite = true) :
    SumDelivers fmt f (signField fmt a) (signField fmt b) (numberOf fmt a + numberOf fmt b) (fpAdd fmt f a b) := by
  obtain hza | ⟨ma, ea, hma, -, hna⟩ := finite_cases ha <;> obtain hzb | ⟨mb, eb, hmb, -, hnb⟩ := finite_cases hb
  · simp only [fpAdd, hza, hzb, numberOf_zero hza, numberOf_zero hzb, add_zero]
    exact .of_zeros fmt f _ _
  · simp only [fpAdd, hza, hnb, numberOf_zero hza, numberOf_num hnb, zero_add]
    exact .of_number _ _ (num_ne_zero _ hmb eb) (deliversOnce_roundResult fmt f _ eb hmb)
  · simp only [fpAdd, hna, hzb, numberOf_num hna, numberOf_zero hzb, add_zero]
    exact .of_number _ _ (num_ne_zero _ hma ea) (deliversOnce_roundResult fmt f _ ea hma)
  · simp only [fpAdd, hna, hnb, numberOf_num hna, numberOf_num hnb]
    exact sumDelivers_roundSum fmt f _ _ ea eb hma hmb

theorem fpAdd_inf_finite {s : Bool} (ha : fpVal fmt a = .inf s) (hb : (fpVal fmt b).finite = true) :
    fpAdd fmt f a b = exactly a := by
  obtain hb | ⟨m, e, -, -, hb⟩ := finite_cases hb <;> simp only [fpAdd, ha, hb]

theorem fpAdd_finite_inf {t : Bool} (ha : (fpVal fmt a).finite = true) (hb : fpVal fmt b = .inf t) :
    fpAdd fmt f a b = exactly b := by
  obtain ha | ⟨m, e, -, -, ha⟩ := finite_cases ha <;> simp only [fpAdd, ha, hb]

theorem fpAdd_inf_inf {s t : Bool} (ha : fpVal fmt a = .inf s) (hb : fpVal fmt b = .inf t) :
    fpAdd fmt f a b = if s = t then exactly a else invalid fmt := by
  simp only [fpAdd, ha, hb]

end

/-- ADD (R582). -/
theorem fpAdd_delivers (fmt : FpFmt) (f : Word) (a b : Dword) {sa sb : Bool} (hsa : signField fmt a = sa)
    (hsb : signField fmt b = sb) :
    ((fpVal fmt a).finite = true → (fpVal fmt b).finite = true →
      SumDelivers fmt f sa sb (numberOf fmt a + numberOf fmt b) (fpAdd fmt f a b)) ∧
    (fpVal fmt a = .inf sa → (fpVal fmt b).finite = true → DeliversInf fmt sa (fpAdd fmt f a b)) ∧
    ((fpVal fmt a).finite = true → fpVal fmt b = .inf sb → DeliversInf fmt sb (fpAdd fmt f a b)) ∧
    (fpVal fmt a = .inf sa → fpVal fmt b = .inf sb →
      if sa = sb then DeliversInf fmt sa (fpAdd fmt f a b) else fpAdd fmt f a b = invalid fmt) := by
  refine ⟨fun ha hb => hsa ▸ hsb ▸ fpAdd_finite f ha hb, fun ha hb => ?_, fun ha hb => ?_, fun ha hb => ?_⟩
  · rw [fpAdd_inf_finite f ha hb]
    exact deliversInf_exactly ha
  · rw [fpAdd_finite_inf f ha hb]
    exact deliversInf_exactly hb
  · rw [fpAdd_inf_inf f ha hb]
    by_cases hs : sa = sb
    · rw [if_pos hs, if_pos hs]
      exact deliversInf_exactly ha
    · rw [if_neg hs, if_neg hs]

/-! ### Products -/

/-- A product `v` of finite numbers: rounded once, or a zero of the product's sign (R584). -/
def ProductDelivers (fmt : FpFmt) (f : Word) (s : Bool) (v : ℝ) (o : Rounded) : Prop :=
  (v ≠ 0 → DeliversOnce fmt f v o) ∧ (v = 0 → DeliversZero fmt s o)

theorem ProductDelivers.of_zero (fmt : FpFmt) (f : Word) (s : Bool) {v : ℝ} (hv : v = 0) :
    ProductDelivers fmt f s v (exactly (fpZero fmt s)) :=
  ⟨fun h => absurd hv h, fun _ => deliversZero_fpZero fmt s⟩

theorem numberOf_mul {fmt : FpFmt} {a b : Dword} {s t : Bool} {ma mb : Nat} {ea eb : Int}
    (ha : fpVal fmt a = .num s ma ea) (hb : fpVal fmt b = .num t mb eb) :
    numberOf fmt a * numberOf fmt b = signFactor (s ^^ t) * (ma * mb : Nat) * 2 ^ (ea + eb) := by
  rw [numberOf_num ha, numberOf_num hb, signFactor_xor, zpow_add₀ two_ne_zero]
  push_cast
  ring

section
variable {fmt : FpFmt} {a b : Dword} (f : Word)

theorem fpMul_finite (ha : (fpVal fmt a).finite = true) (hb : (fpVal fmt b).finite = true) :
    ProductDelivers fmt f (signField fmt a ^^ signField fmt b) (numberOf fmt a * numberOf fmt b) (fpMul fmt f a b) := by
  obtain hza | ⟨ma, ea, hma, -, hna⟩ := finite_cases ha <;> obtain hzb | ⟨mb, eb, hmb, -, hnb⟩ := finite_cases hb
  · simp only [fpMul, hza, hzb]
    exact .of_zero fmt f _ (by rw [numberOf_zero hza, zero_mul])
  · simp only [fpMul, hza, hnb]
    exact .of_zero fmt f _ (by rw [numberOf_zero hza, zero_mul])
  · simp only [fpMul, hna, hzb]
    exact .of_zero fmt f _ (by rw [numberOf_zero hzb, mul_zero])
  · rw [numberOf_mul hna hnb]
    simp only [fpMul, hna, hnb]
    exact ⟨fun _ => deliversOnce_roundResult fmt f _ _ (Nat.mul_pos hma hmb),
      fun h0 => absurd h0 (num_ne_zero _ (Nat.mul_pos hma hmb) _)⟩

/-- An infinity, or a number that is not zero. -/
def InfOrNumber (fmt : FpFmt) (b : Dword) : Prop :=
  fpVal fmt b = .inf (signField fmt b) ∨ ((fpVal fmt b).finite = true ∧ numberOf fmt b ≠ 0)

theorem InfOrNumber.cases (h : InfOrNumber fmt b) :
    fpVal fmt b = .inf (signField fmt b) ∨ ∃ m e, fpVal fmt b = .num (signField fmt b) m e := by
  obtain hi | ⟨hfin, h0⟩ := h
  · exact .inl hi
  · obtain ⟨m, e, -, -, hn⟩ := num_of_number hfin h0
    exact .inr ⟨m, e, hn⟩

theorem fpMul_inf_left {s : Bool} (ha : fpVal fmt a = .inf s) (hb : InfOrNumber fmt b) :
    fpMul fmt f a b = exactly (fpInf fmt (signField fmt a ^^ signField fmt b)) := by
  obtain hb | ⟨m, e, hb⟩ := hb.cases <;> simp only [fpMul, ha, hb]

theorem fpMul_inf_right {t : Bool} (hb : fpVal fmt b = .inf t) (ha : InfOrNumber fmt a) :
    fpMul fmt f a b = exactly (fpInf fmt (signField fmt a ^^ signField fmt b)) := by
  obtain ha | ⟨m, e, ha⟩ := ha.cases <;> simp only [fpMul, ha, hb]

theorem fpMul_inf_zero {s t : Bool} (ha : fpVal fmt a = .inf s) (hb : fpVal fmt b = .zero t) :
    fpMul fmt f a b = invalid fmt := by simp only [fpMul, ha, hb]

theorem fpMul_zero_inf {s t : Bool} (ha : fpVal fmt a = .zero s) (hb : fpVal fmt b = .inf t) :
    fpMul fmt f a b = invalid fmt := by simp only [fpMul, ha, hb]

end

/-! ### Quotients -/

/-- The part of a unit that a remainder stands for. -/
theorem stickyPart_remainder (n : Nat) {d : Nat} (hd : 0 < d) : StickyPart (n % d != 0) (((n % d : Nat) : ℝ) / d) where
  nonneg := by positivity
  lt_one := (div_lt_one (Nat.cast_pos.mpr hd)).mpr (Nat.cast_lt.mpr (Nat.mod_lt n hd))
  sticky := by
    rw [div_pos_iff_of_pos_right (Nat.cast_pos.mpr hd), Nat.cast_pos, bne_iff_ne, Nat.pos_iff_ne_zero]

theorem quotient_add_remainder (n : Nat) {d : Nat} (hd : 0 < d) :
    ((n / d : Nat) : ℝ) + ((n % d : Nat) : ℝ) / d = n / d := by
  have h : (n : ℝ) = d * (n / d : Nat) + (n % d : Nat) := by exact_mod_cast (Nat.div_add_mod n d).symm
  have hne : (d : ℝ) ≠ 0 := Nat.cast_ne_zero.mpr hd.ne'
  rw [eq_div_iff hne, add_mul, div_mul_cancel₀ _ hne, mul_comm, ← h]

theorem deliversOnce_roundQuotient (fmt : FpFmt) (f : Word) (neg : Bool) {ma mb : Nat} (ea eb : Int) (ha : 0 < ma)
    (hb : 0 < mb) (hlt : mb < 2 ^ precOf fmt) :
    DeliversOnce fmt f (signFactor neg * (ma / mb) * 2 ^ (ea - eb)) (roundQuotient fmt f neg ma ea mb eb) := by
  have hbits : 2 ^ (precOf fmt + 2) ≤ ma <<< (2 * precOf fmt + 6) / mb := by
    rw [Nat.le_div_iff_mul_le hb, Nat.shiftLeft_eq]
    calc 2 ^ (precOf fmt + 2) * mb ≤ 2 ^ (precOf fmt + 2) * 2 ^ precOf fmt := Nat.mul_le_mul_left _ hlt.le
      _ = 2 ^ (2 * precOf fmt + 2) := by rw [← pow_add]; congr 1; omega
      _ ≤ 2 ^ (2 * precOf fmt + 6) := Nat.pow_le_pow_right two_pos (by omega)
      _ ≤ ma * 2 ^ (2 * precOf fmt + 6) := Nat.le_mul_of_pos_left _ ha
  have h := (stickyPart_remainder (ma <<< (2 * precOf fmt + 6)) hb).deliversOnce fmt f neg
    (ea - eb - (2 * precOf fmt + 6 : Nat)) hbits
  have hval : signFactor neg * ((ma : ℝ) / mb) * 2 ^ (ea - eb) = signFactor neg *
      ((ma <<< (2 * precOf fmt + 6) : Nat) / mb) * 2 ^ (ea - eb - (2 * precOf fmt + 6 : Nat)) := by
    have hunit : (2 : ℝ) ^ (ea - eb) = 2 ^ (2 * precOf fmt + 6) * 2 ^ (ea - eb - (2 * precOf fmt + 6 : Nat)) := by
      rw [← two_zpow_add_natCast, sub_add_cancel]
    rw [hunit, Nat.shiftLeft_eq]
    push_cast
    ring
  rw [quotient_add_remainder _ hb, ← hval] at h
  exact h

section
variable {fmt : FpFmt} {a b : Dword} (f : Word)

theorem fpDiv_numbers (ha : (fpVal fmt a).finite = true) (hb : (fpVal fmt b).finite = true) (hx : numberOf fmt a ≠ 0)
    (hy : numberOf fmt b ≠ 0) : DeliversOnce fmt f (numberOf fmt a / numberOf fmt b) (fpDiv fmt f a b) := by
  obtain ⟨ma, ea, hma, -, hna⟩ := num_of_number ha hx
  obtain ⟨mb, eb, hmb, hlt, hnb⟩ := num_of_number hb hy
  have hv : numberOf fmt a / numberOf fmt b =
      signFactor (signField fmt a ^^ signField fmt b) * (ma / mb) * 2 ^ (ea - eb) := by
    have hs := signFactor_mul_self (signField fmt b)
    rw [div_eq_iff hy, numberOf_num hna, numberOf_num hnb, signFactor_xor, zpow_sub₀ two_ne_zero]
    field_simp
    linear_combination -signFactor (signField fmt a) * hs
  rw [hv]
  simp only [fpDiv, hna, hnb]
  exact deliversOnce_roundQuotient fmt f _ ea eb hma hmb hlt

theorem fpDiv_zero_left {s : Bool} (ha : fpVal fmt a = .zero s) (hb : InfOrNumber fmt b) :
    fpDiv fmt f a b = exactly (fpZero fmt (signField fmt a ^^ signField fmt b)) := by
  obtain hb | ⟨m, e, hb⟩ := hb.cases <;> simp only [fpDiv, ha, hb]

theorem fpDiv_by_zero {s t : Bool} {m : Nat} {e : Int} (ha : fpVal fmt a = .num s m e) (hb : fpVal fmt b = .zero t) :
    fpDiv fmt f a b = ⟨condZ, fpInf fmt (signField fmt a ^^ signField fmt b)⟩ := by simp only [fpDiv, ha, hb]

theorem fpDiv_inf_left {s : Bool} (ha : fpVal fmt a = .inf s) (hb : (fpVal fmt b).finite = true) :
    fpDiv fmt f a b = exactly (fpInf fmt (signField fmt a ^^ signField fmt b)) := by
  obtain hb | ⟨m, e, -, -, hb⟩ := finite_cases hb <;> simp only [fpDiv, ha, hb]

theorem fpDiv_inf_right {t : Bool} (ha : (fpVal fmt a).finite = true) (hb : fpVal fmt b = .inf t) :
    fpDiv fmt f a b = exactly (fpZero fmt (signField fmt a ^^ signField fmt b)) := by
  obtain ha | ⟨m, e, -, -, ha⟩ := finite_cases ha <;> simp only [fpDiv, ha, hb]

theorem fpDiv_inf_inf {s t : Bool} (ha : fpVal fmt a = .inf s) (hb : fpVal fmt b = .inf t) :
    fpDiv fmt f a b = invalid fmt := by simp only [fpDiv, ha, hb]

theorem fpDiv_zero_zero {s t : Bool} (ha : fpVal fmt a = .zero s) (hb : fpVal fmt b = .zero t) :
    fpDiv fmt f a b = invalid fmt := by simp only [fpDiv, ha, hb]

end

/-! ### Roots -/

/-- The root bit by bit: `r` with the `k` low bits to come. -/
theorem isqrtFrom_bounds (n k r : Nat) (hlo : r * r ≤ n) (hhi : n < (r + 2 ^ k) * (r + 2 ^ k)) :
    isqrtFrom n k r * isqrtFrom n k r ≤ n ∧ n < (isqrtFrom n k r + 1) * (isqrtFrom n k r + 1) := by
  induction k generalizing r with
  | zero => exact ⟨hlo, hhi⟩
  | succ k ih =>
    rw [isqrtFrom]
    split
    · next hbit => exact ih _ hbit (by rwa [add_assoc, ← two_mul, ← pow_succ'])
    · next hbit => exact ih _ hlo (not_le.mp hbit)

theorem isqrt_eq_sqrt (n : Nat) : isqrt n = n.sqrt := by
  refine Nat.eq_sqrt.mpr (isqrtFrom_bounds n _ 0 (by simp) ?_)
  rw [Nat.zero_add, ← pow_add]
  calc n < 2 ^ (n.log2 + 1) := Nat.lt_log2_self
    _ ≤ 2 ^ (n.log2 / 2 + 1 + (n.log2 / 2 + 1)) := Nat.pow_le_pow_right two_pos (by omega)

/-- The part of a unit by which a root exceeds the integer root. -/
theorem stickyPart_root (n : Nat) : StickyPart (isqrt n * isqrt n != n) (√(n : ℝ) - isqrt n) := by
  have hle : (n.sqrt : ℝ) ≤ √(n : ℝ) := Real.nat_sqrt_le_real_sqrt
  have hlt : √(n : ℝ) < n.sqrt + 1 := Real.real_sqrt_lt_nat_sqrt_succ
  rw [isqrt_eq_sqrt]
  refine ⟨by linarith, by linarith, ?_⟩
  rw [sub_pos, bne_iff_ne, Real.lt_sqrt (Nat.cast_nonneg _), sq, ← Nat.cast_mul, Nat.cast_lt]
  exact (Nat.sqrt_le n).lt_iff_ne.symm

theorem rootScale_even (fmt : FpFmt) (e : Int) : e - (rootScale fmt e : Int) = 2 * ((e - (rootScale fmt e : Int)) / 2) := by
  unfold rootScale
  omega

/-- A scaled magnitude has the root of the number, in units of half its exponent. -/
theorem sqrt_scaled (m n : Nat) {e k : Int} (h : e - n = 2 * k) :
    √((m : ℝ) * 2 ^ e) = √((m <<< n : Nat) : ℝ) * 2 ^ k := by
  have he : e = n + (k + k) := by omega
  rw [he, zpow_add₀ two_ne_zero, zpow_add₀ two_ne_zero, zpow_natCast, Nat.shiftLeft_eq, ← mul_assoc,
    Real.sqrt_mul (by positivity), Real.sqrt_mul_self (by positivity)]
  push_cast
  rfl

section
variable {fmt : FpFmt} {a : Dword} (f : Word)

theorem fpSqrt_num {m : Nat} {e : Int} (ha : fpVal fmt a = .num false m e) (hm : 0 < m) :
    DeliversOnce fmt f (√(numberOf fmt a)) (fpSqrt fmt f a) := by
  have hbits : 2 ^ (precOf fmt + 2) ≤ isqrt (m <<< rootScale fmt e) := by
    rw [isqrt_eq_sqrt, Nat.le_sqrt, ← pow_add, Nat.shiftLeft_eq]
    calc 2 ^ (precOf fmt + 2 + (precOf fmt + 2)) ≤ 2 ^ rootScale fmt e :=
          Nat.pow_le_pow_right two_pos (by unfold rootScale; omega)
      _ ≤ m * 2 ^ rootScale fmt e := Nat.le_mul_of_pos_left _ hm
  have h := (stickyPart_root (m <<< rootScale fmt e)).deliversOnce fmt f false ((e - (rootScale fmt e : Int)) / 2) hbits
  rw [add_sub_cancel, show signFactor false = 1 from rfl, one_mul, ← sqrt_scaled m _ (rootScale_even fmt e)] at h
  rw [numberOf_num ha, show signFactor false = 1 from rfl, one_mul]
  simp only [fpSqrt, ha]
  exact h

theorem fpSqrt_negative {m : Nat} {e : Int} (ha : fpVal fmt a = .num true m e) : fpSqrt fmt f a = invalid fmt := by
  simp only [fpSqrt, ha]

theorem fpSqrt_zero {s : Bool} (ha : fpVal fmt a = .zero s) : fpSqrt fmt f a = exactly a := by simp only [fpSqrt, ha]

theorem fpSqrt_inf {s : Bool} (ha : fpVal fmt a = .inf s) : fpSqrt fmt f a = if s then invalid fmt else exactly a := by
  cases s <;> simp only [fpSqrt, ha, Bool.false_eq_true, if_true, if_false]

end

end Sys2Proof.Machine
end

section
/-! PROOFS. Denormalized operands, NaN operands and the arithmetic as stated (46_fpu_model.md R542, R547,
48_fpu_arith.md R581 to R588). -/

namespace Sys2Proof.Machine

/-! ### Denormalized operands -/

theorem abs_numberOf {fmt : FpFmt} {b : Dword} (h : (fpVal fmt b).finite = true) :
    |numberOf fmt b| = magUnits fmt (magField fmt b) * 2 ^ unitExp fmt := by
  have hx : numberOf fmt b = signFactor (signField fmt b) * (magUnits fmt (magField fmt b) * 2 ^ unitExp fmt) := by
    rw [numberOf, toRat_eq_units h]
    push_cast
    rw [signedInt_cast, mul_assoc]
  rw [hx, abs_signFactor_mul, abs_of_nonneg (by positivity)]

/-- The smallest normalized number has as many units as its pattern counts. -/
theorem magUnits_minNormal (fmt : FpFmt) : magUnits fmt (2 ^ (precOf fmt - 1)) = 2 ^ (precOf fmt - 1) := by
  simp [magUnits, Nat.div_self (Nat.two_pow_pos (precOf fmt - 1))]

/-- The numbers below the smallest normalized one are those with a pattern below its own. -/
theorem tiny_iff {fmt : FpFmt} {b : Dword} (h : (fpVal fmt b).finite = true) :
    numberOf fmt b ≠ 0 ∧ |numberOf fmt b| < 2 ^ eminOf fmt ↔
      magField fmt b ≠ 0 ∧ magField fmt b < 2 ^ (precOf fmt - 1) := by
  have hunit : (0 : ℝ) < 2 ^ unitExp fmt := by positivity
  have hmin : (2 : ℝ) ^ eminOf fmt = (2 ^ (precOf fmt - 1) : Nat) * 2 ^ unitExp fmt := by
    rw [Nat.cast_pow, Nat.cast_two, ← two_zpow_add_natCast, unitExp, sub_add_cancel]
  have hmono := magUnits_strictMono fmt
  have h0 : magUnits fmt (magField fmt b) ≠ 0 ↔ magField fmt b ≠ 0 := by
    rw [← magUnits_zero fmt, hmono.injective.ne_iff, magUnits_zero]
  rw [← abs_ne_zero, abs_numberOf h, hmin, mul_lt_mul_iff_left₀ hunit, Nat.cast_lt, mul_ne_zero_iff_right hunit.ne',
    Nat.cast_ne_zero, h0, ← magUnits_minNormal, hmono.lt_iff_lt, magUnits_minNormal]

theorem isDenorm_iff_fields {fmt : FpFmt} (hfmt : fmt = .S ∨ fmt = .D) (b : Dword) :
    isDenorm fmt b = true ↔ expField fmt b = 0 ∧ fracField fmt b ≠ 0 := by
  obtain rfl | rfl := hfmt <;> simp [isDenorm]

theorem isDenorm_iff_magField {fmt : FpFmt} (hfmt : fmt = .S ∨ fmt = .D) (b : Dword) :
    isDenorm fmt b = true ↔ magField fmt b ≠ 0 ∧ magField fmt b < 2 ^ (precOf fmt - 1) := by
  rw [isDenorm_iff_fields hfmt, expField_eq, fracField_eq, Nat.div_eq_zero_iff_lt (Nat.two_pow_pos _), and_comm]
  exact and_congr_left fun hlt => by rw [Nat.mod_eq_of_lt hlt]

/-- The denormalized patterns are those of the tiny numbers (R505). -/
theorem isDenorm_iff_tiny {fmt : FpFmt} (hfmt : fmt = .S ∨ fmt = .D) (b : Dword) :
    isDenorm fmt b = true ↔
      (fpVal fmt b).finite = true ∧ numberOf fmt b ≠ 0 ∧ |numberOf fmt b| < 2 ^ eminOf fmt := by
  constructor
  · intro h
    obtain ⟨he, hf⟩ := (isDenorm_iff_fields hfmt b).mp h
    have hfin : (fpVal fmt b).finite = true := by rw [fpVal_of_denormal he hf]; rfl
    exact ⟨hfin, (tiny_iff hfin).mpr ((isDenorm_iff_magField hfmt b).mp h)⟩
  · rintro ⟨hfin, htiny⟩
    exact (isDenorm_iff_magField hfmt b).mpr ((tiny_iff hfin).mp htiny)

/-- An operand is taken as a zero of its sign exactly when it is tiny, FS is set and the implementation flushes (R542). -/
theorem flushOperand_cases {fmt : FpFmt} (hfmt : fmt = .S ∨ fmt = .D) (env : Env) (f : Word) (a : Dword) :
    let flushes := env.fsOperandFlush = true ∧ fsOf f = true ∧
      (fpVal fmt a).finite = true ∧ numberOf fmt a ≠ 0 ∧ |numberOf fmt a| < 2 ^ eminOf fmt
    (flushes → fpVal fmt (flushOperand env fmt f a) = .zero (signField fmt a)) ∧
      (¬ flushes → flushOperand env fmt f a = a) := by
  intro flushes
  have hiff : (fsOf f && env.fsOperandFlush && isDenorm fmt a) = true ↔ flushes := by
    rw [Bool.and_eq_true, Bool.and_eq_true, isDenorm_iff_tiny hfmt, and_comm (a := fsOf f = true), and_assoc]
  refine ⟨fun h => ?_, fun h => if_neg (mt hiff.mp h)⟩
  rw [flushOperand, if_pos (hiff.mpr h)]
  exact fpVal_zero fmt _

/-! ### NaN operands -/

theorem quiet_iff (fmt : FpFmt) (b : Dword) :
    (isNaN fmt b && !isSNaN fmt b) = true ↔ fpVal fmt b = .nan false := by
  unfold isNaN isSNaN
  cases fpVal fmt b <;> simp

/-- The quiet NaNs among the operands, in their order. -/
def quietOperands (fmt : FpFmt) (l : List Dword) : List Dword := l.filter fun b => isNaN fmt b && !isSNaN fmt b

theorem nanResult_bits_eq (env : Env) (fmt : FpFmt) (l : List Dword) : ∃ k, (nanResult env fmt l).bits =
    (quietOperands fmt l).getD (k % (quietOperands fmt l).length) (newQNaN fmt) := ⟨_, rfl⟩

/-- One of a list that has a member. -/
theorem getD_mod_mem {l : List Dword} (h : l ≠ []) (k : Nat) (d : Dword) : l.getD (k % l.length) d ∈ l := by
  have hlt := Nat.mod_lt k (List.length_pos_iff.mpr h)
  rw [List.getD_eq_getElem _ _ hlt]
  exact List.getElem_mem hlt

/-- The result of NaN operands is a quiet one of them, or the new QNaN where all NaNs are signaling (R547). -/
theorem nanResult_bits (env : Env) (fmt : FpFmt) (l : List Dword) :
    let b := (nanResult env fmt l).bits
    (b ∈ l ∧ fpVal fmt b = .nan false) ∨ (b = newQNaN fmt ∧ ∀ c ∈ l, isNaN fmt c = true → isSNaN fmt c = true) := by
  obtain ⟨k, hk⟩ := nanResult_bits_eq env fmt l
  dsimp only
  rw [hk]
  by_cases hq : quietOperands fmt l = []
  · refine .inr ⟨by rw [hq]; rfl, fun c hc hn => ?_⟩
    have := List.filter_eq_nil_iff.mp hq c hc
    simpa [hn] using this
  · obtain ⟨hmem, hquiet⟩ := List.mem_filter.mp (getD_mod_mem hq k (newQNaN fmt))
    exact .inl ⟨hmem, (quiet_iff fmt _).mp hquiet⟩

theorem nanFirst_of_nan (env : Env) {fmt : FpFmt} {l : List Dword} (r : Rounded) (h : l.any (isNaN fmt) = true) :
    nanFirst env fmt l r = nanResult env fmt l := if_pos h

theorem nanFirst_of_no_nan (env : Env) {fmt : FpFmt} {l : List Dword} (r : Rounded) (h : l.any (isNaN fmt) = false) :
    nanFirst env fmt l r = r := if_neg (by simp [h])

/-! ### The arithmetic as stated -/

/-- SUB is ADD of the negated operand (R583). -/
theorem fpSub_delivers (fmt : FpFmt) (f : Word) (a b : Dword) :
    let sa := signField fmt a
    let sb := signField fmt b
    let o := fpSub fmt f a b
    ((fpVal fmt a).finite = true → (fpVal fmt b).finite = true →
      SumDelivers fmt f sa (!sb) (numberOf fmt a - numberOf fmt b) o) ∧
    (fpVal fmt a = .inf sa → (fpVal fmt b).finite = true → DeliversInf fmt sa o) ∧
    ((fpVal fmt a).finite = true → fpVal fmt b = .inf sb → DeliversInf fmt (!sb) o) ∧
    (fpVal fmt a = .inf sa → fpVal fmt b = .inf sb →
      if sa = !sb then DeliversInf fmt sa o else o = invalid fmt) := by
  have h := fpAdd_delivers fmt f a (fpNegate fmt b) rfl (signField_fpNegate fmt b)
  rw [finite_fpNegate, numberOf_fpNegate, ← sub_eq_add_neg, fpVal_fpNegate_eq_inf] at h
  exact h

/-- Settles O54, from what each operation delivers for each kind of operands. -/
theorem arithmeticRoundsTheExactResult : Obligations.ArithmeticRoundsTheExactResult := by
  unfold Obligations.ArithmeticRoundsTheExactResult
  intro fmt f a b hfmt x y sa sb once zero inf bad finA finB infA infB sums
  have hsums : ∀ {tb : Bool} {v : ℝ} {o : Rounded}, ((finA → finB → SumDelivers fmt f sa tb v o) ∧
      (infA → finB → inf sa o) ∧ (finA → infB → inf tb o) ∧ (infA → infB → if sa = tb then inf sa o else bad o)) → sums tb v o :=
    fun ⟨hfin, hrest⟩ => ⟨fun ha hb => (hfin ha hb).1, fun ha hb => (hfin ha hb).2, hrest⟩
  refine ⟨hsums (fpAdd_delivers fmt f a b rfl rfl), hsums (fpSub_delivers fmt f a b), ?mul, ?div, ?sqrt, ?abs, ?neg,
    fun env => flushOperand_cases hfmt env f a, fun env l r => ⟨nanFirst_of_no_nan env r, fun hnan => ?nan⟩⟩
  case mul =>
    refine ⟨fun ha hb => (fpMul_finite f ha hb).1, fun ha hb => (fpMul_finite f ha hb).2, fun ha hb => ?_,
      fun hb ha => ?_, ?_⟩
    · rw [fpMul_inf_left f ha hb]
      exact deliversInf_fpInf fmt _
    · rw [fpMul_inf_right f hb (.inr ha)]
      exact deliversInf_fpInf fmt _
    · rintro (⟨ha, hb, hy⟩ | ⟨hb, ha, hx⟩)
      · exact fpMul_inf_zero f ha (zero_of_number hb hy)
      · exact fpMul_zero_inf f (zero_of_number ha hx) hb
  case div =>
    refine ⟨fun ha hb => fpDiv_numbers f ha hb, fun ha hx hb => ?_, fun ha hx hb hy => ?_, fun ha hb => ?_,
      fun ha hb => ?_, ?_⟩
    · rw [fpDiv_zero_left f (zero_of_number ha hx) hb]
      exact deliversZero_fpZero fmt _
    · obtain ⟨m, e, -, -, hn⟩ := num_of_number ha hx
      rw [fpDiv_by_zero f hn (zero_of_number hb hy)]
      exact ⟨rfl, fpVal_inf fmt _⟩
    · rw [fpDiv_inf_left f ha hb]
      exact deliversInf_fpInf fmt _
    · rw [fpDiv_inf_right f ha hb]
      exact deliversZero_fpZero fmt _
    · rintro (⟨ha, hb⟩ | ⟨ha, hx, hb, hy⟩)
      · exact fpDiv_inf_inf f ha hb
      · exact fpDiv_zero_zero f (zero_of_number ha hx) (zero_of_number hb hy)
  case sqrt =>
    refine ⟨fun ha hx => ?_, fun ha hx => ?_, fun ha hx => ?_, fun ha => ?_⟩
    · obtain ⟨m, e, hm, -, hn⟩ := num_of_number ha hx.ne'
      rw [Bool.eq_false_iff.mpr (mt (numberOf_neg_iff ha hx.ne').mp hx.not_gt)] at hn
      exact fpSqrt_num f hn hm
    · have hz := zero_of_number ha hx
      rw [fpSqrt_zero f hz]
      exact ⟨rfl, hz⟩
    · obtain ⟨m, e, -, -, hn⟩ := num_of_number ha hx.ne
      rw [(numberOf_neg_iff ha hx.ne).mpr hx] at hn
      exact fpSqrt_negative f hn
    · rw [fpSqrt_inf f ha]
      split
      · rfl
      · next hs => exact ⟨rfl, ha.trans (congrArg _ (Bool.eq_false_iff.mpr hs))⟩
  case abs =>
    refine ⟨rfl, ?_, fun i hi => ?_⟩
    · simp [signField, getLsbD_fpAbs]
    · simp [getLsbD_fpAbs, hi]
  case neg => exact ⟨rfl, signField_fpNegate fmt a, fun i hi => getLsbD_fpNegate_of_ne a hi⟩
  case nan =>
    rw [nanFirst_of_nan env r hnan]
    exact ⟨rfl, nanResult_bits env fmt l⟩

end Sys2Proof.Machine
end

section
/-! PROOFS. Multiply-accumulate in both models, and the conversions to floating point (48_fpu_arith.md R594 to R599,
49_fpu_convert_move_branch.md R622, R623, 92_eei_decisions.md D37). -/

namespace Sys2Proof.Machine

/-! ### A negated operand -/

/-- A pattern, its sign bit inverted where `turn` is set. -/
def negateIf (fmt : FpFmt) (turn : Bool) (b : Dword) : Dword := if turn then fpNegate fmt b else b

section
variable (fmt : FpFmt) (turn : Bool) (b : Dword)

@[simp] theorem signField_negateIf : signField fmt (negateIf fmt turn b) = (signField fmt b ^^ turn) := by
  cases turn <;> simp [negateIf]

@[simp] theorem finite_negateIf : (fpVal fmt (negateIf fmt turn b)).finite = (fpVal fmt b).finite := by
  cases turn <;> simp [negateIf, finite_fpNegate]

@[simp] theorem negateIf_negateIf : negateIf fmt turn (negateIf fmt turn b) = b := by
  cases turn <;> simp [negateIf]

theorem numberOf_negateIf : numberOf fmt (negateIf fmt turn b) = (if turn then -1 else 1) * numberOf fmt b := by
  cases turn <;> simp [negateIf, numberOf_fpNegate]

@[simp] theorem isNaN_negateIf : isNaN fmt (negateIf fmt turn b) = isNaN fmt b := by
  cases turn
  · rfl
  · rw [negateIf, if_pos rfl, isNaN, isNaN, fpVal_fpNegate]
    cases fpVal fmt b <;> rfl

variable {fmt b} {s : Bool}

theorem fpVal_negateIf_inf (h : fpVal fmt b = .inf s) : fpVal fmt (negateIf fmt turn b) = .inf (s ^^ turn) := by
  cases turn
  · simpa [negateIf] using h
  · simp [negateIf, fpVal_fpNegate, h, FpVal.negated]

theorem fpVal_negateIf_zero (h : fpVal fmt b = .zero s) : fpVal fmt (negateIf fmt turn b) = .zero (s ^^ turn) := by
  cases turn
  · simpa [negateIf] using h
  · simp [negateIf, fpVal_fpNegate, h, FpVal.negated]

end

/-! ### A negated result -/

/-- The result of a negated multiply-accumulate: its sign inverted unless it is a NaN. -/
def turnResult (fmt : FpFmt) (neg : Bool) (r : Rounded) : Rounded :=
  ⟨r.conds, negateIf fmt (neg && !isNaN fmt r.bits) r.bits⟩

theorem turnResult_eq_ite (fmt : FpFmt) (neg : Bool) (r : Rounded) : turnResult fmt neg r =
    if neg && !isNaN fmt r.bits then ⟨r.conds, fpNegate fmt r.bits⟩ else r := by
  unfold turnResult negateIf
  split <;> rfl

section
variable {fmt : FpFmt}

theorem turnResult_of_not_nan (neg : Bool) {r : Rounded} (h : isNaN fmt r.bits = false) :
    turnResult fmt neg r = ⟨r.conds, negateIf fmt neg r.bits⟩ := by simp [turnResult, h]

theorem fpVal_newQNaN (h : fmt = .S ∨ fmt = .D) : fpVal fmt (newQNaN fmt) = .nan false := by
  obtain rfl | rfl := h <;> decide

theorem turnResult_invalid (h : fmt = .S ∨ fmt = .D) (neg : Bool) : turnResult fmt neg (invalid fmt) = invalid fmt := by
  have hn : isNaN fmt (invalid fmt).bits = true := (isNaN_iff fmt _).mpr ⟨_, fpVal_newQNaN h⟩
  simp [turnResult, hn, negateIf]

theorem DeliversInf.turn {s : Bool} {r : Rounded} (h : DeliversInf fmt s r) (neg : Bool) :
    DeliversInf fmt (s ^^ neg) (turnResult fmt neg r) := by
  rw [turnResult_of_not_nan neg (isNaN_of_inf h.2)]
  exact ⟨h.1, fpVal_negateIf_inf neg h.2⟩

theorem DeliversZero.turn {s : Bool} {r : Rounded} (h : DeliversZero fmt s r) (neg : Bool) :
    DeliversZero fmt (s ^^ neg) (turnResult fmt neg r) := by
  rw [turnResult_of_not_nan neg (isNaN_of_finite (by rw [h.2]; rfl))]
  exact ⟨h.1, fpVal_negateIf_zero neg h.2⟩

/-- Turned back, a negated result is the number rounded once. -/
theorem DeliversOnce.turn {f : Word} {v : ℝ} {r : Rounded} (h : DeliversOnce fmt f v r) (neg : Bool) :
    DeliversOnce fmt f v ⟨(turnResult fmt neg r).conds, negateIf fmt neg (turnResult fmt neg r).bits⟩ := by
  obtain ⟨s, hs⟩ := h
  rw [turnResult_of_not_nan neg hs.not_nan, negateIf_negateIf]
  exact ⟨s, hs⟩

end

/-! ### The unrounded model -/

/-- An infinite factor, the other one not a zero. -/
def InfProduct (fmt : FpFmt) (a b : Dword) : Prop :=
  (fpVal fmt a = .inf (signField fmt a) ∧ InfOrNumber fmt b) ∨ (fpVal fmt b = .inf (signField fmt b) ∧ InfOrNumber fmt a)

/-- What is no NaN and no zero. -/
theorem infOrNumber_of_not_zero {fmt : FpFmt} {b : Dword} (hn : isNaN fmt b = false)
    (hz : fpVal fmt b ≠ .zero (signField fmt b)) : InfOrNumber fmt b := by
  obtain hfin | hinf := not_nan_cases hn
  · exact .inr ⟨hfin, fun h0 => hz (zero_of_number hfin h0)⟩
  · exact .inl hinf

section
variable {fmt : FpFmt} {a b c : Dword} (f : Word)

theorem fusedMulAdd_zero_zero {t : Bool} (ha : (fpVal fmt a).finite = true) (hb : (fpVal fmt b).finite = true)
    (h0 : numberOf fmt a * numberOf fmt b = 0) (hc : fpVal fmt c = .zero t) : fusedMulAdd fmt f a b c =
      exactly (fpZero fmt (if (signField fmt a ^^ signField fmt b) = t then signField fmt a ^^ signField fmt b
        else zeroSumNeg f)) := by
  obtain hza | hzb := mul_eq_zero.mp h0
  · obtain hb | ⟨m, e, -, -, hb⟩ := finite_cases hb <;> simp only [fusedMulAdd, zero_of_number ha hza, hb, hc]
  · obtain ha | ⟨m, e, -, -, ha⟩ := finite_cases ha <;> simp only [fusedMulAdd, zero_of_number hb hzb, ha, hc]

theorem fusedMulAdd_zero_num {t : Bool} {m : Nat} {e : Int} (ha : (fpVal fmt a).finite = true)
    (hb : (fpVal fmt b).finite = true) (h0 : numberOf fmt a * numberOf fmt b = 0) (hc : fpVal fmt c = .num t m e) :
    fusedMulAdd fmt f a b c = roundResult fmt f t m e false := by
  obtain hza | hzb := mul_eq_zero.mp h0
  · obtain hb | ⟨m, e, -, -, hb⟩ := finite_cases hb <;> simp only [fusedMulAdd, zero_of_number ha hza, hb, hc]
  · obtain ha | ⟨m, e, -, -, ha⟩ := finite_cases ha <;> simp only [fusedMulAdd, zero_of_number hb hzb, ha, hc]

/-- Finite operands: the exact sum, rounded once (R596). -/
theorem fusedMulAdd_finite (ha : (fpVal fmt a).finite = true) (hb : (fpVal fmt b).finite = true)
    (hc : (fpVal fmt c).finite = true) :
    SumDelivers fmt f (signField fmt a ^^ signField fmt b) (signField fmt c)
      (numberOf fmt a * numberOf fmt b + numberOf fmt c) (fusedMulAdd fmt f a b c) := by
  by_cases h0 : numberOf fmt a * numberOf fmt b = 0
  · rw [h0, zero_add]
    obtain hzc | ⟨mc, ec, hmc, -, hnc⟩ := finite_cases hc
    · rw [fusedMulAdd_zero_zero f ha hb h0 hzc, numberOf_zero hzc]
      exact .of_zeros fmt f _ _
    · rw [fusedMulAdd_zero_num f ha hb h0 hnc, numberOf_num hnc]
      exact .of_number _ _ (num_ne_zero _ hmc ec) (deliversOnce_roundResult fmt f _ ec hmc)
  · obtain ⟨hxa, hxb⟩ := mul_ne_zero_iff.mp h0
    obtain ⟨ma, ea, hma, -, hna⟩ := num_of_number ha hxa
    obtain ⟨mb, eb, hmb, -, hnb⟩ := num_of_number hb hxb
    have hm := Nat.mul_pos hma hmb
    rw [numberOf_mul hna hnb]
    obtain hzc | ⟨mc, ec, hmc, -, hnc⟩ := finite_cases hc
    · simp only [fusedMulAdd, hna, hnb, hzc, numberOf_zero hzc, add_zero]
      exact .of_number _ _ (num_ne_zero _ hm _) (deliversOnce_roundResult fmt f _ _ hm)
    · simp only [fusedMulAdd, hna, hnb, hnc, numberOf_num hnc]
      exact sumDelivers_roundSum fmt f _ _ _ ec hm hmc

theorem fusedMulAdd_zero_times_inf {s t : Bool} (ha : fpVal fmt a = .zero s) (hb : fpVal fmt b = .inf t) :
    fusedMulAdd fmt f a b c = invalid fmt := by simp only [fusedMulAdd, ha, hb]

theorem fusedMulAdd_inf_times_zero {s t : Bool} (ha : fpVal fmt a = .inf s) (hb : fpVal fmt b = .zero t) :
    fusedMulAdd fmt f a b c = invalid fmt := by simp only [fusedMulAdd, ha, hb]

theorem fusedMulAdd_infProduct_finite (hp : InfProduct fmt a b) (hc : (fpVal fmt c).finite = true) :
    fusedMulAdd fmt f a b c = exactly (fpInf fmt (signField fmt a ^^ signField fmt b)) := by
  obtain ⟨hi, hother⟩ | ⟨hi, hother⟩ := hp <;> obtain ho | ⟨m, e, ho⟩ := hother.cases <;>
    obtain hc | ⟨mc, ec, -, -, hc⟩ := finite_cases hc <;> simp only [fusedMulAdd, hi, ho, hc]

theorem fusedMulAdd_infProduct_inf {t : Bool} (hp : InfProduct fmt a b) (hc : fpVal fmt c = .inf t) :
    fusedMulAdd fmt f a b c =
      if (signField fmt a ^^ signField fmt b) = t then exactly c else invalid fmt := by
  obtain ⟨hi, hother⟩ | ⟨hi, hother⟩ := hp <;> obtain ho | ⟨m, e, ho⟩ := hother.cases <;>
    simp only [fusedMulAdd, hi, ho, hc]

/-- An infinite product, and nothing to add but a finite number or the infinity of its sign (R596). -/
theorem fusedMulAdd_infProduct (hp : InfProduct fmt a b) (hn : isNaN fmt c = false)
    (hc : (fpVal fmt c).finite = true ∨ signField fmt c = (signField fmt a ^^ signField fmt b)) :
    DeliversInf fmt (signField fmt a ^^ signField fmt b) (fusedMulAdd fmt f a b c) := by
  obtain hfin | hinf := not_nan_cases hn
  · rw [fusedMulAdd_infProduct_finite f hp hfin]
    exact deliversInf_fpInf fmt _
  · have hs := hc.resolve_left (by simp [hinf, FpVal.finite])
    rw [fusedMulAdd_infProduct_inf f hp hinf, if_pos hs.symm, ← hs]
    exact deliversInf_exactly hinf

theorem fusedMulAdd_finite_inf {t : Bool} (ha : (fpVal fmt a).finite = true) (hb : (fpVal fmt b).finite = true)
    (hc : fpVal fmt c = .inf t) : fusedMulAdd fmt f a b c = exactly c := by
  obtain ha | ⟨ma, ea, -, -, ha⟩ := finite_cases ha <;> obtain hb | ⟨mb, eb, -, -, hb⟩ := finite_cases hb <;>
    simp only [fusedMulAdd, ha, hb, hc]

end

theorem fpMulAcc_unrounded {env : Env} (h : env.maddModel = .unrounded) (fmt : FpFmt) (f : Word) (sub neg : Bool)
    (a b c : Dword) :
    fpMulAcc env fmt f sub neg a b c = turnResult fmt neg (fusedMulAdd fmt f a b (negateIf fmt sub c)) := by
  rw [turnResult_eq_ite, fpMulAcc, h]
  rfl

/-! ### The rounded model -/

theorem fpMulAcc_rounded {env : Env} (h : env.maddModel = .rounded) (fmt : FpFmt) (f : Word) (sub neg : Bool)
    (a b c : Dword) :
    fpMulAcc env fmt f sub neg a b c =
      turnResult fmt neg (roundedMulAdd fmt f (env.fpMode == .precise) a b (negateIf fmt sub c)) := by
  rw [turnResult_eq_ite, fpMulAcc, h]
  rfl

/-- A product without a NaN operand is Invalid Operation with the new QNaN, or does not have that condition. -/
theorem fpMul_invalid_or {fmt : FpFmt} (f : Word) {a b : Dword} (ha : isNaN fmt a = false) (hb : isNaN fmt b = false) :
    fpMul fmt f a b = invalid fmt ∨ (fpMul fmt f a b).conds &&& condV = 0 := by
  obtain ha | ha := not_nan_cases ha <;> obtain hb | hb := not_nan_cases hb
  · obtain ⟨honce, hzero⟩ := fpMul_finite f ha hb
    by_cases h0 : numberOf fmt a * numberOf fmt b = 0
    · rw [(hzero h0).1]
      exact .inr BitVec.zero_and
    · obtain ⟨_, h⟩ := honce h0
      exact .inr h.no_invalid
  · by_cases h0 : numberOf fmt a = 0
    · exact .inl (fpMul_zero_inf f (zero_of_number ha h0) hb)
    · rw [fpMul_inf_right f hb (.inr ⟨ha, h0⟩)]
      exact .inr BitVec.zero_and
  · by_cases h0 : numberOf fmt b = 0
    · exact .inl (fpMul_inf_zero f ha (zero_of_number hb h0))
    · rw [fpMul_inf_left f ha (.inr ⟨hb, h0⟩)]
      exact .inr BitVec.zero_and
  · rw [fpMul_inf_left f ha (.inl hb)]
    exact .inr BitVec.zero_and

section
variable {fmt : FpFmt} {f : Word} {precise : Bool} {a b c : Dword}

theorem roundedMulAdd_invalid (h : (fpMul fmt f a b).conds &&& condV ≠ 0) :
    roundedMulAdd fmt f precise a b c = fpMul fmt f a b := if_pos (by simpa using h)

theorem roundedMulAdd_enabled (h : (fpMul fmt f a b).conds &&& condV = 0) (hp : precise = true)
    (hen : (fpMul fmt f a b).conds &&& enablesOf f ≠ 0) : roundedMulAdd fmt f precise a b c = fpMul fmt f a b :=
  (if_neg (by simp [h])).trans (if_pos (by simpa [hp] using hen))

theorem roundedMulAdd_sum (h : (fpMul fmt f a b).conds &&& condV = 0)
    (hen : precise = false ∨ (fpMul fmt f a b).conds &&& enablesOf f = 0) : roundedMulAdd fmt f precise a b c =
      ⟨(fpMul fmt f a b).conds ||| (fpAdd fmt f (fpMul fmt f a b).bits c).conds,
        (fpAdd fmt f (fpMul fmt f a b).bits c).bits⟩ :=
  (if_neg (by simp [h])).trans (if_neg (by obtain hp | he := hen <;> simp [*]))

end

/-! ### Conversions -/

theorem three_le_precOf (fmt : FpFmt) : 3 ≤ precOf fmt := by cases fmt <;> decide

/-- A fraction that is not zero and has b1 = 0 makes a quiet NaN (R504). -/
theorem fpVal_quiet {fmt : FpFmt} (neg : Bool) {frac : Nat} (h0 : frac ≠ 0) (hlt : frac < 2 ^ (precOf fmt - 2)) :
    fpVal fmt (fpPack fmt neg (infMag fmt + frac)) = .nan false := by
  have hexp : expMax fmt < 2 ^ expBits fmt := Nat.sub_lt (Nat.two_pow_pos _) one_pos
  have hfrac : frac < 2 ^ (precOf fmt - 1) := hlt.trans_le (Nat.pow_le_pow_right two_pos (by omega))
  have hmag : infMag fmt + frac = magOf fmt (expMax fmt) frac := rfl
  have he := expField_fpPack neg hexp hfrac
  have hf := fracField_fpPack neg hexp hfrac
  rw [hmag, fpVal_of_nan he (hf.trans_ne h0), hf, Nat.div_eq_of_lt hlt]
  rfl

theorem fpVal_quietNaN (fmt : FpFmt) (neg : Bool) (frac : Nat) : fpVal fmt (quietNaN fmt neg frac) = .nan false := by
  have hp := three_le_precOf fmt
  unfold quietNaN
  dsimp only
  split
  · exact fpVal_quiet neg one_ne_zero (Nat.one_lt_two_pow (by omega))
  · next h0 => exact fpVal_quiet neg h0 (Nat.mod_lt _ (Nat.two_pow_pos _))

/-- A converted NaN is quiet (R622). -/
theorem fpVal_convertedNaN (env : Env) (src : FpFmt) {fmt : FpFmt} (hfmt : fmt = .S ∨ fmt = .D) (a : Dword) :
    fpVal fmt (convertedNaN env src fmt a) = .nan false := by
  unfold convertedNaN
  split
  · exact fpVal_newQNaN hfmt
  · exact fpVal_quietNaN fmt _ _
  · exact fpVal_quietNaN fmt _ _

section
variable (env : Env) (fmt : FpFmt) (f : Word) {src : FpFmt} {a : Dword}

theorem fpConvert_number (hfin : (fpVal src a).finite = true) (h0 : numberOf src a ≠ 0) :
    DeliversOnce fmt f (numberOf src a) (fpConvert env src fmt f a) := by
  obtain ⟨m, e, hm, -, hn⟩ := num_of_number hfin h0
  simp only [fpConvert, hn, numberOf_num hn]
  exact deliversOnce_roundResult fmt f _ e hm

theorem fpConvert_zero {s : Bool} (h : fpVal src a = .zero s) : DeliversZero fmt s (fpConvert env src fmt f a) := by
  simp only [fpConvert, h]
  exact deliversZero_fpZero fmt s

theorem fpConvert_inf {s : Bool} (h : fpVal src a = .inf s) : DeliversInf fmt s (fpConvert env src fmt f a) := by
  simp only [fpConvert, h]
  exact deliversInf_fpInf fmt s

theorem fpConvert_nan {s : Bool} (h : fpVal src a = .nan s) :
    fpConvert env src fmt f a = ⟨if s then condV else 0, convertedNaN env src fmt a⟩ := by simp only [fpConvert, h]

theorem fromInt_number {i : Int} (h : i ≠ 0) : DeliversOnce fmt f i (fromInt fmt f i) := by
  have hi : fromInt fmt f i = roundResult fmt f (decide (i < 0)) i.natAbs 0 false := if_neg h
  have honce := deliversOnce_signed fmt f 0 h
  rwa [zpow_zero, mul_one, ← hi] at honce

theorem fromInt_zero : fromInt fmt f 0 = exactly (fpZero fmt false) := if_pos rfl

end

/-! ### The statement -/

/-- Settles O55: both models are a sum whose result is turned; the conversions by the kind of their operand. -/
theorem multiplyAccumulateAndConversionsRoundTheExactResult :
    Obligations.MultiplyAccumulateAndConversionsRoundTheExactResult := by
  unfold Obligations.MultiplyAccumulateAndConversionsRoundTheExactResult
  intro fmt f env hfmt
  refine ⟨fun sub neg a b c hna hnb hnc => ⟨fun hmodel => ?unrounded, fun hmodel => ?rounded⟩,
    fun src a _ => ⟨fpConvert_number env fmt f, fun _ => fpConvert_zero env fmt f, fun _ => fpConvert_inf env fmt f,
      fun s h => ?nan⟩, fun i => ⟨fromInt_number fmt f, fun h => ?zero⟩⟩
  case nan =>
    rw [fpConvert_nan env fmt f h]
    exact ⟨rfl, fpVal_convertedNaN env src hfmt a⟩
  case zero =>
    rw [h, fromInt_zero]
    exact deliversZero_fpZero fmt false
  case unrounded =>
    rw [fpMulAcc_unrounded hmodel]
    have hinvalid : ∀ {r : Rounded}, r = invalid fmt → turnResult fmt neg r = invalid fmt :=
      fun h => h ▸ turnResult_invalid hfmt neg
    have hsum := @fusedMulAdd_finite fmt a b (negateIf fmt sub c) f
    rw [finite_negateIf, numberOf_negateIf, signField_negateIf] at hsum
    refine ⟨fun ha hb hc hv => ((hsum ha hb hc).1 hv).turn neg, fun ha hb hc hv => ((hsum ha hb hc).2 hv).turn neg, ?_,
      fun hp => ?_, fun ha hb hc => ?_⟩
    · rintro (⟨ha, hb⟩ | ⟨ha, hb⟩)
      · exact hinvalid (fusedMulAdd_zero_times_inf f ha hb)
      · exact hinvalid (fusedMulAdd_inf_times_zero f ha hb)
    · have hp : InfProduct fmt a b := hp.imp (And.imp_right (infOrNumber_of_not_zero hnb))
        (And.imp_right (infOrNumber_of_not_zero hna))
      refine ⟨fun ⟨hc, hne⟩ => hinvalid ?_, fun hc => ?_⟩
      · rw [fusedMulAdd_infProduct_inf f hp (fpVal_negateIf_inf sub hc), if_neg hne.symm]
      · exact (fusedMulAdd_infProduct f hp (by simpa using hnc) (by simpa using hc)).turn neg
    · have hinf := fpVal_negateIf_inf sub hc
      rw [fusedMulAdd_finite_inf f ha hb hinf]
      exact (deliversInf_exactly hinf).turn neg
  case rounded =>
    rw [fpMulAcc_rounded hmodel]
    refine ⟨fun hp => ?_, fun hp ⟨hmode, hen⟩ => ?_, fun hp hen => ?_⟩
    · rw [roundedMulAdd_invalid hp, (fpMul_invalid_or f hna hnb).resolve_right hp]
      exact turnResult_invalid hfmt neg
    · rw [roundedMulAdd_enabled hp (by simp [hmode]) hen]
      rfl
    · rw [roundedMulAdd_sum hp (hen.imp_left (by simp))]
      rfl

end Sys2Proof.Machine
end

section
/-! PROOFS. Stores from the FPU, moves between the CPU and the FPU, and the control moves (47_fpu_transfer.md R554 to R556,
R558, R560, R562, R564, R566 to R571, 46_fpu_model.md R533). -/

namespace Sys2Proof.Machine

/-! ### What is read from an FGR or an FPR -/

theorem State.badFpr_singleton (s : State) (n : Reg) : s.badFpr [n] = (!s.fgr64 && n.getLsbD 0) :=
  congrArg (!s.fgr64 && ·) (Bool.or_false _)

section
variable {s : State} {n : Reg} (htag : s.tagOf n ≠ .unknown)
include htag

theorem State.wordOfFgr_of_known (hmove : s.hazards.moveFpr = []) : s.wordOfFgr n = regGet s.fgrLo n :=
  (if_neg htag).trans (State.fgrLow_eq hmove n)

theorem State.wordMoved_of_known (hmove : s.hazards.moveFpr = []) : s.wordMoved n = sextWord (regGet s.fgrLo n) := by
  rw [← State.wordOfFgr_of_known htag hmove]
  exact if_neg (by simp [hmove])

theorem State.dwordOfFgr_of_known (hnamed : s.badFpr [n] = false) : s.dwordOfFgr n = s.pairBits n := by
  refine if_neg ?_
  rw [← State.badFpr_singleton, hnamed]
  simpa using htag

end

/-! ### Stores -/

section
variable {s : State} {k : AccessKind} {m : Nat} {base : Reg} (c : Dword → Out)

theorem State.withOffset_pass {offset : BitVec 16} (ha : alignedAt m (s.effAddr base offset)) (ho : s.offsetOk m offset) :
    s.withOffset k m base offset c = c (s.effAddr base offset) :=
  (State.needAligned_pass _ ha).trans (State.needOffset_pass _ ho)

theorem State.withIndex_pass {index : Reg} (hr : s.regionOk (s.indexedAddr base index) base)
    (ha : alignedAt m (s.indexedAddr base index)) : s.withIndex k m base index c = c (s.indexedAddr base index) :=
  (State.needRegion_pass _ hr).trans (State.needAligned_pass _ ha)

end

/-- A store from the FPU that goes through. -/
theorem completes_storeC1 {s : State} {a : Dword} {count : Nat} {ps : List Nat} (v : Dword)
    (h : s.Reaches .store a 0 count ps) :
    Completes s (s.storeC1 a count v) (ps.map .byte) fun t =>
      ps.map (memRead t.mem) = splitBytes s.bigEndianCPU count v :=
  completes_access _ h (completes_storeBytes v h) fun _ hbytes => hbytes

/-- Settles O47: each instruction, its tests passed, is a store of what is read from the FGR or the FPR. -/
theorem fpuStoresWriteTheFgrBytes : Obligations.FpuStoresWriteTheFgrBytes := by
  unfold Obligations.FpuStoresWriteTheFgrBytes
  intro s base index n offset stores w a x known
  have hstores {v v' : Dword} {known' : Prop} (hv : known' → v = v') (b : Dword) (count : Nat) :
      stores (s.storeC1 b count v) b count known' v' := fun ps hr =>
    (completes_storeC1 v hr).mono (List.Subset.refl _) fun t ht hknown => hv hknown ▸ ht
  have hword : known → zextWord (s.wordOfFgr n) = w := fun ⟨htag, hmove⟩ =>
    congrArg zextWord (State.wordOfFgr_of_known htag hmove)
  have hdword : known ∧ s.badFpr [n] = false → s.dwordOfFgr n = s.pairBits n := fun ⟨⟨htag, _⟩, hnamed⟩ =>
    State.dwordOfFgr_of_known htag hnamed
  refine ⟨⟨State.needCop_fail _, fun _ hlevel => absurd hlevel (Nat.not_lt_zero _), fun hu _ ha ho => ?swc1⟩,
    fun hu h2 ha ho => ?sdc1, fun h4 => ⟨State.needCop1x_fail _ h4, fun hu hr ha => ?swxc1⟩,
    fun h4 => ⟨State.needCop1x_fail _ h4, fun hu hr ha => ?sdxc1⟩⟩
  case swc1 => rw [exec_swc1 hu, State.withOffset_pass _ ha ho]; exact hstores hword a 4
  case sdc1 => rw [exec_sdc1 hu _ _ _ h2, State.withOffset_pass _ ha ho]; exact hstores hdword a 8
  case swxc1 => rw [exec_swxc1 hu _ _ h4, State.withIndex_pass _ hr ha]; exact hstores hword x 4
  case sdxc1 => rw [exec_sdxc1 hu _ _ h4, State.withIndex_pass _ hr ha]; exact hstores hdword x 8

/-! ### Moves between the CPU and the FPU -/

section
variable (s : State) (rt n : Reg)

theorem exec_mfc1 : exec (.mfc1 rt n) s = s.needCop 1 (s.moveFrom rt (s.wordMoved n)) := rfl
theorem exec_dmfc1 : exec (.dmfc1 rt n) s = s.needCop 1 (s.needFpLevel 3 (s.moveFrom rt (s.dwordOfFgr n))) := rfl
theorem exec_mtc1 : exec (.mtc1 rt n) s =
    s.needCop 1 (.next ((s.loadWordFgr n (lowWord (s.getGpr rt))).retireWith (s.moveToHazard [n]) .none)) := rfl
theorem exec_dmtc1 : exec (.dmtc1 rt n) s = s.needCop 1 (s.needFpLevel 3 (.next
    ((s.loadDwordFgr n (s.getGpr rt)).retireWith (s.moveToHazard (if s.fgr64 then [n] else [evenOf n, oddOf n])) .none))) :=
  rfl

end

theorem setWidth_eq_lowWord (v : Dword) : v.setWidth 32 = lowWord v := BitVec.setWidth_eq_extractLsb' (by decide)

/-- A move from the FPU of a value `v` that is known to be `x`. -/
theorem writesGpr_moveFrom {s : State} {v x : Dword} (rt : Reg) (h : v = x) : WritesGpr s (s.moveFrom rt v) rt x :=
  h ▸ writesGpr_retireWith s rt v _ _

/-- A move to the FPU, or a load into it, of a word. -/
theorem completes_loadWordFgr (s : State) (n : Reg) (w : Word) (hz : Hazards) :
    Completes s (.next ((s.loadWordFgr n w).retireWith hz .none)) (s.wordParts n) fun t =>
      regGet t.fgrLo n = w ∧ t.tagOf n = .uninterpreted := by
  have hlow : regGet (s.loadWordFgr n w).fgrLo n = w := by
    unfold State.loadWordFgr
    split
    · exact regGet_regSet_same _ _ _
    · exact regGet_regSet_same _ _ _
  exact completes_retireWith (Frame.loadWordFgr s n w) (.of_quiet (.loadWordFgr s n w) (by simp)) _ _
    ⟨hlow, State.tagOf_setTag _ n _⟩

/-- The same of a doubleword. -/
theorem completes_loadDwordFgr (s : State) (n : Reg) (v : Dword) (hz : Hazards) :
    Completes s (.next ((s.loadDwordFgr n v).retireWith hz .none)) (s.fprParts n) fun t =>
      (s.badFpr [n] = false → t.rawPair n = v) ∧ t.tagOf n = .uninterpreted := by
  have hpair (hnamed : s.badFpr [n] = false) : (s.loadDwordFgr n v).rawPair n = v := by
    unfold State.loadDwordFgr
    rw [← State.badFpr_singleton, hnamed]
    exact State.rawPair_setPair s n v
  exact completes_retireWith (Frame.loadDwordFgr s n v) (.of_quiet (.loadDwordFgr s n v) (by simp)) _ _
    ⟨hpair, State.tagOf_setTag _ n _⟩

/-- Settles O48: the moves from the FPU write what is read from the FGR or the FPR, the moves to it are loads of rt. -/
theorem movesBetweenCpuAndFpu : Obligations.MovesBetweenCpuAndFpu := by
  unfold Obligations.MovesBetweenCpuAndFpu
  intro s rt n known
  rw [exec_mfc1, exec_dmfc1, exec_mtc1, exec_dmtc1, setWidth_eq_lowWord]
  refine ⟨fpLeveled_zero fun hpass => ?mfc1, fpLeveled fun _ hpass => ?dmfc1, fpLeveled_zero fun hpass => ?mtc1,
    fpLeveled fun _ hpass => ?dmtc1⟩
  case mfc1 =>
    rw [hpass]
    exact ⟨fun ⟨htag, hmove⟩ => writesGpr_moveFrom rt (State.wordMoved_of_known htag hmove), _, writesGpr_moveFrom rt rfl⟩
  case dmfc1 =>
    rw [hpass]
    exact ⟨fun ⟨htag, _⟩ hnamed => writesGpr_moveFrom rt (State.dwordOfFgr_of_known htag hnamed), _,
      writesGpr_moveFrom rt rfl⟩
  case mtc1 => rw [hpass]; exact completes_loadWordFgr s n _ _
  case dmtc1 => rw [hpass]; exact completes_loadDwordFgr s n _ _

/-! ### The control registers -/

section
variable {s : State} (hctc : s.hazards.ctc = false)
include hctc

theorem State.readFcr_fcsr_precise (hmode : s.env.fpMode = .precise) : s.readFcr 31 = s.fcsr := by
  simp [State.readFcr, State.fcsrRead, hmode, State.fcsrView_of_no_ctc hctc]

/-- In imprecise mode the cause field is any value (R533). -/
theorem State.readFcr_fcsr_imprecise (hmode : s.env.fpMode = .imprecise) :
    ∃ cause, s.readFcr 31 = withCause s.fcsr cause :=
  ⟨(s.draw slotCause).extractLsb' 0 6, by simp [State.readFcr, State.fcsrRead, hmode, State.fcsrView_of_no_ctc hctc]⟩

end

/-- FCR0 has 16 bits, so that the sign bit of its word is 0. -/
theorem State.sextWord_readFcr_zero (s : State) : sextWord (s.readFcr 0) = s.fcr0.setWidth 64 := by
  have hsign : (s.fcr0.setWidth 32).msb = false := by simp [BitVec.msb_setWidth]
  calc (s.fcr0.setWidth 32).signExtend 64
      _ = (s.fcr0.setWidth 32).setWidth 64 := BitVec.signExtend_eq_setWidth_of_msb_false hsign
      _ = s.fcr0.setWidth 64 := BitVec.setWidth_setWidth (by decide)

theorem setWidth_causeOf (f : Word) : (causeOf f).setWidth 5 = f.extractLsb' 12 5 :=
  BitVec.setWidth_extractLsb'_of_le (by decide)

/-- Flags added to the FCSR's own. -/
theorem withFlags_or (f : Word) (g : BitVec 5) : withFlags f (flagsOf f ||| g) = f ||| (g.setWidth 32 <<< 2) := by
  have hmask : ∀ i < 32, (0xFFFFFF83#32).getLsbD i = decide (i < 2 ∨ 7 ≤ i) := by decide
  refine BitVec.eq_of_getLsbD_eq fun i hi => ?_
  simp only [withFlags, flagsOf, BitVec.getLsbD_or, BitVec.getLsbD_and, BitVec.getLsbD_shiftLeft, BitVec.getLsbD_setWidth,
    BitVec.getLsbD_extractLsb', hmask i hi]
  obtain hlow | ⟨h2, h7⟩ | hhigh : i < 2 ∨ (2 ≤ i ∧ i < 7) ∨ 7 ≤ i := by omega
  · simp [hlow]
  · simp [hi, show ¬ i < 2 by omega, show ¬ 7 ≤ i by omega, show i - 2 < 5 by omega, show i - 2 < 32 by omega,
      show 2 + (i - 2) = i by omega]
  · simp [hhigh, show ¬ i - 2 < 5 by omega]

theorem State.ctcFcsr_precise {s : State} (hmode : s.env.fpMode = .precise) (v : Word) : s.ctcFcsr v = v &&& s.fcsrMask := by
  simp only [State.ctcFcsr, hmode]

theorem State.ctcFcsr_imprecise {s : State} (hmode : s.env.fpMode = .imprecise) (v : Word) :
    s.ctcFcsr v = (v &&& s.fcsrMask) ||| (((v &&& s.fcsrMask).extractLsb' 12 5).setWidth 32 <<< 2) := by
  simp only [State.ctcFcsr, hmode, setWidth_causeOf, withFlags_or]

/-- The written FCSR traps by cause E, bit 17, or by a cause bit with its enable. -/
theorem ctcTraps_iff (f : Word) :
    ctcTraps f = true ↔ f.getLsbD 17 = true ∨ (f.extractLsb' 12 5 &&& f.extractLsb' 7 5) ≠ 0 := by
  have hunimplemented : (causeOf f).getLsbD 5 = f.getLsbD 17 := by simp [causeOf]
  rw [ctcTraps, hunimplemented, setWidth_causeOf, Bool.or_eq_true, bne_iff_ne]
  rfl

/-! ### Control moves -/

section
variable (s : State) (rt n : Reg)

theorem exec_cfc1 : exec (.cfc1 rt n) s = s.needCop 1 (s.moveFrom rt (sextWord (s.readFcr n))) := rfl
theorem exec_ctc1 : exec (.ctc1 rt n) s = s.needCop 1 (
    if n = 31 then s.writeFcsr (lowWord (s.getGpr rt))
    else if n = 0 then .next { s with fcr0 := (s.draw slotFcr0).extractLsb' 0 16 }.retire
    else .refused .noSuchControlRegister) := rfl

theorem completes_setFcr0 (v : BitVec 16) : Completes s (.next { s with fcr0 := v }.retire) [.fcr0] fun _ => True := by
  have hframe : Frame s { s with fcr0 := v } [.fcr0] := by constructor <;> simp
  exact completes_retire hframe ⟨rfl, rfl, rfl⟩ trivial

end

section
variable {s : State} {v : Word}

theorem State.writeFcsr_of_traps (h : ctcTraps (s.ctcFcsr v) = true) :
    s.writeFcsr v = .next (State.raise { s with fcsr := s.ctcFcsr v } (.floatingPoint (causeOf (s.ctcFcsr v)))) :=
  if_pos h

theorem completes_writeFcsr (h : ¬ ctcTraps (s.ctcFcsr v) = true) :
    Completes s (s.writeFcsr v) [.fcsr] fun t => t.fcsr = s.ctcFcsr v := by
  have hends : s.writeFcsr v = .next (State.retireWith { s with fcsr := s.ctcFcsr v }
      { Hazards.empty with ctc := decide (s.env.archLevel < 4) } .none) := if_neg h
  rw [hends]
  exact completes_retireWith (Frame.setFcsr s (s.ctcFcsr v)) ⟨rfl, rfl, rfl⟩ _ _ rfl

end

/-- Settles O49: CFC1 moves what is read from the control register; CTC1 goes by the register's number, and for the FCSR by
whether the value written traps. -/
theorem controlMovesReadAndWriteTheFcsr : Obligations.ControlMovesReadAndWriteTheFcsr := by
  unfold Obligations.ControlMovesReadAndWriteTheFcsr
  intro s rt n w v traps
  have hw : w = lowWord (s.getGpr rt) &&& s.fcsrMask := congrArg (· &&& s.fcsrMask) (setWidth_eq_lowWord (s.getGpr rt))
  have hv : v = s.ctcFcsr (lowWord (s.getGpr rt)) := by
    cases hmode : s.env.fpMode with
    | precise => simp only [v, hmode, hw, State.ctcFcsr_precise hmode]
    | imprecise => simp only [v, hmode, hw, State.ctcFcsr_imprecise hmode]
  have htraps : ctcTraps v = true ↔ traps := ctcTraps_iff v
  clear_value v
  rw [hv] at htraps
  rw [exec_cfc1, exec_ctc1, hv]
  refine ⟨fpLeveled_zero fun hpass => ?cfc1, fpLeveled_zero fun hpass => ?ctc1⟩
  case cfc1 =>
    rw [hpass]
    refine ⟨fun h31 hctc hmode => writesGpr_moveFrom rt ?readPrecise,
      fun h31 hctc hmode => ?readImprecise, fun h0 => writesGpr_moveFrom rt ?readFcr0,
      _, writesGpr_moveFrom rt rfl⟩
    case readPrecise => rw [h31, State.readFcr_fcsr_precise hctc hmode, sextWord]
    case readImprecise =>
      obtain ⟨cause, hread⟩ := State.readFcr_fcsr_imprecise hctc hmode
      exact ⟨cause, writesGpr_moveFrom rt (by rw [h31, hread, sextWord])⟩
    case readFcr0 => rw [h0, State.sextWord_readFcr_zero]
  case ctc1 =>
    rw [hpass]
    refine ⟨fun h31 hn => ?completes, fun h31 ht => ?raises, fun h0 => ?writeFcr0, fun h0 h31 => ?refused⟩
    case completes => rw [if_pos h31]; exact completes_writeFcsr (mt htraps.mp hn)
    case raises => rw [if_pos h31]; exact State.writeFcsr_of_traps (htraps.mpr ht)
    case writeFcr0 => rw [h0]; exact completes_setFcr0 s _
    case refused => rw [if_neg h31, if_neg h0]

end Sys2Proof.Machine
end

section
/-! PROOFS. The arithmetic instructions and the compares of the FPU deliver what their operation gives
(48_fpu_arith.md R581 to R602). -/

namespace Sys2Proof.Machine

/-! ### Arithmetic -/

/-- Settles O50: each instruction is its operation behind the level test, and `State.fpArith` delivers or steps aside. -/
theorem floatingPointArithmeticDelivers : Obligations.FloatingPointArithmeticDelivers := by
  unfold Obligations.FloatingPointArithmeticDelivers
  intro s fr ft fs fd z binary unary ternary
  have onTwo : ∀ fmt i g, exec i s = s.needCop 1 (s.fpBinary i fmt fs ft fd g) → binary fmt i g := by
    intro fmt i g hexec
    dsimp only [binary]
    rw [hexec]
    refine fpLeveled_zero fun hpass => ?_
    rw [hpass]
    exact ⟨fun _ _ hready => fpResult_fpBinary g hready, fpAside_fpArith s i fmt [fs, ft] (.fpr fd fmt) false _⟩
  have onOneFrom : ∀ n fmt i g, exec i s = s.needCop 1 (s.needFpLevel n (s.fpUnary i fmt fs fd g)) →
      unary fmt n i g := by
    intro n fmt i g hexec
    dsimp only [unary]
    rw [hexec]
    refine fpLeveled fun _ hpass => ?_
    rw [hpass]
    exact ⟨fun _ hready => fpResult_fpUnary g hready, fpAside_fpArith s i fmt [fs] (.fpr fd fmt) false _⟩
  have onOne : ∀ fmt i g, exec i s = s.needCop 1 (s.fpUnary i fmt fs fd g) → unary fmt 0 i g := fun fmt i g hexec =>
    onOneFrom 0 fmt i g (by rw [State.needFpLevel_pass _ (Nat.zero_le _)]; exact hexec)
  have onThree : ∀ fmt i sub neg, exec i s = s.fpTernary i fmt fr ft fs fd sub neg → ternary fmt i sub neg := by
    intro fmt i sub neg hexec
    dsimp only [ternary]
    rw [hexec]
    refine cop1xLeveled fun hpass => ⟨fun _ _ _ hready => fpResult_fpTernary sub neg hready hpass, ?_⟩
    have hout : s.fpTernary i fmt fr ft fs fd sub neg = _ := hpass
    rw [hout]
    exact fpAside_fpArith s i fmt [fs, ft, fr] (.fpr fd fmt) false _
  exact ⟨onTwo _ _ _ rfl, onTwo _ _ _ rfl, onTwo _ _ _ rfl, onTwo _ _ _ rfl, onTwo _ _ _ rfl, onTwo _ _ _ rfl,
    onTwo _ _ _ rfl, onTwo _ _ _ rfl, onOneFrom 2 _ _ _ rfl, onOneFrom 2 _ _ _ rfl, onOne .S (.absS fs fd) _ rfl,
    onOne .D (.absD fs fd) _ rfl, onOne .S (.negS fs fd) _ rfl, onOne .D (.negD fs fd) _ rfl, onOneFrom 4 _ _ _ rfl,
    onOneFrom 4 _ _ _ rfl, onOneFrom 4 _ _ _ rfl, onOneFrom 4 _ _ _ rfl, onThree _ _ _ _ rfl, onThree _ _ _ _ rfl,
    onThree _ _ _ _ rfl, onThree _ _ _ _ rfl, onThree _ _ _ _ rfl, onThree _ _ _ _ rfl, onThree _ _ _ _ rfl,
    onThree _ _ _ _ rfl⟩

/-! ### Compares -/

theorem isNaN_of_isSNaN {fmt : FpFmt} {b : Dword} (h : isSNaN fmt b = true) : isNaN fmt b = true := by
  unfold isSNaN at h
  split at h
  · next hv => exact (isNaN_iff fmt b).mpr ⟨_, hv⟩
  · nomatch h

/-- The condition code and Invalid Operation of a compare, by the bits of its condition (R600, Table B-21). -/
def comparison (fmt : FpFmt) (k : Nat) (a b : Dword) : Rounded :=
  let unordered := isNaN fmt a || isNaN fmt b
  let holds := (k.testBit 2 && !unordered && decide (orderKey fmt a < orderKey fmt b)) ||
    (k.testBit 1 && !unordered && decide (orderKey fmt a = orderKey fmt b)) || (k.testBit 0 && unordered)
  let invalidOp := isSNaN fmt a || isSNaN fmt b || (unordered && k.testBit 3)
  ⟨if invalidOp then condV else 0, (BitVec.ofBool holds).setWidth 64⟩

/-- A signaling NaN is a NaN, so that it makes the operands unordered. -/
theorem fpCompare_eq (fmt : FpFmt) (cond : BitVec 4) (a b : Dword) :
    fpCompare fmt cond a b = comparison fmt cond.toNat a b := by
  have hinvalid : ((isNaN fmt a || isNaN fmt b) && (cond.getLsbD 3 || isSNaN fmt a || isSNaN fmt b)) =
      (isSNaN fmt a || isSNaN fmt b || ((isNaN fmt a || isNaN fmt b) && cond.getLsbD 3)) := by
    have ha := isNaN_of_isSNaN (fmt := fmt) (b := a)
    have hb := isNaN_of_isSNaN (fmt := fmt) (b := b)
    revert ha hb
    generalize isNaN fmt a = na, isNaN fmt b = nb, isSNaN fmt a = sa, isSNaN fmt b = sb, cond.getLsbD 3 = c
    revert na nb sa sb c
    decide
  simp only [fpCompare, comparison, hinvalid, Bool.and_assoc]
  rfl

/-- Settles O51: each compare is `State.fpArith` with the bits of its condition, behind the test of its condition code. -/
theorem comparesSetTheConditionCode : Obligations.ComparesSetTheConditionCode := by
  unfold Obligations.ComparesSetTheConditionCode
  intro s ft fs cc badCode compares
  have compare : ∀ fmt (cond : BitVec 4) i, exec i s = s.fpCompareOp i fmt cond ft fs cc →
      compares fmt cond.toNat i := by
    intro fmt cond i hexec
    dsimp only [compares]
    rw [hexec, State.fpCompareOp]
    refine fpLeveled_zero fun hpass => ?_
    rw [hpass]
    refine ⟨fun hbad => if_pos hbad, fun hgood => ?_⟩
    rw [State.needCc, if_neg hgood]
    refine ⟨fpAside_fpArith s i fmt [fs, ft] (.cond cc) true _, fun x y hready => ?_⟩
    have h := fpResult_fpArith (d := .cond cc) true (fun _ vs => fpCompare fmt cond (vs.getD 0 0) (vs.getD 1 0)) hready
    simpa only [List.map_cons, List.map_nil, List.getD_cons_zero, List.getD_cons_succ, fpCompare_eq, comparison] using h
  exact ⟨compare _ 0 _ rfl, compare _ 0 _ rfl, compare _ 1 _ rfl, compare _ 1 _ rfl, compare _ 2 _ rfl, compare _ 2 _ rfl,
    compare _ 3 _ rfl, compare _ 3 _ rfl, compare _ 4 _ rfl, compare _ 4 _ rfl, compare _ 5 _ rfl, compare _ 5 _ rfl,
    compare _ 6 _ rfl, compare _ 6 _ rfl, compare _ 7 _ rfl, compare _ 7 _ rfl, compare _ 8 _ rfl, compare _ 8 _ rfl,
    compare _ 9 _ rfl, compare _ 9 _ rfl, compare _ 10 _ rfl, compare _ 10 _ rfl, compare _ 11 _ rfl, compare _ 11 _ rfl,
    compare _ 12 _ rfl, compare _ 12 _ rfl, compare _ 13 _ rfl, compare _ 13 _ rfl, compare _ 14 _ rfl, compare _ 14 _ rfl,
    compare _ 15 _ rfl, compare _ 15 _ rfl⟩

end Sys2Proof.Machine
end

section
/-! PROOFS. The reciprocals: the results among which the model chooses, and their distance from the exact number and from the
rounded one (48_fpu_arith.md R592, R593, notes/assumptions/43.md). -/

namespace Sys2Proof.Machine

/-! ### A magnitude pattern as a number -/

/-- The number of a finite magnitude pattern. -/
noncomputable def magNumber (fmt : FpFmt) (mag : Nat) : ℝ := (magParts fmt mag).1 * 2 ^ (magParts fmt mag).2

/-- The unit in the last place of a finite magnitude pattern. -/
noncomputable def magUlp (fmt : FpFmt) (mag : Nat) : ℝ := 2 ^ (magParts fmt mag).2

theorem infMag_lt (fmt : FpFmt) : infMag fmt < 2 ^ signPos fmt := by cases fmt <;> decide

theorem magField_fpPack {fmt : FpFmt} (neg : Bool) {mag : Nat} (h : mag < 2 ^ signPos fmt) :
    magField fmt (fpPack fmt neg mag) = mag := by
  rw [magField, fpPack_toNat neg h]
  cases neg <;> simp [Nat.mod_eq_of_lt h]

theorem finite_of_magField_lt {fmt : FpFmt} {b : Dword} (h : magField fmt b < infMag fmt) :
    (fpVal fmt b).finite = true := by
  have hexp : expField fmt b ≠ expMax fmt := fun he => by
    rw [magField_eq, he, magOf] at h
    exact absurd h (not_lt.mpr (Nat.le_add_right _ _))
  obtain ⟨he, -⟩ | ⟨he, -⟩ | ⟨he, hf⟩ | ⟨he, hf⟩ | ⟨he, hf⟩ := fpVal_fields fmt b
  · exact absurd he hexp
  · exact absurd he hexp
  · rw [fpVal_of_zero he hf]; rfl
  · rw [fpVal_of_denormal he hf]; rfl
  · rw [fpVal_of_normal he hf]; rfl

section
variable {fmt : FpFmt} {b : Dword}

/-- The parts of a magnitude pattern are those of the number that it is with either sign. -/
theorem magParts_magField (h : (fpVal fmt b).finite = true) :
    numberOf fmt b = signFactor (signField fmt b) * magNumber fmt (magField fmt b) ∧
      2 ^ ulpExp fmt b = magUlp fmt (magField fmt b) := by
  have hmag : magField fmt (BitVec.ofNat 64 (magField fmt b)) = magField fmt b :=
    magField_fpPack (fmt := fmt) false (Nat.mod_lt _ (Nat.two_pow_pos _))
  have he : expField fmt (BitVec.ofNat 64 (magField fmt b)) = expField fmt b := by rw [expField_eq, hmag, ← expField_eq]
  have hf : fracField fmt (BitVec.ofNat 64 (magField fmt b)) = fracField fmt b := by
    rw [fracField_eq, hmag, ← fracField_eq]
  have hmax := (expField_lt_of_finite h).ne
  unfold magNumber magUlp
  by_cases he0 : expField fmt b = 0
  · by_cases hf0 : fracField fmt b = 0
    · have hb := fpVal_of_zero he0 hf0
      have hp := two_le_precOf fmt
      simp only [magParts, fpVal_of_zero (he.trans he0) (hf.trans hf0), numberOf_zero hb, ulpExp, hb, Nat.cast_zero,
        zero_mul, mul_zero, true_and]
      congr 1
      omega
    · have hb := fpVal_of_denormal he0 hf0
      simp only [magParts, fpVal_of_denormal (he.trans he0) (hf ▸ hf0), numberOf_num hb, ulpExp, hb, hf, mul_assoc,
        and_self]
  · have hb := fpVal_of_normal hmax he0
    simp only [magParts, fpVal_of_normal (he ▸ hmax) (he ▸ he0), numberOf_num hb, ulpExp, hb, he, hf, mul_assoc,
      and_self]

/-- No unit is below that of the denormalized numbers. -/
theorem ulpExp_ge (h : (fpVal fmt b).finite = true) : eminOf fmt + 1 - precOf fmt ≤ ulpExp fmt b := by
  have hmax := (expField_lt_of_finite h).ne
  have hp := two_le_precOf fmt
  have hmin := eminOf_eq fmt
  by_cases he0 : expField fmt b = 0
  · by_cases hf0 : fracField fmt b = 0
    · simp only [ulpExp, fpVal_of_zero he0 hf0, le_refl]
    · simp only [ulpExp, fpVal_of_denormal he0 hf0]
      omega
  · simp only [ulpExp, fpVal_of_normal hmax he0]
    omega

/-- A number has at most p bits in units of its last place. -/
theorem abs_numberOf_lt (h : (fpVal fmt b).finite = true) : |numberOf fmt b| < 2 ^ (precOf fmt + ulpExp fmt b) := by
  obtain hz | ⟨m, e, -, hlt, hn⟩ := finite_cases h
  · rw [numberOf_zero hz, abs_zero]
    positivity
  · have hm : (m : ℝ) < 2 ^ (precOf fmt : ℤ) := by rw [zpow_natCast]; exact_mod_cast hlt
    have hulp : ulpExp fmt b = e := by simp only [ulpExp, hn]
    rw [numberOf_num hn, mul_assoc, abs_signFactor_mul, abs_of_nonneg (by positivity), hulp, zpow_add₀ two_ne_zero]
    exact mul_lt_mul_of_pos_right hm (by positivity)

end

/-! ### A number rounded once is within a unit in its last place -/

/-- Rounding to p bits does not fall below the leading bit. -/
theorem RoundsTo.leading_bit_le {mode : BitVec 2} {p : Nat} {e : Int} {x r : ℝ} (hp : 0 < p) (hx : 2 ^ e ≤ |x|)
    (h : RoundsTo mode (2 ^ (e + 1 - p)) x r) : (2 : ℝ) ^ e ≤ |r| := by
  obtain ⟨⟨k, hk⟩, hclose, -⟩ := h
  have hu : (0 : ℝ) < 2 ^ (e + 1 - p) := by positivity
  have hlead : (2 : ℝ) ^ e = ((2 ^ (p - 1) : ℤ) : ℝ) * 2 ^ (e + 1 - p) := by
    rw [Int.cast_pow, Int.cast_ofNat, ← zpow_natCast, ← zpow_add₀ two_ne_zero]
    congr 1
    omega
  have habs : |r| = ((|k| : ℤ) : ℝ) * 2 ^ (e + 1 - p) := by rw [hk, abs_mul, abs_of_pos hu, Int.cast_abs]
  have hnear : (2 : ℝ) ^ e - 2 ^ (e + 1 - p) < |r| := by
    have h1 := abs_sub_abs_le_abs_sub x r
    rw [abs_sub_comm] at h1
    linarith
  rw [hlead, habs] at *
  have hlt : ((2 ^ (p - 1) : ℤ) : ℝ) < ((|k| + 1 : ℤ) : ℝ) := by
    rw [Int.cast_add, Int.cast_one]
    refine lt_of_mul_lt_mul_right (a := (2 : ℝ) ^ (e + 1 - p)) ?_ hu.le
    linarith
  have hle : (2 ^ (p - 1) : ℤ) ≤ |k| := Int.lt_add_one_iff.mp (Int.cast_lt.mp hlt)
  exact mul_le_mul_of_nonneg_right (Int.cast_le.mpr hle) hu.le

/-- The conditions that a number rounded once can raise. -/
def roundingConds : BitVec 5 := condO ||| condU ||| condI

/-- Overflow, or Underflow with FS set: the rounded result is delivered as it is. -/
def Settled (f : Word) (o : Rounded) : Prop := o.conds &&& condO ≠ 0 ∨ (fsOf f = true ∧ o.conds &&& condU ≠ 0)

/-- `o` is the number `x`, of sign `neg`, to within a unit in its last place, and exactly when Inexact does not arise. -/
structure WithinUlp (fmt : FpFmt) (neg : Bool) (x : ℝ) (o : Rounded) : Prop where
  finite : (fpVal fmt o.bits).finite = true
  sign : signField fmt o.bits = neg
  close : |numberOf fmt o.bits - x| ≤ 2 ^ ulpExp fmt o.bits
  exact : o.conds &&& condI = 0 → numberOf fmt o.bits = x
  conds : o.conds &&& ~~~roundingConds = 0

theorem WithinUlp.of_fpIs {fmt : FpFmt} {neg : Bool} {x w u : ℝ} {o : Rounded} (h : FpIs fmt o.bits neg w)
    (hclose : |w - x| < u) (hu : u ≤ 2 ^ ulpExp fmt o.bits) (hexact : o.conds &&& condI = 0 → w = x)
    (hconds : o.conds &&& ~~~roundingConds = 0) : WithinUlp fmt neg x o := by
  obtain ⟨hfin, hsign, hw⟩ := h
  rw [← hw] at hclose hexact
  exact ⟨hfin, hsign, hclose.le.trans hu, hexact, hconds⟩

theorem TinyDelivers.withinUlp {fmt : FpFmt} {f : Word} {neg : Bool} {x d : ℝ} {o : Rounded}
    (h : TinyDelivers fmt f neg x d o) (hclose : |d - x| < 2 ^ (eminOf fmt + 1 - precOf fmt)) (ho : ¬ Settled f o) :
    WithinUlp fmt neg x o := by
  obtain ⟨hflush, hkeep⟩ := h
  by_cases hc : fsOf f = true ∧ d ≠ 0 ∧ |d| < 2 ^ eminOf fmt
  · exact absurd (.inr ⟨hc.1, by rw [(hflush hc).2]; decide⟩) ho
  obtain ⟨hd, hne, heq⟩ := hkeep hc
  refine .of_fpIs hd hclose (zpow_le_zpow_right₀ one_le_two (ulpExp_ge hd.1)) (fun hi => ?_) ?_
  · by_contra hdx
    rw [hne hdx] at hi
    exact absurd hi (by decide)
  · by_cases hdx : d = x
    · rw [heq hdx, BitVec.and_assoc, show condU &&& ~~~roundingConds = 0 by decide]
      exact BitVec.and_zero
    · rw [hne hdx]
      decide

theorem RoundedOnce.withinUlp {fmt : FpFmt} {f : Word} {neg : Bool} {x : ℝ} {o : Rounded}
    (h : RoundedOnce fmt f neg x o) (ho : ¬ Settled f o) : WithinUlp fmt neg x o := by
  obtain ⟨-, e, r, hlead, -, hround, hlarge, hsmall, hrange⟩ := h
  obtain hl | hl := le_or_gt (2 ^ (emaxOf fmt + 1 : ℤ)) |r|
  · obtain ⟨-, hboth, hlone⟩ := hlarge hl
    refine absurd (.inl ?_) ho
    by_cases hc : enablesOf f &&& condO = 0 ∨ r ≠ x
    · rw [hboth hc]; decide
    · obtain ⟨hen, hr⟩ := not_or.mp hc
      rw [hlone hen (not_not.mp hr)]; decide
  obtain hs | hs := lt_or_ge |r| (2 ^ eminOf fmt)
  · obtain ⟨d, ⟨-, hclose, -⟩, hd⟩ := hsmall hs
    exact hd.withinUlp hclose ho
  obtain ⟨hr, heq, hne⟩ := hrange hs hl
  have hunit : e + 1 - precOf fmt ≤ ulpExp fmt o.bits := by
    have hlo := hround.leading_bit_le (by have := two_le_precOf fmt; omega) hlead
    have hhi := abs_numberOf_lt hr.1
    rw [numberOf, hr.2.2] at hhi
    have := (zpow_lt_zpow_iff_right₀ one_lt_two).mp (hlo.trans_lt hhi)
    omega
  refine .of_fpIs hr hround.2.1 (zpow_le_zpow_right₀ one_le_two hunit) (fun hi => ?_) ?_
  · by_contra hrx
    rw [hne hrx] at hi
    exact absurd hi (by decide)
  · by_cases hrx : r = x
    · rw [heq hrx]; decide
    · rw [hne hrx]; decide

/-! ### Comparing scaled magnitudes -/

theorem natCast_shiftLeft_mul (m : Nat) {e low : Int} (h : low ≤ e) :
    ((m <<< (e - low).toNat : Nat) : ℝ) * 2 ^ low = m * 2 ^ e := by
  have hs := scaled_cast false m h
  rwa [show scaled false m e low = ((m <<< (e - low).toNat : Nat) : Int) from rfl, Int.cast_natCast,
    show signFactor false = 1 from rfl, one_mul] at hs

theorem scaledLe_iff (ma : Nat) (ea : Int) (mb : Nat) (eb : Int) :
    scaledLe ma ea mb eb = true ↔ (ma : ℝ) * 2 ^ ea ≤ mb * 2 ^ eb := by
  rw [scaledLe, decide_eq_true_iff, ← natCast_shiftLeft_mul ma (min_le_left ea eb),
    ← natCast_shiftLeft_mul mb (min_le_right ea eb), mul_le_mul_iff_left₀ (by positivity), Nat.cast_le]

/-- What lies between the multiples `m - n` and `m + n` of a unit is within `n` units of `m`. -/
theorem abs_sub_le_of_units {m n : Nat} {u x : ℝ} (hu : 0 ≤ u) (hlo : ((m - n : Nat) : ℝ) * u ≤ x)
    (hhi : x ≤ ((m + n : Nat) : ℝ) * u) : |m * u - x| ≤ n * u := by
  have hm : (m : ℝ) * u ≤ ((m - n : Nat) + n) * u :=
    mul_le_mul_of_nonneg_right (by exact_mod_cast le_tsub_add) hu
  push_cast at hhi
  rw [abs_le]
  constructor <;> linarith

theorem withinUlps_close {fmt : FpFmt} {n v mag : Nat} (h : withinUlps fmt n v mag = true) :
    |magNumber fmt v - magNumber fmt mag| ≤ n * magUlp fmt v := by
  simp only [withinUlps, Bool.and_eq_true, scaledLe_iff] at h
  exact abs_sub_le_of_units (by positivity) h.1 h.2

/-- The square of a multiple of a unit times a number is that of the multiple times the number's root. -/
theorem scaled_square (k m : Nat) (u e : Int) :
    ((k * k * m : Nat) : ℝ) * 2 ^ (2 * u + e) = (k * 2 ^ u * √(m * 2 ^ e)) ^ 2 := by
  rw [mul_pow, Real.sq_sqrt (by positivity), zpow_add₀ two_ne_zero, two_mul u, zpow_add₀ two_ne_zero]
  push_cast
  ring

section
variable {m : Nat} (e : Int) (hm : 0 < m) (k : Nat) (u : Int)
include hm

/-- A multiple `k` of `2^u` is at most the reciprocal of a number when their product is at most 1. -/
theorem scaledLe_recip_iff : scaledLe (k * m) (u + e) 1 0 = true ↔ (k : ℝ) * 2 ^ u ≤ 1 / (m * 2 ^ e) := by
  have hpos : (0 : ℝ) < m * 2 ^ e := mul_pos (Nat.cast_pos.mpr hm) (by positivity)
  rw [scaledLe_iff, le_div_iff₀ hpos, zpow_add₀ two_ne_zero]
  push_cast
  rw [zpow_zero, mul_one, mul_mul_mul_comm]

theorem recip_scaledLe_iff : scaledLe 1 0 (k * m) (u + e) = true ↔ 1 / (m * 2 ^ e) ≤ (k : ℝ) * 2 ^ u := by
  have hpos : (0 : ℝ) < m * 2 ^ e := mul_pos (Nat.cast_pos.mpr hm) (by positivity)
  rw [scaledLe_iff, div_le_iff₀ hpos, zpow_add₀ two_ne_zero]
  push_cast
  rw [zpow_zero, mul_one, mul_mul_mul_comm]

theorem scaledLe_rsqrt_iff : scaledLe (k * k * m) (2 * u + e) 1 0 = true ↔ (k : ℝ) * 2 ^ u ≤ 1 / √(m * 2 ^ e) := by
  have hpos : (0 : ℝ) < √(m * 2 ^ e) := Real.sqrt_pos.mpr (mul_pos (Nat.cast_pos.mpr hm) (by positivity))
  rw [scaledLe_iff, le_div_iff₀ hpos, scaled_square, Nat.cast_one, zpow_zero, mul_one,
    pow_le_one_iff_of_nonneg (by positivity) two_ne_zero]

theorem rsqrt_scaledLe_iff : scaledLe 1 0 (k * k * m) (2 * u + e) = true ↔ 1 / √(m * 2 ^ e) ≤ (k : ℝ) * 2 ^ u := by
  have hpos : (0 : ℝ) < √(m * 2 ^ e) := Real.sqrt_pos.mpr (mul_pos (Nat.cast_pos.mpr hm) (by positivity))
  rw [scaledLe_iff, div_le_iff₀ hpos, scaled_square, Nat.cast_one, zpow_zero, mul_one,
    one_le_pow_iff_of_nonneg (by positivity) two_ne_zero]

end

theorem recipClose_close {fmt : FpFmt} {m v : Nat} (e : Int) (hm : 0 < m) (h : recipClose fmt m e v = true) :
    |magNumber fmt v - 1 / (m * 2 ^ e)| ≤ (1 : Nat) * magUlp fmt v := by
  simp only [recipClose, Bool.and_eq_true, scaledLe_recip_iff e hm, recip_scaledLe_iff e hm] at h
  exact abs_sub_le_of_units (by positivity) h.1 h.2

theorem rsqrtClose_close {fmt : FpFmt} {m v : Nat} (e : Int) (hm : 0 < m) (h : rsqrtClose fmt m e v = true) :
    |magNumber fmt v - 1 / √(m * 2 ^ e)| ≤ (2 : Nat) * magUlp fmt v := by
  simp only [rsqrtClose, Bool.and_eq_true, scaledLe_rsqrt_iff e hm, rsqrt_scaledLe_iff e hm] at h
  exact abs_sub_le_of_units (by positivity) h.1 h.2

/-! ### The choice -/

/-- The magnitude `v` is a finite number within `n` units in its last place of the number `x` and of the magnitude `mag`. -/
structure NearMag (fmt : FpFmt) (n : Nat) (x : ℝ) (mag v : Nat) : Prop where
  finite : v < infMag fmt
  exact : |magNumber fmt v - x| ≤ n * magUlp fmt v
  rounded : |magNumber fmt v - magNumber fmt mag| ≤ n * magUlp fmt v

theorem nearMag_of_mem_candidates {fmt : FpFmt} {n mag v : Nat} {close : Nat → Bool} {x : ℝ}
    (hclose : close v = true → |magNumber fmt v - x| ≤ n * magUlp fmt v) (h : v ∈ candidates fmt mag n close) :
    NearMag fmt n x mag v := by
  obtain ⟨hnear, hkeep⟩ := List.mem_filter.mp h
  obtain ⟨-, hlt⟩ := List.mem_filter.mp hnear
  obtain ⟨hwithin, hc⟩ := Bool.and_eq_true_iff.mp hkeep
  exact ⟨of_decide_eq_true hlt, hclose hc, withinUlps_close hwithin⟩

theorem choose_cases (l : List Nat) (pick dflt : Nat) : choose l pick dflt ∈ l ∨ choose l pick dflt = dflt := by
  cases l with
  | nil => exact .inr rfl
  | cons a l =>
    have hlt := Nat.mod_lt pick (Nat.succ_pos l.length)
    rw [choose, List.getD_eq_getElem _ _ hlt]
    exact .inl (List.getElem_mem hlt)

section
variable {fmt : FpFmt} {f : Word} {neg : Bool} {r : Rounded} (isExact : Nat → Bool) (mags : List Nat) (pick : Nat)

/-- A settled result is delivered as it is. -/
theorem approximate_settled (h : Settled f r) : approximate fmt f neg r isExact mags pick = r := by
  have hc : (r.conds &&& condO != 0 || (fsOf f && r.conds &&& condU != 0)) = true := by
    simpa [Settled] using h
  exact if_pos hc

/-- The conditions of a chosen result: Underflow when `tiny`, Inexact when `inexact`. -/
def chosenConds (tiny inexact : Bool) : BitVec 5 := (if tiny then condU else 0) ||| (if inexact then condI else 0)

theorem chosenConds_inexact {tiny inexact : Bool} (h : chosenConds tiny inexact &&& condI = 0) : inexact = false := by
  revert tiny inexact; decide

theorem chosenConds_conds (tiny inexact : Bool) : chosenConds tiny inexact &&& ~~~roundingConds = 0 := by
  revert tiny inexact; decide

/-- Otherwise it may still be, or else one of the magnitudes is chosen, by default its own. -/
theorem approximate_cases (h : ¬ Settled f r) : approximate fmt f neg r isExact mags pick = r ∨
    ∃ v tiny, (v ∈ mags ∨ v = magField fmt r.bits) ∧
      approximate fmt f neg r isExact mags pick = ⟨chosenConds tiny !isExact v, fpPack fmt neg v⟩ := by
  have hc : ¬ (r.conds &&& condO != 0 || (fsOf f && r.conds &&& condU != 0)) = true := by
    simpa [Settled] using h
  unfold approximate
  rw [if_neg hc]
  dsimp only
  split
  · exact .inl rfl
  · exact .inr ⟨_, _, choose_cases mags pick _, rfl⟩

end

/-- The outcome of an approximate operation whose exact result is `x` (R592, R593). -/
def Approximates (fmt : FpFmt) (f : Word) (neg : Bool) (n x : ℝ) (o : Rounded) : Prop :=
  ∃ once, RoundedOnce fmt f neg x once ∧ (Settled f once → o = once) ∧
    (once.conds &&& condO = 0 → ¬ (fsOf f = true ∧ once.conds &&& condU ≠ 0) →
      (fpVal fmt o.bits).finite = true ∧ signField fmt o.bits = neg ∧
      |numberOf fmt o.bits - x| ≤ n * 2 ^ ulpExp fmt o.bits ∧
      |numberOf fmt o.bits - numberOf fmt once.bits| ≤ n * 2 ^ ulpExp fmt o.bits ∧
      (o.conds &&& condI = 0 → numberOf fmt o.bits = x) ∧ o.conds &&& ~~~roundingConds = 0)

section
variable {fmt : FpFmt} {f : Word} {neg : Bool} {r : Rounded} {n : Nat} {x : ℝ}

/-- The rounded result is itself near. -/
theorem WithinUlp.nearMag (h : WithinUlp fmt neg (signFactor neg * x) r) (hn : 1 ≤ n) :
    NearMag fmt n x (magField fmt r.bits) (magField fmt r.bits) := by
  obtain ⟨hnum, hulp⟩ := magParts_magField h.finite
  have hclose := h.close
  have hle : magUlp fmt (magField fmt r.bits) ≤ n * magUlp fmt (magField fmt r.bits) :=
    le_mul_of_one_le_left (by unfold magUlp; positivity) (by exact_mod_cast hn)
  rw [hnum, h.sign, hulp, ← mul_sub, abs_signFactor_mul] at hclose
  exact ⟨magField_lt_of_finite h.finite, hclose.trans hle, by rw [sub_self, abs_zero]; unfold magUlp; positivity⟩

/-- The choice of an approximate operation is near the exact and the rounded result. -/
theorem approximates_approximate {isExact : Nat → Bool} {mags : List Nat} (pick : Nat)
    (hround : RoundedOnce fmt f neg (signFactor neg * x) r) (hn : 1 ≤ n)
    (hnear : ∀ v ∈ mags, NearMag fmt n x (magField fmt r.bits) v)
    (hexact : ∀ v, isExact v = true → magNumber fmt v = x) :
    Approximates fmt f neg n (signFactor neg * x) (approximate fmt f neg r isExact mags pick) := by
  refine ⟨r, hround, approximate_settled isExact mags pick, fun hover hunder => ?_⟩
  have hsettled : ¬ Settled f r := not_or.mpr ⟨not_not.mpr hover, hunder⟩
  have hr := hround.withinUlp hsettled
  obtain ho | ⟨v, tiny, hv, ho⟩ := approximate_cases (neg := neg) isExact mags pick hsettled
  · rw [ho]
    have hle : (2 : ℝ) ^ ulpExp fmt r.bits ≤ n * 2 ^ ulpExp fmt r.bits :=
      le_mul_of_one_le_left (by positivity) (by exact_mod_cast hn)
    exact ⟨hr.finite, hr.sign, hr.close.trans hle, by rw [sub_self, abs_zero]; positivity, hr.exact, hr.conds⟩
  · have hv : NearMag fmt n x (magField fmt r.bits) v := hv.elim (hnear v) fun h => h ▸ hr.nearMag hn
    have hlt := hv.finite.trans (infMag_lt fmt)
    have hmag := magField_fpPack neg hlt
    have hsign := signField_fpPack neg hlt
    have hfin : (fpVal fmt (fpPack fmt neg v)).finite = true := finite_of_magField_lt (hmag.symm ▸ hv.finite)
    obtain ⟨hnum, hulp⟩ := magParts_magField hfin
    obtain ⟨hrnum, -⟩ := magParts_magField hr.finite
    rw [hmag] at hnum hulp
    rw [hsign] at hnum
    rw [hr.sign] at hrnum
    rw [ho]
    refine ⟨hfin, hsign, ?_, ?_, fun hi => ?_, chosenConds_conds _ _⟩
    · rw [hnum, hulp, ← mul_sub, abs_signFactor_mul]
      exact hv.exact
    · rw [hnum, hrnum, hulp, ← mul_sub, abs_signFactor_mul]
      exact hv.rounded
    · rw [hnum, hexact v (by simpa using chosenConds_inexact hi)]

end

/-! ### The two operations -/

theorem DeliversOnce.roundedOnce {fmt : FpFmt} {f : Word} {x : ℝ} {o : Rounded} (h : DeliversOnce fmt f x o) {neg : Bool}
    (hneg : neg = true ↔ x < 0) : RoundedOnce fmt f neg x o := by
  obtain ⟨s, hs⟩ := h
  have e : s = neg := Bool.eq_iff_iff.mpr (hs.1.trans hneg.symm)
  exact e ▸ hs

/-- The part of a unit by which the root of a quotient exceeds the integer root of the integer quotient. -/
theorem stickyPart_root_quotient (n : Nat) {d : Nat} (hd : 0 < d) :
    StickyPart (n % d != 0 || isqrt (n / d) * isqrt (n / d) != n / d) (√((n : ℝ) / d) - isqrt (n / d)) := by
  have hd' : (0 : ℝ) < d := Nat.cast_pos.mpr hd
  have hlo := Nat.sqrt_le (n / d)
  have hhi := Nat.lt_succ_sqrt (n / d)
  have hdiv := Nat.div_add_mod' n d
  have hmod := Nat.mod_lt n hd
  rw [isqrt_eq_sqrt]
  generalize (n / d).sqrt = s at *
  have hsq : s * s * d ≤ n / d * d := Nat.mul_le_mul_right d hlo
  have hnonneg : (s : ℝ) ≤ √((n : ℝ) / d) := by
    rw [Real.le_sqrt (Nat.cast_nonneg s) (by positivity), le_div_iff₀ hd']
    exact_mod_cast (by rw [sq]; omega : s ^ 2 * d ≤ n)
  have hlt : √((n : ℝ) / d) < s + 1 := by
    rw [Real.sqrt_lt' (by positivity), div_lt_iff₀ hd']
    have hnext : (n / d + 1) * d ≤ (s + 1) * (s + 1) * d := Nat.mul_le_mul_right d hhi
    rw [Nat.add_mul, Nat.one_mul] at hnext
    exact_mod_cast (by rw [sq]; omega : n < (s + 1) ^ 2 * d)
  refine ⟨sub_nonneg.mpr hnonneg, by linarith, ?_⟩
  rw [sub_pos, Real.lt_sqrt (Nat.cast_nonneg s), lt_div_iff₀ hd']
  have hiff : s ^ 2 * d < n ↔ n % d ≠ 0 ∨ s * s ≠ n / d := by
    rw [sq]
    constructor
    · intro h
      by_contra hn
      obtain ⟨h1, h2⟩ := not_or.mp hn
      rw [not_not.mp h2] at h
      omega
    · rintro (h | h)
      · omega
      · have := Nat.mul_lt_mul_of_pos_right (lt_of_le_of_ne hlo h) hd
        omega
  rw [Bool.or_eq_true, bne_iff_ne, bne_iff_ne, ← hiff]
  exact_mod_cast Iff.rfl

/-- The bits of the quotient of which `roundRsqrt` takes the root. -/
def rsqrtScale (fmt : FpFmt) (e : Int) : Nat := 4 * precOf fmt + 16 + (e % 2).toNat

theorem roundRsqrt_eq (fmt : FpFmt) (f : Word) (m : Nat) (e : Int) :
    let n := rsqrtScale fmt e
    let q := 2 ^ n / m
    roundRsqrt fmt f m e = roundResult fmt f false (isqrt q) ((-e - (n : Int)) / 2)
      (2 ^ n % m != 0 || isqrt q * isqrt q != q) := by
  simp only [roundRsqrt, Nat.one_shiftLeft]
  rfl

/-- The reciprocal of a root, in units of half the exponent. -/
theorem recip_sqrt_scaled (m n : Nat) {e k : Int} (h : -e - n = 2 * k) :
    1 / √((m : ℝ) * 2 ^ e) = √(((2 ^ n : Nat) : ℝ) / m) * 2 ^ k := by
  have he : -e = n + (k + k) := by omega
  rw [one_div, ← Real.sqrt_inv, mul_inv, ← zpow_neg, he, zpow_add₀ two_ne_zero, zpow_add₀ two_ne_zero, zpow_natCast,
    ← mul_assoc, Real.sqrt_mul (by positivity), Real.sqrt_mul_self (by positivity), inv_mul_eq_div]
  push_cast
  rfl

theorem deliversOnce_roundRsqrt (fmt : FpFmt) (f : Word) {m : Nat} (e : Int) (hm : 0 < m) (hlt : m < 2 ^ precOf fmt) :
    DeliversOnce fmt f (1 / √(m * 2 ^ e)) (roundRsqrt fmt f m e) := by
  have heven : -e - (rsqrtScale fmt e : Int) = 2 * ((-e - (rsqrtScale fmt e : Int)) / 2) := by unfold rsqrtScale; omega
  have hbits : 2 ^ (precOf fmt + 2) ≤ isqrt (2 ^ rsqrtScale fmt e / m) := by
    rw [isqrt_eq_sqrt, Nat.le_sqrt, ← pow_add, Nat.le_div_iff_mul_le hm]
    calc 2 ^ (precOf fmt + 2 + (precOf fmt + 2)) * m ≤ 2 ^ (precOf fmt + 2 + (precOf fmt + 2)) * 2 ^ precOf fmt :=
          Nat.mul_le_mul_left _ hlt.le
      _ = 2 ^ (3 * precOf fmt + 4) := by rw [← pow_add]; congr 1; omega
      _ ≤ 2 ^ rsqrtScale fmt e := Nat.pow_le_pow_right two_pos (by unfold rsqrtScale; omega)
  have h := (stickyPart_root_quotient (2 ^ rsqrtScale fmt e) hm).deliversOnce fmt f false
    ((-e - (rsqrtScale fmt e : Int)) / 2) hbits
  rw [add_sub_cancel, show signFactor false = 1 from rfl, one_mul, ← recip_sqrt_scaled m _ heven] at h
  rw [roundRsqrt_eq]
  exact h

section
variable {fmt : FpFmt} {a : Dword} (f : Word)

theorem fpRecip_num {neg : Bool} {m : Nat} {e : Int} (ha : fpVal fmt a = .num neg m e) (hm : 0 < m)
    (hlt : m < 2 ^ precOf fmt) : Approximates fmt f neg 1 (1 / numberOf fmt a) (fpRecip fmt f a) := by
  have hpos : (0 : ℝ) < 1 / (m * 2 ^ e) := one_div_pos.mpr (mul_pos (Nat.cast_pos.mpr hm) (by positivity))
  have hval : 1 / numberOf fmt a = signFactor neg * (1 / (m * 2 ^ e)) := by
    rw [numberOf_num ha]
    cases neg <;> simp [signFactor]
  have hround : RoundedOnce fmt f neg (signFactor neg * (1 / (m * 2 ^ e))) (roundQuotient fmt f neg 1 0 m e) := by
    have h := deliversOnce_roundQuotient fmt f neg 0 e one_pos hm hlt
    have hx : signFactor neg * ((1 : Nat) / (m : ℝ)) * 2 ^ (0 - e) = signFactor neg * (1 / (m * 2 ^ e)) := by
      rw [zero_sub, zpow_neg]
      push_cast
      field_simp
    rw [hx] at h
    exact h.roundedOnce (signFactor_neg_iff neg hpos)
  rw [hval]
  simp only [fpRecip, ha]
  exact_mod_cast approximates_approximate _ hround le_rfl
    (fun v => nearMag_of_mem_candidates (recipClose_close e hm))
    (fun v hv => by
      simp only [Bool.and_eq_true, scaledLe_recip_iff e hm, recip_scaledLe_iff e hm] at hv
      exact le_antisymm hv.1 hv.2)

theorem fpRsqrt_num {m : Nat} {e : Int} (ha : fpVal fmt a = .num false m e) (hm : 0 < m) (hlt : m < 2 ^ precOf fmt) :
    Approximates fmt f false 2 (1 / √(numberOf fmt a)) (fpRsqrt fmt f a) := by
  have hpos : (0 : ℝ) < 1 / √(m * 2 ^ e) :=
    one_div_pos.mpr (Real.sqrt_pos.mpr (mul_pos (Nat.cast_pos.mpr hm) (by positivity)))
  have hval : 1 / √(numberOf fmt a) = signFactor false * (1 / √(m * 2 ^ e)) := by
    rw [numberOf_num ha, show signFactor false = 1 from rfl, one_mul, one_mul]
  have hround : RoundedOnce fmt f false (signFactor false * (1 / √(m * 2 ^ e))) (roundRsqrt fmt f m e) := by
    have h := deliversOnce_roundRsqrt fmt f e hm hlt
    rw [← one_mul (1 / √_)] at h
    exact h.roundedOnce (signFactor_neg_iff false hpos)
  rw [hval]
  simp only [fpRsqrt, ha]
  exact_mod_cast approximates_approximate _ hround one_le_two
    (fun v => nearMag_of_mem_candidates (rsqrtClose_close e hm))
    (fun v hv => by
      simp only [Bool.and_eq_true, scaledLe_rsqrt_iff e hm, rsqrt_scaledLe_iff e hm] at hv
      exact le_antisymm hv.1 hv.2)

theorem fpRecip_zero {s : Bool} (ha : fpVal fmt a = .zero s) : fpRecip fmt f a = ⟨condZ, fpInf fmt s⟩ := by
  simp only [fpRecip, ha]

theorem fpRsqrt_zero {s : Bool} (ha : fpVal fmt a = .zero s) : fpRsqrt fmt f a = ⟨condZ, fpInf fmt s⟩ := by
  simp only [fpRsqrt, ha]

theorem fpRecip_inf {s : Bool} (ha : fpVal fmt a = .inf s) : fpRecip fmt f a = exactly (fpZero fmt s) := by
  simp only [fpRecip, ha]

theorem fpRsqrt_inf {s : Bool} (ha : fpVal fmt a = .inf s) :
    fpRsqrt fmt f a = if s then invalid fmt else exactly (fpZero fmt false) := by
  cases s <;> simp only [fpRsqrt, ha, Bool.false_eq_true, if_true, if_false]

theorem fpRsqrt_negative {m : Nat} {e : Int} (ha : fpVal fmt a = .num true m e) : fpRsqrt fmt f a = invalid fmt := by
  simp only [fpRsqrt, ha]

end

/-- Settles O56: a number's results are chosen among those near the exact and the rounded one; the rest by the kind of
operand. -/
theorem reciprocalsAreWithinTheirUlps : Obligations.ReciprocalsAreWithinTheirUlps := by
  unfold Obligations.ReciprocalsAreWithinTheirUlps
  intro fmt f a _ x sign within
  refine ⟨fun ha hx => ?recip, fun ha hx => ?rsqrt, fun ha => ⟨fpRecip_zero f ha, fpRsqrt_zero f ha⟩, fpRecip_inf f,
    fpRsqrt_inf f, fun ha hx => ?negative, fpRsqrt_inf f⟩
  case recip =>
    obtain ⟨m, e, hm, hlt, hn⟩ := num_of_number ha hx
    exact fpRecip_num f hn hm hlt
  case rsqrt =>
    obtain ⟨m, e, hm, hlt, hn⟩ := num_of_number ha hx.ne'
    have hsign : sign = false := Bool.eq_false_iff.mpr (mt (numberOf_neg_iff ha hx.ne').mp hx.not_gt)
    rw [show signField fmt a = false from hsign] at hn
    have h := fpRsqrt_num f hn hm hlt
    rw [← hsign] at h
    exact h
  case negative =>
    obtain ⟨m, e, -, -, hn⟩ := num_of_number ha hx.ne
    rw [(numberOf_neg_iff ha hx.ne).mpr hx] at hn
    exact fpRsqrt_negative f hn

end Sys2Proof.Machine
end

section
/-! PROOFS. The CPU arithmetic, comparisons and logical operations with an immediate and with two registers
(41_cpu_alu.md R262 to R290). -/

namespace Sys2Proof.Machine

/-! ### Values -/

theorem boolWord_decide (p : Prop) [Decidable p] : boolWord (decide p) = if p then 1 else 0 := by
  by_cases h : p <;> simp [boolWord, h]

theorem boolWord_lessS (a b : Dword) : boolWord (lessS a b) = if a.toInt < b.toInt then 1 else 0 := boolWord_decide _

theorem boolWord_lessU (a b : Dword) : boolWord (lessU a b) = if a.toNat < b.toNat then 1 else 0 := boolWord_decide _

theorem signExtend_setWidth_word (imm : BitVec 16) : (immS imm).setWidth 32 = imm.signExtend 32 :=
  BitVec.eq_of_getLsbD_eq fun i hi => by
    rw [immS, BitVec.getLsbD_setWidth, BitVec.getLsbD_signExtend, BitVec.getLsbD_signExtend]
    simp [hi, show i < 64 by omega]

theorem setWidth_sub_word (a b : Dword) : (a - b).setWidth 32 = a.setWidth 32 - b.setWidth 32 := by
  rw [BitVec.sub_eq_add_neg, BitVec.setWidth_add _ _ (by decide), BitVec.setWidth_neg_of_le (by decide),
    ← BitVec.sub_eq_add_neg]

theorem sextWord_add (a b : Dword) : sextWord (lowWord a + lowWord b) = ((a + b).setWidth 32).signExtend 64 := by
  rw [BitVec.setWidth_add _ _ (by decide), setWidth_eq_lowWord, setWidth_eq_lowWord, sextWord]

theorem sextWord_sub (a b : Dword) : sextWord (lowWord a - lowWord b) = ((a - b).setWidth 32).signExtend 64 := by
  rw [setWidth_sub_word, setWidth_eq_lowWord, setWidth_eq_lowWord, sextWord]

theorem lowWord_immS (imm : BitVec 16) : lowWord (immS imm) = imm.signExtend 32 :=
  (setWidth_eq_lowWord _).symm.trans (signExtend_setWidth_word imm)

/-! ### Word operands -/

section
variable {s : State} {a b : Dword}

theorem State.notWord_any_one (ha : s.isWord a) : [a].any s.notWord = false := by
  simp [show s.notWord a = false from ha]

theorem State.notWord_any_two (ha : s.isWord a) (hb : s.isWord b) : [a, b].any s.notWord = false := by
  simp [show s.notWord a = false from ha, show s.notWord b = false from hb]

end

/-- A word operation whose operands are word values writes its result. -/
theorem writesResult_wordResult {s : State} {operands : List Dword} (h : operands.any s.notWord = false)
    (srcs : List Reg) (r : Reg) {v w : Dword} (hv : v = w) :
    WritesResult s (s.writeResult srcs r (s.wordResult operands v)) srcs r w := by
  rw [State.wordResult_pass v h, hv]
  exact writesResult_writeResult s srcs r w

/-- Whatever its operands are, it writes some value. -/
theorem exists_writesGpr_writeResult (s : State) (srcs : List Reg) (r : Reg) (v : Dword) :
    ∃ w, WritesGpr s (s.writeResult srcs r v) r w := ⟨_, writesGpr_writeGpr s r _⟩

theorem writesResult_writeResult_eq (s : State) (srcs : List Reg) (r : Reg) {v w : Dword} (h : v = w) :
    WritesResult s (s.writeResult srcs r v) srcs r w := h ▸ writesResult_writeResult s srcs r v

/-! ### The statements -/

/-- Settles O17: each instruction writes its result, and the values are those of the rules. -/
theorem immediateInstructionsWriteRt : Obligations.ImmediateInstructionsWriteRt := by
  unfold Obligations.ImmediateInstructionsWriteRt
  intro s rs rt imm a
  have hsum : sextWord (lowWord a + imm.signExtend 32) = ((a + imm.signExtend 64).setWidth 32).signExtend 64 := by
    rw [← lowWord_immS, sextWord_add, immS]
  have hless : boolWord (lessS a (immS imm)) = if a.toInt < imm.toInt then 1 else 0 := by
    rw [boolWord_lessS, toInt_immS]
  refine ⟨fun ha => writesResult_wordResult (State.notWord_any_one ha) [rs] rt hsum,
    fun _ => exists_writesGpr_writeResult s [rs] rt _, writesResult_writeResult_eq s [rs] rt hless,
    writesResult_writeResult_eq s [rs] rt (boolWord_lessU a (immS imm)), writesResult_writeResult s [rs] rt (a &&& immZ imm),
    writesResult_writeResult s [rs] rt (a ||| immZ imm), writesResult_writeResult s [rs] rt (a ^^^ immZ imm),
    writesGpr_writeGpr s rt _, ?daddiu⟩
  case daddiu =>
    exact leveled_of_passed (fun out => WritesResult s out [rs] rt (a + immS imm)) (writesResult_writeResult s [rs] rt _)

/-- Settles O18: as O17, with the second register as the other operand. -/
theorem threeOperandInstructionsWriteRd : Obligations.ThreeOperandInstructionsWriteRd := by
  unfold Obligations.ThreeOperandInstructionsWriteRd
  intro s rs rt rd a b
  obtain ⟨v, hv⟩ := exists_writesGpr_writeResult s [rs, rt] rd (s.wordResult [a, b] (sextWord (lowWord a + lowWord b)))
  obtain ⟨w, hw⟩ := exists_writesGpr_writeResult s [rs, rt] rd (s.wordResult [a, b] (sextWord (lowWord a - lowWord b)))
  have writes (x : Dword) : WritesResult s (s.writeResult [rs, rt] rd x) [rs, rt] rd x := writesResult_writeResult s _ rd x
  refine ⟨fun ha hb => writesResult_wordResult (State.notWord_any_two ha hb) _ rd (sextWord_add a b),
    fun ha hb => writesResult_wordResult (State.notWord_any_two ha hb) _ rd (sextWord_sub a b), ⟨v, w, hv, hw⟩,
    writes (a &&& b), writes (a ||| b), writes (a ^^^ b), writes (~~~(a ||| b)),
    writesResult_writeResult_eq s _ rd (boolWord_lessS a b), writesResult_writeResult_eq s _ rd (boolWord_lessU a b),
    ?daddu, ?dsubu⟩
  case daddu => exact leveled_of_passed (fun out => WritesResult s out [rs, rt] rd (a + b)) (writes (a + b))
  case dsubu => exact leveled_of_passed (fun out => WritesResult s out [rs, rt] rd (a - b)) (writes (a - b))

/-! ### Integer Overflow -/

/-- The outcome writes the integer, or is Integer Overflow when it does not fit. -/
def Checks (s : State) (out : Out) (srcs : List Reg) (r : Reg) (n : Nat) (i : Int) : Prop :=
  (fits n i → WritesResult s out srcs r (BitVec.ofInt 64 i)) ∧ (¬ fits n i → Raises s out .integerOverflow)

theorem overflows_of_not_fits {n : Nat} {i : Int} (h : ¬ fits n i) : overflows n i = true :=
  Bool.eq_true_of_not_eq_false (mt (overflows_iff n i).mp h)

theorem checks_trappingDword (s : State) (srcs : List Reg) (r : Reg) {i : Int} {v : Dword} (hv : v = BitVec.ofInt 64 i) :
    Checks s (s.trappingDword srcs (overflows 63 i) r v) srcs r 63 i := by
  refine ⟨fun hfit => ?_, fun hnot => if_pos (overflows_of_not_fits hnot)⟩
  rw [State.trappingDword, (overflows_iff 63 i).mpr hfit]
  exact writesResult_writeResult_eq s srcs r hv

/-- The word that an integer which fits in 32 bits is, sign-extended, is the integer in 64 bits. -/
theorem sextWord_of_fits {w : Word} {i : Int} (hw : w = BitVec.ofInt 32 i) (h : fits 31 i) :
    sextWord w = BitVec.ofInt 64 i := by
  obtain ⟨hlo, hhi⟩ := h
  rw [hw]
  exact congrArg (BitVec.ofInt 64) (BitVec.toInt_ofInt_eq_self (by decide) hlo hhi)

theorem checks_trappingWord {s : State} {operands : List Dword} (h : operands.any s.notWord = false) (srcs : List Reg)
    (r : Reg) {i : Int} {w : Word} (hw : w = BitVec.ofInt 32 i) :
    Checks s (s.trappingWord srcs operands (overflows 31 i) r (sextWord w)) srcs r 31 i := by
  have htest : (if operands.any s.notWord then s.flipCoin slotTrap else overflows 31 i) = overflows 31 i := if_neg (by simp [h])
  rw [State.trappingWord, htest]
  refine ⟨fun hfit => ?_, fun hnot => if_pos (overflows_of_not_fits hnot)⟩
  rw [(overflows_iff 31 i).mpr hfit]
  exact writesResult_wordResult h srcs r (sextWord_of_fits hw hfit)

/-- Integer Overflow, or some value in the destination. -/
theorem trappingWord_ends (s : State) (srcs : List Reg) (operands : List Dword) (overflow : Bool) (r : Reg) (v : Dword) :
    Raises s (s.trappingWord srcs operands overflow r v) .integerOverflow ∨
      ∃ w, WritesGpr s (s.trappingWord srcs operands overflow r v) r w := by
  unfold State.trappingWord
  generalize (if operands.any s.notWord then s.flipCoin slotTrap else overflow) = traps
  cases traps
  case true => exact .inl rfl
  case false => exact .inr (exists_writesGpr_writeResult s srcs r _)

theorem ofInt_toInt_add {w : Nat} (a b : BitVec w) : a + b = BitVec.ofInt w (a.toInt + b.toInt) := by
  rw [BitVec.ofInt_add, BitVec.ofInt_toInt, BitVec.ofInt_toInt]

theorem ofInt_toInt_sub {w : Nat} (a b : BitVec w) : a - b = BitVec.ofInt w (a.toInt - b.toInt) := by
  rw [Int.sub_eq_add_neg, BitVec.ofInt_add, BitVec.ofInt_neg, BitVec.ofInt_toInt, BitVec.ofInt_toInt,
    BitVec.sub_eq_add_neg]

/-- Settles O19: the overflow test is `¬ fits` of the exact integer, and an integer that fits is what is written. -/
theorem trappingAdditionsTrapExactlyOnOverflow : Obligations.TrappingAdditionsTrapExactlyOnOverflow := by
  unfold Obligations.TrappingAdditionsTrapExactlyOnOverflow
  intro s rs rt rd imm a b checked either
  have himm : (imm.signExtend 32).toInt = imm.toInt := BitVec.toInt_signExtend_of_le (by decide)
  simp only [setWidth_eq_lowWord]
  refine ⟨fun ha hb => ⟨?add, ?sub⟩, fun _ => ⟨trappingWord_ends s _ _ _ rd _, trappingWord_ends s _ _ _ rd _⟩,
    fun _ => trappingWord_ends s _ _ _ rt _, fun ha => ?addi, ?dadd, ?daddi, ?dsub⟩
  case add => exact checks_trappingWord (State.notWord_any_two ha hb) _ rd (ofInt_toInt_add (lowWord a) (lowWord b))
  case sub => exact checks_trappingWord (State.notWord_any_two ha hb) _ rd (ofInt_toInt_sub (lowWord a) (lowWord b))
  case addi =>
    rw [← himm]
    exact checks_trappingWord (State.notWord_any_one ha) _ rt (ofInt_toInt_add (lowWord a) (imm.signExtend 32))
  case dadd =>
    exact leveled_of_passed (fun out => Checks s out [rs, rt] rd 63 (a.toInt + b.toInt))
      (checks_trappingDword s _ rd (ofInt_toInt_add a b))
  case daddi =>
    rw [← toInt_immS]
    exact leveled_of_passed (fun out => Checks s out [rs] rt 63 (a.toInt + (immS imm).toInt))
      (checks_trappingDword s _ rt (ofInt_toInt_add a (immS imm)))
  case dsub =>
    exact leveled_of_passed (fun out => Checks s out [rs, rt] rd 63 (a.toInt - b.toInt))
      (checks_trappingDword s _ rd (ofInt_toInt_sub a b))

end Sys2Proof.Machine
end

section
/-! PROOFS. The CPU shifts: products and quotients by powers of two (42_cpu_shift.md R302 to R320). -/

namespace Sys2Proof.Machine

/-! ### Shifts as products and quotients -/

section
variable {w : Nat} (x : BitVec w) (n : Nat)

theorem shiftLeft_eq_mul_ofNat : x <<< n = x * BitVec.ofNat w (2 ^ n) := by
  rw [BitVec.shiftLeft_eq_mul_twoPow]
  exact congrArg (x * ·) (BitVec.eq_of_toNat_eq (by rw [BitVec.toNat_twoPow, BitVec.toNat_ofNat]))

theorem ushiftRight_eq_ofNat_div : x >>> n = BitVec.ofNat w (x.toNat / 2 ^ n) := by
  rw [← Nat.shiftRight_eq_div_pow, ← BitVec.toNat_ushiftRight, BitVec.ofNat_toNat, BitVec.setWidth_eq]

theorem sshiftRight_eq_ofInt_div : x.sshiftRight n = BitVec.ofInt w (x.toInt / 2 ^ n) := by
  rw [BitVec.sshiftRight_eq, Int.shiftRight_eq_div_pow, Int.natCast_pow, Nat.cast_ofNat]

end

/-! ### The instructions -/

/-- A right word shift of a word value. -/
theorem writesResult_shiftWordRight {s : State} {rt : Reg} (h : s.isWord (s.getGpr rt)) (srcs : List Reg) (rd : Reg)
    {shift : Word → Word} {v : Word} (hv : shift (lowWord (s.getGpr rt)) = v) :
    WritesResult s (s.shiftWordRight srcs rt rd shift) srcs rd (v.signExtend 64) :=
  writesResult_wordResult (State.notWord_any_one h) srcs rd (congrArg sextWord hv)

/-- Settles O21: each instruction writes its shift, and the shifts are products and quotients by powers of two. -/
theorem shiftsWriteRd : Obligations.ShiftsWriteRd := by
  unfold Obligations.ShiftsWriteRd
  intro s rs rt rd sa b n m d isSext n6 writes
  have hb : lowWord d = b := (setWidth_eq_lowWord d).symm
  have left (k : Nat) : sextWord (lowWord d <<< k) = (b * BitVec.ofNat 32 (2 ^ k)).signExtend 64 := by
    rw [hb, shiftLeft_eq_mul_ofNat, sextWord]
  have logical (k : Nat) : lowWord d >>> k = BitVec.ofNat 32 (b.toNat / 2 ^ k) := by
    rw [hb, ushiftRight_eq_ofNat_div]
  have arithmetic (k : Nat) : (lowWord d).sshiftRight k = BitVec.ofInt 32 (b.toInt / 2 ^ k) := by
    rw [hb, sshiftRight_eq_ofInt_div]
  have some_value (srcs : List Reg) (shift : Word → Word) : ∃ v, WritesGpr s (s.shiftWordRight srcs rt rd shift) rd v :=
    exists_writesGpr_writeResult s srcs rd _
  have dword (srcs : List Reg) {v x : Dword} (h : v = x) : writes (s.needLevel 3 (s.writeResult srcs rd v)) srcs x :=
    leveled_of_passed (fun out => WritesResult s out srcs rd x) (writesResult_writeResult_eq s srcs rd h)
  refine ⟨⟨writesResult_writeResult_eq s _ rd (left m), writesResult_writeResult_eq s _ rd (left n), fun hd => ?words,
    fun _ => ?others⟩, dword _ (shiftLeft_eq_mul_ofNat d m), dword _ (shiftLeft_eq_mul_ofNat d (m + 32)),
    dword _ (ushiftRight_eq_ofNat_div d m), dword _ (ushiftRight_eq_ofNat_div d (m + 32)),
    dword _ (sshiftRight_eq_ofInt_div d m), dword _ (sshiftRight_eq_ofInt_div d (m + 32)),
    dword _ (shiftLeft_eq_mul_ofNat d n6), dword _ (ushiftRight_eq_ofNat_div d n6), dword _ (sshiftRight_eq_ofInt_div d n6)⟩
  case words =>
    exact ⟨writesResult_shiftWordRight hd _ rd (shift := (· >>> m)) (logical m),
      writesResult_shiftWordRight hd _ rd (shift := (· >>> n)) (logical n),
      writesResult_shiftWordRight hd _ rd (shift := (·.sshiftRight m)) (arithmetic m),
      writesResult_shiftWordRight hd _ rd (shift := (·.sshiftRight n)) (arithmetic n)⟩
  case others =>
    obtain ⟨v1, h1⟩ := some_value [rt] (· >>> m)
    obtain ⟨v2, h2⟩ := some_value [rt, rs] (· >>> n)
    obtain ⟨v3, h3⟩ := some_value [rt] (·.sshiftRight m)
    obtain ⟨v4, h4⟩ := some_value [rt, rs] (·.sshiftRight n)
    exact ⟨v1, v2, v3, v4, h1, h2, h3, h4⟩

end Sys2Proof.Machine
end

section
/-! PROOFS. Products and quotients in HI and LO (43_cpu_muldiv.md R332 to R347). -/

namespace Sys2Proof.Machine

/-! ### HI and LO -/

/-- The outcome leaves in HI and LO values of which `p` holds unless a source was moved to just before, and leaves them
pending (43_cpu_muldiv.md R339, 70_reset_and_hazards.md R824). -/
def LeavesHiLo (s : State) (out : Out) (srcs : List Reg) (p : Dword → Dword → Prop) : Prop :=
  Completes s out [.hi, .lo, .pendingHiLo] fun t => t.hiLoPending = true ∧ (s.movedGpr srcs = false → p t.hi t.lo)

theorem LeavesHiLo.mono {s : State} {out : Out} {srcs : List Reg} {p q : Dword → Dword → Prop}
    (h : LeavesHiLo s out srcs p) (hpq : ∀ hi lo, p hi lo → q hi lo) : LeavesHiLo s out srcs q :=
  Completes.mono h (List.Subset.refl _) fun _ ht => ⟨ht.1, fun hm => hpq _ _ (ht.2 hm)⟩

section
variable {s : State} (h : s.mayWriteHiLo true true)
include h

theorem leavesHiLo_computeHiLo (srcs : List Reg) (hi lo : Dword) :
    LeavesHiLo s (s.computeHiLo srcs hi lo) srcs fun x y => x = s.norm hi ∧ y = s.norm lo := by
  rw [State.computeHiLo, State.needHiLo_pass _ h]
  have hpending (u : State) : Frame u { u with hiLoPending := true } [.hi, .lo, .pendingHiLo] := by constructor <;> simp
  have hframe := ((Frame.setHiLo s (s.resultAt slotHi srcs hi) (s.resultAt slotLo srcs lo)).retire).mono
    (w := [.hi, .lo, .pendingHiLo]) (by simp)
  refine ⟨_, rfl, hframe.trans (hpending _), ⟨rfl, rfl, rfl, rfl⟩, rfl, fun hm => ?_⟩
  rw [State.resultAt_pass _ _ hm, State.resultAt_pass _ _ hm]
  exact ⟨rfl, rfl⟩

theorem leavesHiLo_computeWordHiLo {rs rt : Reg} (ha : s.isWord (s.getGpr rs)) (hb : s.isWord (s.getGpr2 rt))
    (hi lo : Word) :
    LeavesHiLo s (s.computeWordHiLo rs rt hi lo) [rs, rt] fun x y => x = s.norm (sextWord hi) ∧ y = s.norm (sextWord lo) := by
  have hpass : s.computeWordHiLo rs rt hi lo = s.computeHiLo [rs, rt] (sextWord hi) (sextWord lo) :=
    if_neg (by simp [show s.notWord _ = false from ha, show s.notWord _ = false from hb])
  rw [hpass]
  exact leavesHiLo_computeHiLo h _ _ _

theorem leavesHiLo_computeWordHiLo_any (rs rt : Reg) (hi lo : Word) :
    LeavesHiLo s (s.computeWordHiLo rs rt hi lo) [rs, rt] fun _ _ => True := by
  unfold State.computeWordHiLo
  split
  · exact (leavesHiLo_computeHiLo h _ _ _).mono fun _ _ _ => trivial
  · exact (leavesHiLo_computeHiLo h _ _ _).mono fun _ _ _ => trivial

theorem leavesHiLo_divideHiLo {zero : Bool} (hz : zero = false) (srcs : List Reg) (hi lo : Dword) :
    LeavesHiLo s (s.divideHiLo srcs zero hi lo) srcs fun x y => x = s.norm hi ∧ y = s.norm lo := by
  rw [State.divideHiLo, hz]
  exact leavesHiLo_computeHiLo h _ _ _

theorem leavesHiLo_divideHiLo_any (srcs : List Reg) (zero : Bool) (hi lo : Dword) :
    LeavesHiLo s (s.divideHiLo srcs zero hi lo) srcs fun _ _ => True := by
  cases zero
  case false => exact (leavesHiLo_computeHiLo h _ _ _).mono fun _ _ _ => trivial
  case true => exact (leavesHiLo_computeHiLo h _ _ _).mono fun _ _ _ => trivial

theorem leavesHiLo_divideWordHiLo {rs rt : Reg} (ha : s.isWord (s.getGpr rs)) (hb : s.isWord (s.getGpr2 rt))
    (hz : lowWord (s.getGpr2 rt) ≠ 0) (hi lo : Word) :
    LeavesHiLo s (s.divideWordHiLo rs rt hi lo) [rs, rt] fun x y => x = s.norm (sextWord hi) ∧ y = s.norm (sextWord lo) := by
  have hpass : s.divideWordHiLo rs rt hi lo =
      s.divideHiLo [rs, rt] (lowWord (s.getGpr2 rt) == 0) (sextWord hi) (sextWord lo) :=
    if_neg (by simp [show s.notWord _ = false from ha, show s.notWord _ = false from hb])
  rw [hpass]
  exact leavesHiLo_divideHiLo h (beq_false_of_ne hz) _ _ _

theorem leavesHiLo_divideWordHiLo_any (rs rt : Reg) (hi lo : Word) :
    LeavesHiLo s (s.divideWordHiLo rs rt hi lo) [rs, rt] fun _ _ => True := by
  unfold State.divideWordHiLo
  split
  · exact (leavesHiLo_computeHiLo h _ _ _).mono fun _ _ _ => trivial
  · exact leavesHiLo_divideHiLo_any h _ _ _ _

end

/-! ### Products -/

theorem extract_halves_append {w len : Nat} (x : BitVec (w + len)) : x.extractLsb' len w ++ x.extractLsb' 0 len = x :=
  BitVec.extractLsb'_append_extractLsb'

theorem signExtend_mul_signExtend {v w : Nat} (a b : BitVec v) :
    a.signExtend w * b.signExtend w = BitVec.ofInt w (a.toInt * b.toInt) := (BitVec.ofInt_mul _ _).symm

theorem setWidth_mul_setWidth {v w : Nat} (a b : BitVec v) :
    a.setWidth w * b.setWidth w = BitVec.ofNat w (a.toNat * b.toNat) := by
  rw [BitVec.ofNat_mul, BitVec.ofNat_toNat, BitVec.ofNat_toNat]

/-- Settles O22: each instruction leaves the halves of its product. -/
theorem multipliesGiveTheWholeProduct : Obligations.MultipliesGiveTheWholeProduct := by
  unfold Obligations.MultipliesGiveTheWholeProduct
  intro s rs rt h a b leaves
  simp only [setWidth_eq_lowWord]
  have dword {p v : BitVec (64 + 64)} (hp : p = v) : LeavesHiLo s
      (s.computeHiLo [rs, rt] (p.extractLsb' 64 64) (p.extractLsb' 0 64)) [rs, rt] fun hi lo =>
        ∃ h l : Dword, hi = s.norm h ∧ lo = s.norm l ∧ h ++ l = v :=
    (leavesHiLo_computeHiLo h _ _ _).mono fun _ _ ⟨hhi, hlo⟩ =>
      ⟨_, _, hhi, hlo, (extract_halves_append (w := 64) (len := 64) p).trans hp⟩
  refine ⟨fun ha hb => ?words, fun _ => ⟨leavesHiLo_computeWordHiLo_any h _ _ _ _, leavesHiLo_computeWordHiLo_any h _ _ _ _⟩,
    ?dmult, ?dmultu⟩
  case words =>
    have word {p v : BitVec (32 + 32)} (hp : p = v) : LeavesHiLo s
        (s.computeWordHiLo rs rt (p.extractLsb' 32 32) (p.extractLsb' 0 32)) [rs, rt] fun hi lo =>
          ∃ h l : Word, hi = s.norm (h.signExtend 64) ∧ lo = s.norm (l.signExtend 64) ∧ h ++ l = v :=
      (leavesHiLo_computeWordHiLo h ha hb _ _).mono fun _ _ ⟨hhi, hlo⟩ =>
        ⟨_, _, hhi, hlo, (extract_halves_append (w := 32) (len := 32) p).trans hp⟩
    exact ⟨word (signExtend_mul_signExtend (lowWord a) (lowWord b)), word (setWidth_mul_setWidth (lowWord a) (lowWord b))⟩
  case dmult =>
    exact leveled_of_passed (fun out => LeavesHiLo s out [rs, rt] _) (dword (signExtend_mul_signExtend a b))
  case dmultu =>
    exact leveled_of_passed (fun out => LeavesHiLo s out [rs, rt] _) (dword (setWidth_mul_setWidth a b))

/-! ### Quotients -/

/-- `q` and `r` are the quotient and the remainder of `n` by `d`, rounded toward zero (R336). -/
def Divides (n d q r : Int) : Prop := n = q * d + r ∧ r.natAbs < d.natAbs ∧ (0 ≤ n → 0 ≤ r) ∧ (n ≤ 0 → r ≤ 0)

theorem divides_tdiv_tmod (n : Int) {d : Int} (hd : d ≠ 0) : Divides n d (n.tdiv d) (n.tmod d) := by
  refine ⟨(Int.tdiv_mul_add_tmod n d).symm, ?_, Int.tmod_nonneg d, fun hn => ?_⟩
  · rw [Int.natAbs_tmod]
    exact Nat.mod_lt _ (Int.natAbs_pos.mpr hd)
  · have h := Int.tmod_nonneg d (show 0 ≤ -n by omega)
    rw [Int.neg_tmod] at h
    omega

theorem divides_div_mod (n : Nat) {d : Nat} (hd : 0 < d) : Divides n d (n / d : Nat) (n % d : Nat) := by
  have hlt := Nat.mod_lt n hd
  refine ⟨?_, by omega, fun _ => by omega, fun hn => ?_⟩
  · exact_mod_cast (Nat.div_add_mod' n d).symm
  · have hzero : n = 0 := by omega
    simp [hzero]

theorem toInt_ne_zero {w : Nat} {x : BitVec w} (h : x ≠ 0) : x.toInt ≠ 0 := fun h0 => h (BitVec.eq_of_toInt_eq (by simpa using h0))

theorem toNat_pos_of_ne_zero {w : Nat} {x : BitVec w} (h : x ≠ 0) : 0 < x.toNat :=
  Nat.pos_of_ne_zero fun h0 => h (BitVec.eq_of_toNat_eq (by simpa using h0))

/-- `hi` and `lo` are the remainder and the quotient of two integers, as `value` writes them. -/
def State.IsIntQuotient (s : State) (value : Int → Dword) (n d : Int) (hi lo : Dword) : Prop :=
  ∃ q r : Int, Divides n d q r ∧ lo = s.norm (value q) ∧ hi = s.norm (value r)

/-- The same of two natural numbers. -/
def State.IsNatQuotient (s : State) (value : Nat → Dword) (n d : Nat) (hi lo : Dword) : Prop :=
  ∃ q r : Nat, Divides n d q r ∧ lo = s.norm (value q) ∧ hi = s.norm (value r)

theorem State.isIntQuotient {s : State} (value : Int → Dword) (n : Int) {d : Int} (hd : d ≠ 0) {hi lo : Dword}
    (hhi : hi = s.norm (value (n.tmod d))) (hlo : lo = s.norm (value (n.tdiv d))) : s.IsIntQuotient value n d hi lo :=
  ⟨_, _, divides_tdiv_tmod n hd, hlo, hhi⟩

theorem State.isNatQuotient {s : State} (value : Nat → Dword) (n : Nat) {d : Nat} (hd : 0 < d) {hi lo : Dword}
    (hhi : hi = s.norm (value (n % d))) (hlo : lo = s.norm (value (n / d))) : s.IsNatQuotient value n d hi lo :=
  ⟨_, _, divides_div_mod n hd, hlo, hhi⟩

/-- Settles O23: each instruction leaves its quotient and its remainder. -/
theorem divisionsGiveQuotientAndRemainder : Obligations.DivisionsGiveQuotientAndRemainder := by
  unfold Obligations.DivisionsGiveQuotientAndRemainder
  intro s rs rt h a b leaves divides
  simp only [setWidth_eq_lowWord]
  refine ⟨fun ha hb hz => ⟨?div, ?divu⟩,
    fun _ => ⟨leavesHiLo_divideWordHiLo_any h _ _ _ _, leavesHiLo_divideWordHiLo_any h _ _ _ _⟩, ?ddiv, ?ddivu⟩
  case div =>
    have hout := leavesHiLo_divideWordHiLo h ha hb hz
    exact (hout _ _).mono (q := s.IsIntQuotient (fun q => (BitVec.ofInt 32 q).signExtend 64) _ _) fun _ _ ⟨hhi, hlo⟩ =>
      State.isIntQuotient _ _ (toInt_ne_zero hz) hhi hlo
  case divu =>
    have hout := leavesHiLo_divideWordHiLo h ha hb hz (lowWord a % lowWord b) (lowWord a / lowWord b)
    exact hout.mono (q := s.IsNatQuotient (fun q => (BitVec.ofNat 32 q).signExtend 64) _ _) fun _ _ ⟨hhi, hlo⟩ =>
      State.isNatQuotient _ _ (toNat_pos_of_ne_zero hz) (hhi.trans (by rw [BitVec.umod_def, sextWord]))
        (hlo.trans (by rw [BitVec.udiv_def, sextWord]))
  case ddiv =>
    have hout (hz : b ≠ 0) := leavesHiLo_divideHiLo h (beq_false_of_ne hz) [rs, rt]
    exact leveled_of_passed (fun out => (b ≠ 0 → LeavesHiLo s out [rs, rt] (s.IsIntQuotient (BitVec.ofInt 64) _ _)) ∧
        (b = 0 → LeavesHiLo s out [rs, rt] fun _ _ => True))
      ⟨fun hz => (hout hz _ _).mono fun _ _ ⟨hhi, hlo⟩ => State.isIntQuotient _ _ (toInt_ne_zero hz) hhi hlo,
        fun _ => leavesHiLo_divideHiLo_any h _ _ _ _⟩
  case ddivu =>
    have hout (hz : b ≠ 0) := leavesHiLo_divideHiLo h (beq_false_of_ne hz) [rs, rt] (a % b) (a / b)
    exact leveled_of_passed (fun out => (b ≠ 0 → LeavesHiLo s out [rs, rt] (s.IsNatQuotient (BitVec.ofNat 64) _ _)) ∧
        (b = 0 → LeavesHiLo s out [rs, rt] fun _ _ => True))
      ⟨fun hz => (hout hz).mono fun _ _ ⟨hhi, hlo⟩ => State.isNatQuotient _ _ (toNat_pos_of_ne_zero hz)
          (hhi.trans (by rw [BitVec.umod_def])) (hlo.trans (by rw [BitVec.udiv_def])),
        fun _ => leavesHiLo_divideHiLo_any h _ _ _ _⟩

end Sys2Proof.Machine
end

section
/-! PROOFS. The CPU loads, aligned and of part of a unit, and the linked loads and store-conditionals
(40_cpu_load_store.md R204 to R210, R215 to R218, R227 to R229, R233, R234). -/

namespace Sys2Proof.Machine

/-! ### The value read -/

theorem State.memValue_lt {s : State} {k : AccessKind} {a : Dword} {back n : Nat} {ps : List Nat}
    (h : s.Reaches k a back n ps) (hn : n ≤ 8) : (s.memValue ps).toNat < 2 ^ (8 * n) := by
  have hlength : (ps.map (memRead s.mem)).length = n := by
    rw [List.length_map]
    exact (State.dataBytes_nodup h).2
  have hlt := joinBytes_lt s.bigEndianCPU (bs := ps.map (memRead s.mem)) (by omega)
  rwa [hlength] at hlt

theorem setWidth_setWidth_of_toNat_lt {v : Dword} {n : Nat} (h : v.toNat < 2 ^ n) : (v.setWidth n).setWidth 64 = v := by
  refine BitVec.eq_of_toNat_eq ?_
  rw [BitVec.toNat_setWidth, BitVec.toNat_setWidth, Nat.mod_eq_of_lt h, Nat.mod_eq_of_lt v.isLt]

/-! ### Aligned loads -/

/-- Settles O25: each instruction is an aligned load, and zero extension leaves the value of its bytes as it is. -/
theorem alignedLoadsExtendTheValue : Obligations.AlignedLoadsExtendTheValue := by
  unfold Obligations.AlignedLoadsExtendTheValue
  intro s base rt offset a reads
  have loads (n : Nat) (ext : Dword → Dword) : reads (s.loadAligned n base rt offset ext) n ext :=
    fun _ ha ho hr => writesResult_loadAligned ext ha ho hr
  have unsigned (n w : Nat) (hn : 2 ^ n ≤ 8) (hw : w = 8 * 2 ^ n) :
      reads (s.loadAligned n base rt offset id) n fun v => (v.setWidth w).setWidth 64 := by
    intro ps ha ho hr
    subst hw
    dsimp only
    rw [setWidth_setWidth_of_toNat_lt (State.memValue_lt hr hn)]
    exact loads n id ps ha ho hr
  refine ⟨loads 0 fun v => (v.setWidth 8).signExtend 64, unsigned 0 8 (by decide) (by decide),
    loads 1 fun v => (v.setWidth 16).signExtend 64, unsigned 1 16 (by decide) (by decide), ?lw, ?lwu, fun h3 => ?ld⟩
  case lw =>
    simp only [setWidth_eq_lowWord]
    exact loads 2 fun v => sextWord (lowWord v)
  case lwu =>
    exact leveled_of_passed (fun out => reads out 2 fun v => (v.setWidth 32).setWidth 64)
      (unsigned 2 32 (by decide) (by decide))
  case ld =>
    rw [exec_ld h3]
    exact loads 3 id

/-! ### Loads of part of a unit -/

/-- A load of part of a unit that goes through. -/
theorem writesResult_loadPart {s : State} {span : Nat × Nat} {base rt : Reg} {offset : BitVec 16}
    {merge : Nat → Dword → Dword → Dword} {ps : List Nat} {v : Dword}
    (hr : s.Reaches .load (s.effAddr base offset) span.1 span.2 ps)
    (hv : merge span.2 (s.memValue ps) (s.getGpr2 rt) = v) :
    WritesResult s (s.loadPart span base rt offset merge) [base, rt] rt v := by
  subst hv
  exact ⟨_, fun hm => State.result_pass _ hm, completes_access _ hr (writesGpr_retireWith s rt _ _ _) fun _ h => h⟩

theorem one_shiftLeft_eq_pow (n : Nat) : 1#64 <<< n = 2 ^ n := by
  rw [shiftLeft_eq_mul_ofNat, BitVec.one_mul, BitVec.ofNat_pow]
  rfl

theorem mergeLeft_eq (unit n : Nat) (v old : Dword) : mergeLeft unit n v old =
    (v <<< (8 * (unit - n))) ||| (old &&& (2 ^ (8 * (unit - n)) - 1)) := by
  rw [mergeLeft, one_shiftLeft_eq_pow]

theorem State.lwrResult_keep {s : State} {n : Nat} (hn : n ≠ 4) (h : s.env.is64 = true ∧ s.env.lwrUpper = .keep)
    (v old : Dword) : s.lwrResult n v old = mergeRight n v old := by
  obtain ⟨h64, hkeep⟩ := h
  simp [State.lwrResult, hn, h64, hkeep]

theorem State.lwrResult_signExtend {s : State} {n : Nat} (h : s.env.is64 = false ∨ s.env.lwrUpper = .signExtend)
    (v old : Dword) : s.lwrResult n v old = sextWord (lowWord (mergeRight n v old)) := by
  rcases h with h32 | hsign
  · simp [State.lwrResult, h32]
  · simp [State.lwrResult, hsign]

/-- Settles O30: each instruction is a load of the bytes of its span, and its merge is the one of its rule. -/
theorem unalignedLoadsMergeIntoRt : Obligations.UnalignedLoadsMergeIntoRt := by
  unfold Obligations.UnalignedLoadsMergeIntoRt
  intro s base rt offset a old be reads left right l4 r4 l8 r8 onto
  have loads (span : Nat × Nat) {merge : Nat → Dword → Dword → Dword} {f : Dword → Dword}
      (hmerge : ∀ v, merge span.2 v old = f v) : reads (s.loadPart span base rt offset merge) span f :=
    fun _ hr => writesResult_loadPart hr (hmerge _)
  simp only [setWidth_eq_lowWord]
  refine ⟨loads l4 (merge := fun n v old => sextWord (lowWord (mergeLeft 4 n v old)))
    fun v => congrArg (fun m => sextWord (lowWord m)) (mergeLeft_eq 4 l4.2 v old), fun hwhole ps hr => ?whole,
    fun hn hkeep => loads r4 fun v => State.lwrResult_keep hn hkeep v old,
    fun _ hsign => loads r4 fun v => State.lwrResult_signExtend hsign v old, ?ldl, ?ldr⟩
  case whole =>
    have hlt := State.memValue_lt hr (by omega)
    rw [hwhole] at hlt
    refine writesResult_loadPart hr ?_
    rw [show (rightSpan s.bigEndianCPU 4 (a.toNat % 4)).2 = 4 from hwhole]
    exact State.lwrResult_whole s hlt _
  case ldl =>
    exact leveled_of_passed (fun out => reads out l8 fun v =>
      (v <<< (8 * (8 - l8.2))) ||| (old &&& (2 ^ (8 * (8 - l8.2)) - 1))) (loads l8 fun v => mergeLeft_eq 8 l8.2 v old)
  case ldr => exact leveled_of_passed (fun out => reads out r8 (onto r8.2)) (loads r8 (merge := mergeRight) fun _ => rfl)

/-! ### Linked loads -/

/-- Settles O33: a linked load at an aligned cached address is a load that also writes LLbit and the record of the link. -/
theorem linkedLoadsBeginASequence : Obligations.LinkedLoadsBeginASequence := by
  unfold Obligations.LinkedLoadsBeginASequence
  intro s base rt offset a links
  have linked (n : Nat) (ext : Dword → Dword) : links (s.loadLinked n base rt offset ext) n ext := by
    intro ps pa ty ha ho htr hc hr
    rw [State.loadLinked_pass ext ha ho htr hc]
    refine completes_access _ hr ?_ fun _ h => h
    have hload := (writesGpr_writeGpr s rt (s.result [base] (ext (s.memValue ps)))).mono (w := [.gpr rt, .link])
      (q := fun t => s.movedGpr [base] = false →
        regGet t.gpr rt = if rt = 0 then regGet s.gpr 0 else s.norm (ext (s.memValue ps)))
      (by simp) fun _ hvalue hm => by rwa [State.result_pass _ hm] at hvalue
    exact hload.setLink (by simp) true (some ⟨a, pa, ty, decide (n = 3)⟩) fun _ h => h
  refine ⟨?ll, leveled_of_passed (fun out => links out 3 fun v => v) (linked 3 id)⟩
  case ll =>
    simp only [setWidth_eq_lowWord]
    exact leveled_of_passed (fun out => links out 2 fun v => (lowWord v).signExtend 64)
      (linked 2 fun v => sextWord (lowWord v))

/-! ### Store-conditionals -/

/-- A store-conditional at an aligned cached address that breaks a condition of R233. -/
theorem State.storeConditional_broken {s : State} {n : Nat} {base : Reg} (rt : Reg) {offset : BitVec 16} {pa : Nat}
    {ty : AccessType} (ha : alignedAt n (s.effAddr base offset)) (ho : s.offsetOk n offset)
    (htr : s.translate .store (s.effAddr base offset) = .ok (pa, ty)) (hc : ty.cached = true)
    (hlink : s.llRecord = none ∨
      (s.llbit = true ∧ s.llRecord ≠ some ⟨s.effAddr base offset, pa, ty, decide (n = 3)⟩)) :
    s.storeConditional n base rt offset = s.access .store (s.effAddr base offset) 0 (2 ^ n) fun ps =>
      { ((s.storeBytes ps (s.draw slotStore)).setGpr rt (s.draw slotResult)).retire with llbit := false } := by
  have hbroken : s.linkBroken ⟨s.effAddr base offset, pa, ty, decide (n = 3)⟩ = true := by
    rcases hlink with hnone | ⟨hbit, hother⟩
    · simp [State.linkBroken, hnone]
    · simp [State.linkBroken, hbit, hother]
  refine (State.needAligned_pass _ ha).trans ((State.needOffset_pass _ ho).trans ((State.orRaise_ok _ htr).trans ?_))
  exact (if_neg (by simp [hc])).trans (if_pos hbroken)

/-- A store and then a write of a general register, in one instruction. -/
theorem completes_storeBytes_setGpr {s : State} {k : AccessKind} {a : Dword} {back n : Nat} {ps : List Nat}
    (h : s.Reaches k a back n ps) (v : Dword) (rt : Reg) (w : Dword) :
    Completes s (.next ((s.storeBytes ps v).setGpr rt w).retire) (.gpr rt :: .link :: ps.map .byte) fun t =>
      ps.map (memRead t.mem) = splitBytes s.bigEndianCPU n v ∧
      regGet t.gpr rt = if rt = 0 then regGet s.gpr 0 else s.norm w := by
  obtain ⟨t, hnext, -, -, hbytes⟩ := completes_storeBytes v h
  cases hnext
  have hstore := (Frame.storeBytes s ps v).mono (w := .gpr rt :: .link :: ps.map .byte) fun _ hp => by simp [hp]
  have hwrite := (Frame.setGpr (s.storeBytes ps v) rt w).mono (w := .gpr rt :: .link :: ps.map .byte) (by simp)
  refine completes_retire (hstore.trans hwrite) (by constructor <;> simp) ⟨?_, regGet_setGpr _ rt w⟩
  simpa using hbytes

/-- The same of a store-conditional, which clears LLbit. -/
theorem completes_storeBytes_setGpr_unlink {s : State} {k : AccessKind} {a : Dword} {back n : Nat} {ps : List Nat}
    (h : s.Reaches k a back n ps) (v : Dword) (rt : Reg) (w : Dword) :
    Completes s (s.access k a back n fun ps => { ((s.storeBytes ps v).setGpr rt w).retire with llbit := false })
      (.gpr rt :: .link :: ps.map .byte) fun t =>
        ps.map (memRead t.mem) = splitBytes s.bigEndianCPU n v ∧
        regGet t.gpr rt = (if rt = 0 then regGet s.gpr 0 else s.norm w) ∧ t.llbit = false := by
  refine completes_access _ h ?_ fun _ hpost => hpost
  exact ((completes_storeBytes_setGpr h v rt w).setLink (by simp) false _ fun _ hpost => hpost).mono
    (List.Subset.refl _) fun _ ⟨⟨hbytes, hvalue⟩, hbit, _⟩ => ⟨hbytes, hvalue, hbit⟩

/-- Settles O34: with the link the bytes are stored and rt becomes 1, without LLbit rt becomes 0 and nothing is stored, and
with a condition of R233 broken the bytes and rt are free. -/
theorem storeConditionalsStoreOnlyWithTheLink : Obligations.StoreConditionalsStoreOnlyWithTheLink := by
  unfold Obligations.StoreConditionalsStoreOnlyWithTheLink
  intro s base rt offset a conditional
  have stores (n : Nat) : conditional (s.storeConditional n base rt offset) n := by
    intro pa ty ha ho htr hc link
    refine ⟨fun ps hbit hlink hr => ?linked, fun hbit hlink => ?unlinked, fun ps hlink hr => ?broken⟩
    case linked =>
      rw [State.storeConditional_linked ha ho htr hc hbit hlink]
      exact completes_storeBytes_setGpr_unlink hr (s.getGpr2 rt) rt 1
    case unlinked =>
      rw [State.storeConditional_unlinked ha ho htr hc hbit hlink]
      have hzero := (writesGpr_writeGpr s rt 0).mono (w := [.gpr rt, .link]) (by simp) fun _ hvalue => hvalue
      exact (hzero.setLink (by simp) false _ fun _ hvalue => hvalue).mono (List.Subset.refl _)
        fun _ ⟨hvalue, hbit, _⟩ => ⟨hvalue, hbit⟩
    case broken =>
      rw [State.storeConditional_broken rt ha ho htr hc hlink]
      exact (completes_storeBytes_setGpr_unlink hr (s.draw slotStore) rt (s.draw slotResult)).mono (List.Subset.refl _)
        fun _ ⟨_, _, hbit⟩ => hbit
  exact ⟨leveled_of_passed (fun out => conditional out 2) (stores 2),
    leveled_of_passed (fun out => conditional out 3) (stores 3)⟩

end Sys2Proof.Machine
end

section
/-! PROOFS. The transfers of coprocessor 2 (40_cpu_load_store.md R238, R240 to R243, 45_cpu_trap_sync_move_cop.md R442). -/

namespace Sys2Proof.Machine

/-! ### The tests -/

theorem State.needCop2_absent {s : State} {n : Nat} (k : Out) (hu : s.usable 2 = true) (hl : n ≤ s.env.archLevel)
    (hp : s.env.cop2Present = false) : s.needCop2 n k = .refused .unimplementedCoprocessor :=
  (State.needCop_pass _ hu).trans ((State.needLevel_pass _ hl).trans (if_neg (by simp [hp])))

theorem State.needCop2_level {s : State} {n : Nat} (k : Out) (hu : s.usable 2 = true) (hl : s.env.archLevel < n) :
    Raises s (s.needCop2 n k) .reservedInstruction := (State.needCop_pass _ hu).trans (State.needLevel_fail _ hl)

/-! ### Loads -/

theorem State.loadCop2_pass {s : State} {n : Nat} {base : Reg} (rt : Reg) {offset : BitVec 16}
    (ha : alignedAt n (s.effAddr base offset)) (ho : s.offsetOk n offset) :
    s.loadCop2 n base rt offset = s.access .load (s.effAddr base offset) 0 (2 ^ n) fun ps =>
      (s.setCop2 (s.givenCop2 (n == 3) rt (s.result [base] (s.memValue ps)))).retireWith
        (s.loadCop2Hazard (n == 3) rt) .none :=
  (State.needAligned_pass _ ha).trans (State.needOffset_pass _ ho)

theorem Frame.setCop2_gen (s : State) (r : Reg) (v : Dword) :
    Frame s (s.setCop2 { s.cop2Regs with gen := regSet s.cop2Gen r v }) [.cop2 r] := by
  constructor <;> simp [State.cop2Regs]
  intro q hq
  exact regGet_regSet_other _ _ _ _ hq

theorem State.givenCop2_usual {s : State} (h : s.env.cop2Usual = true) (double : Bool) (rt : Reg) (v : Dword) :
    s.givenCop2 double rt v = { s.cop2Regs with
      gen := regSet s.cop2Gen rt (if double then v else lowWord (s.draw slotResult) ++ lowWord v) } := if_pos h

theorem State.givenCop2_unusual {s : State} (h : s.env.cop2Usual = false) (double : Bool) (rt : Reg) (v : Dword) :
    s.givenCop2 double rt v = Config.cop2Load s.free double rt v s.cop2Regs := if_neg (by simp [h])

theorem lowWord_append_lowWord (x : Word) (v : Dword) : lowWord (x ++ lowWord v) = lowWord v :=
  BitVec.extractLsb'_append_eq_right

/-- A load to coprocessor 2 with its usual action. -/
theorem completes_loadCop2_usual {s : State} (h : s.env.cop2Usual = true) (n : Nat) (rt : Reg) (v : Dword) (hz : Hazards) :
    Completes s (.next ((s.setCop2 (s.givenCop2 (n == 3) rt v)).retireWith hz .none)) [.cop2 rt] fun t =>
      if n = 3 then regGet t.cop2Gen rt = v else (regGet t.cop2Gen rt).setWidth 32 = v.setWidth 32 := by
  rw [State.givenCop2_usual h]
  refine completes_retireWith (Frame.setCop2_gen s rt _) ⟨rfl, rfl, rfl⟩ _ _ ?_
  by_cases hn : n = 3
  · simp [hn]
  · simp [hn, setWidth_eq_lowWord, lowWord_append_lowWord]

/-- The same with another action. -/
theorem completes_loadCop2_unusual {s : State} (h : s.env.cop2Usual = false) (double : Bool) (rt : Reg) (v : Dword)
    (hz : Hazards) :
    Completes s (.next ((s.setCop2 (s.givenCop2 double rt v)).retireWith hz .none)) [.cop2Unit] fun t =>
      t.cop2Regs = Config.cop2Load s.free double rt v s.cop2Regs := by
  rw [State.givenCop2_unusual h]
  exact completes_retireWith (Frame.setCop2 s _) ⟨rfl, rfl, rfl⟩ _ _ rfl

/-! ### Stores -/

theorem State.storeCop2_pass {s : State} {n : Nat} {base : Reg} (rt : Reg) {offset : BitVec 16}
    (ha : alignedAt n (s.effAddr base offset)) (ho : s.offsetOk n offset) :
    s.storeCop2 n base rt offset = s.access .store (s.effAddr base offset) 0 (2 ^ n) fun ps =>
      ((s.storeBytes ps (s.takenCop2 (n == 3) rt).1).setCop2 (s.takenCop2 (n == 3) rt).2).retire :=
  (State.needAligned_pass _ ha).trans (State.needOffset_pass _ ho)

theorem State.takenCop2_usual {s : State} (h : s.env.cop2Usual = true) (double : Bool) (rt : Reg) :
    s.takenCop2 double rt = (regGet s.cop2Gen rt, s.cop2Regs) := if_pos h

theorem State.takenCop2_unusual {s : State} (h : s.env.cop2Usual = false) (double : Bool) (rt : Reg) :
    s.takenCop2 double rt = Config.cop2Store s.free double rt s.cop2Regs := if_neg (by simp [h])

/-- A store and then new registers of coprocessor 2, in one instruction. -/
theorem completes_storeBytes_setCop2 {s : State} {k : AccessKind} {a : Dword} {back n : Nat} {ps : List Nat}
    (h : s.Reaches k a back n ps) (v : Dword) (c : Cop2State) :
    Completes s (.next ((s.storeBytes ps v).setCop2 c).retire) (.cop2Unit :: ps.map .byte) fun t =>
      ps.map (memRead t.mem) = splitBytes s.bigEndianCPU n v ∧ t.cop2Regs = c := by
  obtain ⟨t, hnext, -, -, hbytes⟩ := completes_storeBytes v h
  cases hnext
  have hstore := (Frame.storeBytes s ps v).mono (w := .cop2Unit :: ps.map .byte) (List.subset_cons_self _ _)
  have hunit := (Frame.setCop2 (s.storeBytes ps v) c).mono (w := .cop2Unit :: ps.map .byte) (by simp)
  exact completes_retire (hstore.trans hunit) ⟨rfl, rfl, rfl⟩ ⟨hbytes, rfl⟩

/-! ### The statement -/

/-- Settles O36: each instruction, its tests passed, is a load that gives the unit its value or a store of what the unit
supplies. -/
theorem coprocessorTwoTransfersMoveData : Obligations.CoprocessorTwoTransfersMoveData := by
  unfold Obligations.CoprocessorTwoTransfersMoveData
  intro s base rt offset h1 a lw sw ld sd c2 loads stores
  have hloads (n : Nat) : loads (s.loadCop2 n base rt offset) n := by
    intro ps ha ho hr
    rw [State.loadCop2_pass rt ha ho]
    refine ⟨s.result [base] (s.memValue ps), State.result_pass _, fun h => ?usual, fun h => ?unusual⟩
    case usual => exact completes_access _ hr (completes_loadCop2_usual h n rt _ _) fun _ hpost => hpost
    case unusual => exact completes_access _ hr (completes_loadCop2_unusual h _ rt _ _) fun _ hpost => hpost
  have hstores (n : Nat) : stores (s.storeCop2 n base rt offset) n := by
    intro ps ha ho hr
    rw [State.storeCop2_pass rt ha ho]
    refine ⟨fun h => ?usual, fun h => ?unusual⟩
    case usual =>
      rw [State.takenCop2_usual h]
      exact completes_access _ hr (completes_storeBytes c2 hr) fun _ hpost => hpost
    case unusual =>
      rw [State.takenCop2_unusual h]
      exact completes_access _ hr (completes_storeBytes_setCop2 hr _ _) fun _ hpost => hpost
  refine ⟨fun hu => ?unusable, fun hu h2 => ⟨State.needCop2_level _ hu h2, State.needCop2_level _ hu h2⟩,
    fun hu hp => ⟨State.needCop2_absent _ hu h1 hp, State.needCop2_absent _ hu h1 hp,
      fun h2 => ⟨State.needCop2_absent _ hu h2 hp, State.needCop2_absent _ hu h2 hp⟩⟩, fun hu hp => ?present⟩
  case unusable =>
    simp only [List.forall_mem_cons]
    exact ⟨State.needCop_fail _ hu, State.needCop_fail _ hu, State.needCop_fail _ hu, State.needCop_fail _ hu, by simp⟩
  case present =>
    have hlw : lw = s.loadCop2 2 base rt offset := exec_lwc2 hu hp base rt offset h1
    have hsw : sw = s.storeCop2 2 base rt offset := exec_swc2 hu hp base rt offset h1
    rw [hlw, hsw]
    refine ⟨hloads 2, hstores 2, fun h2 => ?_⟩
    have hld : ld = s.loadCop2 3 base rt offset := exec_ldc2 hu hp base rt offset h2
    have hsd : sd = s.storeCop2 3 base rt offset := exec_sdc2 hu hp base rt offset h2
    rw [hld, hsd]
    exact ⟨hloads 3, hstores 3⟩

end Sys2Proof.Machine
end

section
/-! PROOFS. Loads to the FPU (47_fpu_transfer.md R554 to R557, R559, R561, R563). -/

namespace Sys2Proof.Machine

/-- A load of a word into an FGR that goes through. -/
theorem completes_loadWordC1 {s : State} {srcs : List Reg} {a : Dword} {n : Reg} {ps : List Nat}
    (hr : s.Reaches .load a 0 4 ps) :
    Completes s (s.loadWordC1 srcs a n) (s.wordParts n) fun t =>
      (s.movedGpr srcs = false → regGet t.fgrLo n = (s.memValue ps).setWidth 32) ∧ t.tagOf n = .uninterpreted := by
  refine completes_access _ hr ((completes_loadWordFgr s n _ _).mono (List.Subset.refl _) fun t ⟨hlow, htag⟩ =>
    ⟨fun hm => ?_, htag⟩) fun _ h => h
  rw [hlow, State.result_pass _ hm, setWidth_eq_lowWord]

/-- No move to an FPR is pending after a load, so that what it loaded reads so. -/
theorem completes_loadDwordC1 {s : State} {srcs : List Reg} {a : Dword} {n : Reg} {ps : List Nat}
    (hr : s.Reaches .load a 0 8 ps) :
    Completes s (s.loadDwordC1 srcs a n) (s.fprParts n) fun t =>
      (s.badFpr [n] = false → s.movedGpr srcs = false → t.pairBits n = s.memValue ps) ∧
        t.tagOf n = .uninterpreted := by
  refine completes_access _ hr ?_ fun _ h => h
  obtain ⟨t, hnext, hframe, hadvanced, hpair, htag⟩ :=
    completes_loadDwordFgr s n (s.result srcs (s.memValue ps)) Hazards.empty
  cases hnext
  exact ⟨_, rfl, hframe, hadvanced, fun hnamed hm =>
    (State.pairBits_eq rfl n).trans ((hpair hnamed).trans (State.result_pass _ hm)), htag⟩

/-- Settles O46: each instruction, its tests passed, is a load into the FGR or the FPR. -/
theorem fpuLoadsFillTheFgr : Obligations.FpuLoadsFillTheFgr := by
  unfold Obligations.FpuLoadsFillTheFgr
  intro s base index n offset word dword a x
  have hword (l : List Reg) (b : Dword) : word (s.loadWordC1 l b n) l b := fun _ hr => completes_loadWordC1 hr
  have hdword (l : List Reg) (b : Dword) : dword (s.loadDwordC1 l b n) l b := fun _ hr => completes_loadDwordC1 hr
  refine ⟨⟨State.needCop_fail _, fun _ hlevel => absurd hlevel (Nat.not_lt_zero _), fun hu _ ha ho => ?lwc1⟩,
    fun hu h2 ha ho => ?ldc1, fun h4 => ⟨State.needCop1x_fail _ h4, fun hu hr ha => ?lwxc1⟩,
    fun h4 => ⟨State.needCop1x_fail _ h4, fun hu hr ha => ?ldxc1⟩⟩
  case lwc1 => rw [exec_lwc1 hu, State.withOffset_pass _ ha ho]; exact hword [base] a
  case ldc1 => rw [exec_ldc1 hu _ _ _ h2, State.withOffset_pass _ ha ho]; exact hdword [base] a
  case lwxc1 => rw [exec_lwxc1 hu _ _ h4, State.withIndex_pass _ hr ha]; exact hword [base, index] x
  case ldxc1 => rw [exec_ldxc1 hu _ _ h4, State.withIndex_pass _ hr ha]; exact hdword [base, index] x

end Sys2Proof.Machine
end

section
/-! PROOFS. The load delay of MIPS I (70_reset_and_hazards.md R820, R821, R826, 93_implementation_defined.md U27, U28). -/

namespace Sys2Proof.Machine

/-! ### Loads mark their register -/

/-- An access that goes through leaves the trackers that its continuation leaves. -/
theorem State.access_hazards {s : State} {k : AccessKind} {a : Dword} {back n : Nat} {ps : List Nat}
    (f : List Nat → State) (h : s.Reaches k a back n ps) :
    ∃ t, s.access k a back n f = .next t ∧ t.hazards = (f ps).hazards := by
  obtain ⟨l, hbytes, rfl⟩ := h
  refine ⟨(f (l.map Prod.fst)).noteTypes l, ?_, rfl⟩
  rw [State.access, hbytes]

section
variable {s : State} {k : AccessKind} {a : Dword} {be : Bool} {unit m : Nat} {ps : List Nat}

theorem State.reaches_leftSpan_iff : s.Reaches k a (leftSpan be unit m).1 (leftSpan be unit m).2 ps ↔
    if be then s.Reaches k a 0 (unit - m) ps else s.Reaches k a m (m + 1) ps := by cases be <;> rfl

theorem State.reaches_rightSpan_iff : s.Reaches k a (rightSpan be unit m).1 (rightSpan be unit m).2 ps ↔
    if be then s.Reaches k a m (m + 1) ps else s.Reaches k a 0 (unit - m) ps := by cases be <;> rfl

end

section
variable {s : State} (hlevel : s.env.archLevel = 1)
include hlevel

theorem State.offsetOk_of_level (n : Nat) (offset : BitVec 16) : s.offsetOk n offset := fun h4 => by omega

theorem State.loadHazard_of_level {rt : Reg} (h0 : rt ≠ 0) : (s.loadHazard rt).loadGpr = some rt :=
  if_pos ⟨hlevel, h0⟩

/-- An aligned load to a register other than 0 marks it. -/
theorem State.loadAligned_marks {n : Nat} {base rt : Reg} {offset : BitVec 16} {ps : List Nat} (ext : Dword → Dword)
    (ha : alignedAt n (s.effAddr base offset)) (hr : s.Reaches .load (s.effAddr base offset) 0 (2 ^ n) ps)
    (h0 : rt ≠ 0) : ∃ t, s.loadAligned n base rt offset ext = .next t ∧ t.hazards.loadGpr = some rt := by
  rw [State.loadAligned_pass ext ha (State.offsetOk_of_level hlevel n offset)]
  obtain ⟨t, hnext, hz⟩ := State.access_hazards _ hr
  exact ⟨t, hnext, hz ▸ State.loadHazard_of_level hlevel h0⟩

/-- A load of part of a unit marks its register likewise. -/
theorem State.loadPart_marks {span : Nat × Nat} {base rt : Reg} {offset : BitVec 16} {ps : List Nat}
    (merge : Nat → Dword → Dword → Dword) (hr : s.Reaches .load (s.effAddr base offset) span.1 span.2 ps) (h0 : rt ≠ 0) :
    ∃ t, s.loadPart span base rt offset merge = .next t ∧ t.hazards.loadGpr = some rt := by
  obtain ⟨t, hnext, hz⟩ := State.access_hazards _ hr
  exact ⟨t, hnext, hz ▸ State.loadHazard_of_level hlevel h0⟩

theorem exec_lwc1_marks {base ft : Reg} {offset : BitVec 16} {ps : List Nat} (hu : s.usable 1 = true)
    (ha : alignedAt 2 (s.effAddr base offset)) (hr : s.Reaches .load (s.effAddr base offset) 0 4 ps) :
    ∃ t, exec (.lwc1 base ft offset) s = .next t ∧ t.hazards.loadFpr = some ft := by
  rw [exec_lwc1 hu, State.withOffset_pass _ ha (State.offsetOk_of_level hlevel 2 offset)]
  obtain ⟨t, hnext, hz⟩ := State.access_hazards _ hr
  exact ⟨t, hnext, hz ▸ if_pos hlevel⟩

theorem exec_lwc2_marks {base rt : Reg} {offset : BitVec 16} {ps : List Nat} (hu : s.usable 2 = true)
    (hp : s.env.cop2Present = true) (ha : alignedAt 2 (s.effAddr base offset))
    (hr : s.Reaches .load (s.effAddr base offset) 0 4 ps) :
    ∃ t, exec (.lwc2 base rt offset) s = .next t ∧ t.hazards.loadCop2 = some rt := by
  rw [exec_lwc2 hu hp _ _ _ hlevel.ge, State.loadCop2_pass rt ha (State.offsetOk_of_level hlevel 2 offset)]
  obtain ⟨t, hnext, hz⟩ := State.access_hazards _ hr
  exact ⟨t, hnext, hz ▸ if_pos ⟨hlevel, rfl⟩⟩

end

/-! ### What breaks a load delay -/

theorem State.runWord_loadDelayBroken {s : State} {bs rest : List Byte} {i : Instr} {r : Refusal}
    (run : Instr → State → Out) (hf : s.fetchBytes = .ok bs) (hd : decodeBytes s.env.bigEndianMem bs = .ok (i, rest))
    (hl : s.loadDelayBroken i = some r) : s.runWord run = .refused r := by
  unfold State.runWord
  rw [State.orRaise_ok _ hf]
  simp only [hd, hl]

/-- The coprocessor that the instruction needs before it reads anything is usable. -/
def State.UnitReady (s : State) (i : Instr) : Prop := ∀ z, sourceUnit i = some z → s.usable z = true

section
variable {s : State} {r : Reg} {i : Instr} (hlevel : s.env.archLevel = 1) (hunit : s.UnitReady i)
include hlevel hunit

/-- At MIPS I, with its coprocessor usable, an instruction is tested against the three marks in turn. -/
theorem State.loadDelayBroken_of_ready : s.loadDelayBroken i =
    if ∃ q, s.hazards.loadGpr = some q ∧ q ∈ gprSources i ∧ mergesInto q i = false then some .loadDelay
    else if ∃ q, s.hazards.loadFpr = some q ∧ q ∈ s.fgrSources i then some .fpLoadDelay
    else if ∃ q, s.hazards.loadCop2 = some q ∧ q ∈ cop2Sources i then some .cop2LoadDelay
    else none := by
  have hready : sourceUnit i = none ∨ ∃ z, sourceUnit i = some z ∧ s.usable z = true := by
    cases hi : sourceUnit i with
    | none => exact .inl rfl
    | some z => exact .inr ⟨z, rfl, hunit z hi⟩
  unfold State.loadDelayBroken
  rw [if_pos (by rcases hready with hi | ⟨z, hi, hz⟩ <;> simp [*])]
  cases s.hazards.loadGpr <;> cases s.hazards.loadFpr <;> cases s.hazards.loadCop2 <;> simp

theorem State.loadDelayBroken_gpr (hz : s.hazards = { Hazards.empty with loadGpr := some r }) :
    s.loadDelayBroken i = if r ∈ gprSources i ∧ mergesInto r i = false then some .loadDelay else none := by
  simp [State.loadDelayBroken_of_ready hlevel hunit, hz, Hazards.empty]

theorem State.loadDelayBroken_fpr (hz : s.hazards = { Hazards.empty with loadFpr := some r }) :
    s.loadDelayBroken i = if r ∈ s.fgrSources i then some .fpLoadDelay else none := by
  simp [State.loadDelayBroken_of_ready hlevel hunit, hz, Hazards.empty]

theorem State.loadDelayBroken_cop2 (hz : s.hazards = { Hazards.empty with loadCop2 := some r }) :
    s.loadDelayBroken i = if r ∈ cop2Sources i then some .cop2LoadDelay else none := by
  simp [State.loadDelayBroken_of_ready hlevel hunit, hz, Hazards.empty]

end

theorem State.loadDelayBroken_empty {s : State} (h : s.hazards = Hazards.empty) (i : Instr) :
    s.loadDelayBroken i = none := by
  simp [State.loadDelayBroken, h, Hazards.empty]

/-! ### The statement -/

/-- Settles O60: each load marks its register as it ends, a broken delay makes the step refuse, and an instruction breaks it
by the register that it reads. -/
theorem loadDelaySlotUseIsRefused : Obligations.LoadDelaySlotUseIsRefused := by
  unfold Obligations.LoadDelaySlotUseIsRefused
  refine ⟨?marks, fun s bs rest i r hended htrapped hdelay hagenda hend hf
    hd hl => ?refuses, fun s r q u offset hlevel => ⟨fun hz => ?gpr, fun hz hu => ?fpr, fun hz hu => ?cop2,
    State.loadDelayBroken_empty⟩⟩
  case marks =>
    intro s base rt offset ps hlevel a be k marks
    have aligned (n : Nat) (ext : Dword → Dword) (ha : alignedAt n a) (hr : s.Reaches .load a 0 (2 ^ n) ps) :
        marks (s.loadAligned n base rt offset ext) := State.loadAligned_marks hlevel ext ha hr
    have part {span : Nat × Nat} (merge : Nat → Dword → Dword → Dword) (hr : s.Reaches .load a span.1 span.2 ps) :
        marks (s.loadPart span base rt offset merge) := State.loadPart_marks hlevel merge hr
    have hbyte : alignedAt 0 a := Nat.mod_one _
    rw [exec_lb, exec_lbu, exec_lh, exec_lhu, exec_lw, exec_lwl, exec_lwr]
    refine ⟨fun hr => ⟨aligned 0 _ hbyte hr, aligned 0 _ hbyte hr⟩, fun ha hr => ⟨aligned 1 _ ha hr, aligned 1 _ ha hr⟩,
      fun ha hr => ⟨aligned 2 _ ha hr, fun hu => exec_lwc1_marks hlevel hu ha hr,
        fun hu hp => exec_lwc2_marks hlevel hu hp ha hr⟩, fun hr => part _ ?lwl, fun hr => part _ ?lwr⟩
    case lwl => exact State.reaches_leftSpan_iff.mpr hr
    case lwr => exact State.reaches_rightSpan_iff.mpr hr
  case refuses =>
    rw [step_of_no_event hended htrapped hdelay hagenda, State.instrStep_goes hend]
    exact State.runWord_loadDelayBroken exec hf hd hl
  case gpr =>
    have reads {i : Instr} (hunit : s.UnitReady i) (hr : r ∈ gprSources i) (hm : mergesInto r i = false) :
        s.loadDelayBroken i = some .loadDelay :=
      (State.loadDelayBroken_gpr hlevel hunit hz).trans (if_pos ⟨hr, hm⟩)
    have merges {i : Instr} (hunit : s.UnitReady i) (hm : mergesInto r i = true) : s.loadDelayBroken i = none :=
      (State.loadDelayBroken_gpr hlevel hunit hz).trans (if_neg (by simp [hm]))
    have cpu {i : Instr} (h : sourceUnit i = none) : s.UnitReady i := fun z hs => by simp [h] at hs
    refine ⟨?uses, fun hu => reads (fun z h => Option.some.inj h ▸ hu) (List.mem_singleton_self r) rfl, ?merge⟩
    case uses =>
      simp only [List.forall_mem_cons]
      have first (l : List Reg) : r ∈ r :: l := List.mem_cons_self
      have second (p : Reg) : r ∈ [p, r] := List.mem_cons_of_mem _ (first [])
      exact ⟨reads (cpu rfl) (first [q]) rfl, reads (cpu rfl) (second q) rfl, reads (cpu rfl) (first [q]) rfl,
        reads (cpu rfl) (second q) rfl, reads (cpu rfl) (first [q]) rfl, reads (cpu rfl) (second q) rfl,
        reads (cpu rfl) (first []) rfl, reads (cpu rfl) (first []) rfl, by simp⟩
    case merge =>
      simp only [List.forall_mem_cons]
      exact ⟨merges (cpu rfl) (beq_self_eq_true r), merges (cpu rfl) (beq_self_eq_true r), by simp⟩
  case fpr =>
    have reads {i : Instr} (hs : sourceUnit i = some 1) (hr : r ∈ s.fgrSources i) :
        s.loadDelayBroken i = some .fpLoadDelay :=
      (State.loadDelayBroken_fpr hlevel (fun z h => Option.some.inj (hs.symm.trans h) ▸ hu) hz).trans (if_pos hr)
    simp only [List.forall_mem_cons]
    have hone : r ∈ s.operandFgrs .S r := List.mem_singleton_self r
    exact ⟨reads rfl (List.mem_append_left _ hone), reads rfl (List.mem_append_right _ hone), reads rfl hone, by simp⟩
  case cop2 =>
    have hunit : s.UnitReady (.swc2 q r offset) := fun z h => Option.some.inj h ▸ hu
    exact (State.loadDelayBroken_cop2 hlevel hunit hz).trans (if_pos (List.mem_singleton_self r))

end Sys2Proof.Machine
end

section
/-! PROOFS. The conversions, the formatted moves and the branches on a condition code (49_fpu_convert_move_branch.md R620 to
R633, R640 to R645, R659 to R663). -/

namespace Sys2Proof.Machine

/-! ### Branches -/

theorem State.needCc_fail {s : State} {cc : BitVec 3} (k : Out) (h : s.env.archLevel < 4 ∧ cc ≠ 0) :
    Raises s (s.needCc cc k) .reservedInstruction := if_pos h

section
variable {s : State} {i : Instr} {likely : Bool} {cc : BitVec 3} {offset : BitVec 16}

/-- The course of a floating-point branch once coprocessor 1 and the level are tested. -/
theorem State.fpBranch_fpLeveled {tf : Bool} {p : Prop} (h : s.fpBranch i cc likely tf offset = s.needCc cc
      (if s.fpTrapped i [] then .next s.trapUnimplemented
        else s.notInSlot (.next (s.branchIf (s.branchCond cc == tf) likely offset))) → p) :
    FpLeveled s (if likely then 2 else 1) (s.fpBranch i cc likely tf offset) p := fpLeveled fun _ hpass => h hpass

theorem State.branchCond_of_settled (hcompare : s.hazards.compare = false) (hctc : s.hazards.ctc = false) :
    s.branchCond cc = fccOf s.fcsr cc := if_neg (by simp [hcompare, hctc])

/-- A branch outside a taken slot goes to its target by its condition. -/
theorem branches_notInSlot (hslot : s.notInTakenSlot) (c : Bool) :
    Branches s (s.notInSlot (.next (s.branchIf c likely offset))) [] c likely
      (s.norm (s.pcPlus4 + BitVec.ofInt 64 (4 * offset.toInt))) fun _ => True := by
  rw [State.notInSlot_pass _ hslot, ← State.branchTarget_eq]
  exact branches_branchIf (Frame.refl s []) (Before.refl s) c likely offset trivial

end

/-- Settles O44: each instruction is a floating-point branch, whose condition is the code unless a compare or a CTC1 came
just before. -/
theorem floatingPointBranchesTestTheConditionCode : Obligations.FloatingPointBranchesTestTheConditionCode := by
  unfold Obligations.FloatingPointBranchesTestTheConditionCode
  intro s cc offset target badCode tests
  have branch (i : Instr) (tf likely : Bool) (hexec : exec i s = s.fpBranch i cc likely tf offset) :
      tests i (if likely then 2 else 1) tf likely := by
    dsimp only [tests]
    rw [hexec]
    refine State.fpBranch_fpLeveled fun hpass => ?_
    rw [hpass]
    refine ⟨State.needCc_fail _, fun hgood htrapped => ?unimplemented, fun hgood htrapped hslot => ?goes⟩
    case unimplemented =>
      rw [State.needCc, if_neg hgood, if_pos htrapped]
      exact unimplemented_trapUnimplemented s
    case goes =>
      rw [State.needCc, if_neg hgood, if_neg (by simp [htrapped])]
      refine ⟨fun hcompare hctc => ?_, fun _ => ⟨_, branches_notInSlot hslot _⟩⟩
      rw [State.branchCond_of_settled hcompare hctc]
      exact branches_notInSlot hslot _
  exact ⟨branch _ false false rfl, branch _ true false rfl, branch _ false true rfl, branch _ true true rfl⟩

/-! ### Conversions -/

/-- Settles O58: each instruction is `State.fpArith` on one operand behind the level test. -/
theorem conversionsDeliver : Obligations.ConversionsDeliver := by
  unfold Obligations.ConversionsDeliver
  intro s fs fd converts fixed
  have convert (src dst : FpFmt) (n : Nat) (i : Instr) (pageV : Bool) (c : Word → List Dword → Rounded)
      {g : Word → Dword → Rounded} (hg : ∀ f a, c f [a] = g f a)
      (hexec : exec i s = s.needCop 1 (s.needFpLevel n (s.fpArith i src [fs] (.fpr fd dst) pageV c))) :
      converts src dst n i pageV g := by
    dsimp only [converts]
    rw [hexec]
    refine fpLeveled fun _ hpass => ?_
    rw [hpass]
    refine ⟨fpAside_fpArith s i src [fs] (.fpr fd dst) pageV c, fun a hready => ?_⟩
    have h := fpResult_fpArith (d := .fpr fd dst) pageV c hready
    simpa only [List.map_cons, List.map_nil, hg] using h
  have ofLevel (k : Out) : s.needCop 1 k = s.needCop 1 (s.needFpLevel 0 k) := by
    rw [State.needFpLevel_pass _ (Nat.zero_le _)]
  have toFix (src dst : FpFmt) (n : Nat) (i : Instr) (mode : Word → BitVec 2)
      (hexec : exec i s = s.needCop 1 (s.needFpLevel n (s.fpToFixed i src dst fs fd mode))) : fixed src dst n i mode :=
    convert src dst n i true (fun f vs => toFixed src (mode f) (if dst = .W then 31 else 63) (vs.getD 0 0))
      (fun _ _ => rfl) hexec
  have toFp (src dst : FpFmt) (i : Instr) (hexec : exec i s = s.needCop 1 (s.fpToFp i src dst fs fd)) :
      converts src dst 0 i false (fpConvert s.env src dst) :=
    convert src dst 0 i false (fun f vs => fpConvert s.env src dst f (vs.getD 0 0)) (fun _ _ => rfl)
      (hexec.trans (ofLevel _))
  have fromWord (dst : FpFmt) (i : Instr) (hexec : exec i s = s.needCop 1 (s.fpFromFixed i .W dst fs fd)) :
      converts .W dst 0 i false fun f a => fromInt dst f (a.setWidth 32).toInt :=
    convert (g := fun f a => fromInt dst f (a.setWidth 32).toInt) .W dst 0 i false
      (fun f vs => fromInt dst f (lowWord (vs.getD 0 0)).toInt) (fun _ a => by rw [setWidth_eq_lowWord]; rfl)
      (hexec.trans (ofLevel _))
  have fromLong (dst : FpFmt) (i : Instr)
      (hexec : exec i s = s.needCop 1 (s.needFpLevel 3 (s.fpFromFixed i .L dst fs fd))) :
      converts .L dst 3 i false fun f a => fromInt dst f a.toInt :=
    convert .L dst 3 i false (fun f vs => fromInt dst f (vs.getD 0 0).toInt) (fun _ _ => rfl) hexec
  exact ⟨toFix _ _ _ _ _ rfl, toFix _ _ _ _ _ rfl, toFix _ _ _ _ _ rfl, toFix _ _ _ _ _ rfl, toFix _ _ _ _ _ rfl,
    toFix _ _ _ _ _ rfl, toFix _ _ _ _ _ rfl, toFix _ _ _ _ _ rfl, toFix _ _ _ _ _ rfl, toFix _ _ _ _ _ rfl,
    toFix _ _ _ _ _ rfl, toFix _ _ _ _ _ rfl, toFix _ _ _ _ _ rfl, toFix _ _ _ _ _ rfl, toFix _ _ _ _ _ rfl,
    toFix _ _ _ _ _ rfl, toFix _ _ _ _ _ (ofLevel _), toFix _ _ _ _ _ (ofLevel _), toFix _ _ _ _ _ rfl,
    toFix _ _ _ _ _ rfl, toFp _ _ _ rfl, toFp _ _ _ rfl, fromWord _ _ rfl, fromWord _ _ rfl, fromLong _ _ rfl,
    fromLong _ _ rfl⟩

end Sys2Proof.Machine
end

section
/-! PROOFS. The formatted moves (49_fpu_convert_move_branch.md R640 to R645, 46_fpu_model.md R511, R520 to R523). -/

namespace Sys2Proof.Machine

/-! ### The value of an FPR in a format -/

theorem State.readFpr_value {s : State} {n : Reg} {fmt : FpFmt} {v : Dword} (h : (s.readFpr n fmt).1 = some v) :
    s.fprBits n fmt = v := by
  unfold State.readFpr at h
  split at h
  · exact Option.some.inj h
  · split at h
    · exact Option.some.inj h
    · nomatch h
  · nomatch h

theorem lowWord_zextWord (w : Word) : lowWord (zextWord w) = w := by
  rw [← setWidth_eq_lowWord]
  exact BitVec.setWidth_setWidth_of_le w (by decide)

/-- The bits of an FPR in a format of a word are a word. -/
theorem State.fprBits_canonical (s : State) (n : Reg) (fmt : FpFmt) :
    (if isWordFmt fmt then zextWord (lowWord (s.fprBits n fmt)) else s.fprBits n fmt) = s.fprBits n fmt := by
  unfold State.fprBits
  split
  · rw [lowWord_zextWord]
  · rfl

/-! ### The course of a move -/

theorem State.badFpr_tail {s : State} {n m : Reg} (h : s.badFpr [n, m] = false) : s.badFpr [m] = false := by
  unfold State.badFpr at h ⊢
  revert h
  cases s.fgr64 <;> simp

section
variable {s : State} {i : Instr} {fmt : FpFmt} {fs fd : Reg} {tested : List Dword} {cond : Bool}

theorem completes_fpMove_misnamed (h : ¬ s.badFpr [fs, fd] = false) :
    Completes s (s.fpMove i fmt fs fd tested cond) (s.fprParts fd) fun t => t.tagOf fd = .unknown := by
  unfold State.fpMove
  rw [if_pos (by simpa using h)]
  exact completes_retire (Frame.spoil s fd) (by constructor <;> simp) (State.tagOf_setTag _ fd _)

variable (hnamed : s.badFpr [fs, fd] = false)
include hnamed

theorem unimplemented_fpMove (h : s.fpTrapped i (s.fprBits (if cond then fs else fd) fmt :: tested) = true) :
    Unimplemented s (s.fpMove i fmt fs fd tested cond) := by
  unfold State.fpMove
  rw [if_neg (by simp [hnamed]), if_pos h]
  exact unimplemented_trapUnimplemented s

variable (htrapped : s.fpTrapped i (s.fprBits (if cond then fs else fd) fmt :: tested) = false)
include htrapped

/-- A move that is implemented, of registers that name FPRs, stores what it reads. -/
theorem State.fpMove_readable {v : Dword} (h : (s.readFpr (if cond then fs else fd) fmt).1 = some v) :
    s.fpMove i fmt fs fd tested cond =
      .next ((s.readFpr (if cond then fs else fd) fmt).2.storeFpr fd fmt v).retire := by
  simp [State.fpMove, hnamed, htrapped, h]

theorem State.fpMove_unreadable (h : (s.readFpr (if cond then fs else fd) fmt).1 = none) :
    s.fpMove i fmt fs fd tested cond = s.fpUnknown (s.readFpr (if cond then fs else fd) fmt).2 (.fpr fd fmt) := by
  simp [State.fpMove, hnamed, htrapped, h]

theorem completes_fpMove {v : Dword} (h : (s.readFpr (if cond then fs else fd) fmt).1 = some v) :
    Completes s (s.fpMove i fmt fs fd tested cond) (s.fprParts fd ++ s.sourceTags [if cond then fs else fd])
      fun t => t.fprBits fd fmt = v ∧ t.tagOf fd = .value fmt := by
  rw [State.fpMove_readable hnamed htrapped h]
  generalize (if cond then fs else fd) = src at h ⊢
  have hread : Frame s (s.readFpr src fmt).2 (s.sourceTags [src]) := Frame.readFpr h
  have hfd : (s.readFpr src fmt).2.badFpr [fd] = false := by
    rw [State.badFpr, hread.fgr64]
    exact State.badFpr_tail hnamed
  have hstore := Frame.storeFpr (s.readFpr src fmt).2 fd fmt v hfd
  rw [hread.fprParts] at hstore
  have hbefore : Before s (s.readFpr src fmt).2 := .of_quiet (.readFpr s src fmt) (by simp)
  refine completes_retire ((hread.mono (by simp)).trans (hstore.mono (by simp)))
    ⟨by simpa using hbefore.pc, by simpa using hbefore.delay, by simp⟩
    ⟨?_, State.tagOf_storeFpr _ fd fmt v⟩
  have hcanonical := s.fprBits_canonical src fmt
  rw [State.readFpr_value h] at hcanonical
  have hbits : ((s.readFpr src fmt).2.storeFpr fd fmt v).retire.fprBits fd fmt =
      if isWordFmt fmt then zextWord (lowWord v) else v := State.fprBits_storeFpr hfd rfl rfl hstore.fgr64 rfl
  exact hbits.trans hcanonical

theorem fpUnreadable_fpMove (h : (s.readFpr (if cond then fs else fd) fmt).1 = none) :
    FpUnreadable s (s.fpMove i fmt fs fd tested cond) (s.fprParts (if cond then fs else fd)) (.fpr fd fmt) := by
  rw [State.fpMove_unreadable hnamed htrapped h]
  exact fpUnreadable_fpUnknown _ (Frame.readFpr_any s _ fmt) (.of_quiet (.readFpr s _ fmt) (by simp))

end

/-! ### Reading operands -/

section
variable {s : State} (hmove : s.hazards.moveFpr = [])
include hmove

theorem State.fprBits_settled (n : Reg) (fmt : FpFmt) :
    s.fprBits n fmt = if isWordFmt fmt then (regGet s.fgrLo n).setWidth 64 else s.rawPair n := by
  rw [State.fprBits, State.fgrLow_eq hmove, State.pairBits_eq hmove]
  rfl

theorem State.readFpr_settled (n : Reg) (fmt : FpFmt) :
    (s.readFpr n fmt).1 = match s.tagOf n with
      | .uninterpreted => some (if isWordFmt fmt then (regGet s.fgrLo n).setWidth 64 else s.rawPair n)
      | .value g => if g = fmt then some (if isWordFmt fmt then (regGet s.fgrLo n).setWidth 64 else s.rawPair n) else none
      | .unknown => none := by
  rw [State.readFpr, State.fprBits_settled hmove]
  cases s.tagOf n with
  | uninterpreted => rfl
  | value g => by_cases h : g = fmt <;> simp [h]
  | unknown => rfl

theorem State.operand_settled (fmt : FpFmt) (n : Reg) (k : Nat) (v : Dword) : s.operand fmt n k v = v := by
  have hmoved : s.movedFpr fmt n = false := by
    unfold State.movedFpr
    split <;> simp [hmove]
  exact if_pos (by simp [hmoved])

theorem State.readFprs_settled (n : Reg) (l : List Reg) (fmt : FpFmt) :
    (s.readFprs fmt (n :: l)).1 = match (s.readFpr n fmt).1, ((s.readFpr n fmt).2.readFprs fmt l).1 with
      | some v, some vs => some (v :: vs)
      | _, _ => none := by
  cases hv : (s.readFpr n fmt).1 with
  | none => simp [State.readFprs, hv]
  | some v =>
    cases hvs : ((s.readFpr n fmt).2.readFprs fmt l).1 with
    | none => simp [State.readFprs, hv, hvs]
    | some vs => simp [State.readFprs, hv, hvs, State.operand_settled hmove]

end

/-! ### The statement -/

/-- Settles O59: each instruction is `State.fpMove` of its test, behind the level test. -/
theorem formattedMovesMoveOrKeep : Obligations.FormattedMovesMoveOrKeep := by
  unfold Obligations.FormattedMovesMoveOrKeep
  intro s cc rt fs fd moves onCode
  have move {fmt : FpFmt} {n : Nat} {i : Instr} {tested : List Dword} {test cond : Bool} (htest : test = cond)
      (hexec : exec i s = s.needCop 1 (s.needFpLevel n (s.fpMove i fmt fs fd tested test))) :
      moves fmt n i tested cond := by
    subst htest
    dsimp only [moves]
    rw [hexec]
    refine fpLeveled fun _ hpass => ?_
    rw [hpass]
    exact ⟨completes_fpMove_misnamed, unimplemented_fpMove, fun _ hnamed htrapped => completes_fpMove hnamed htrapped,
      fpUnreadable_fpMove⟩
  have plain {fmt : FpFmt} {i : Instr} (hexec : exec i s = s.needCop 1 (s.fpMove i fmt fs fd [] true)) :
      moves fmt 0 i [] true := move rfl (by rw [State.needFpLevel_pass _ (Nat.zero_le _)]; exact hexec)
  have code {fmt : FpFmt} {i : Instr} {tf test : Bool} (htest : test = (fccOf s.fcsrView cc == tf))
      (hexec : exec i s = s.needCop 1 (s.needFpLevel 4 (s.fpMove i fmt fs fd [] test))) : onCode fmt i tf :=
    ⟨_, fun hctc => by rw [State.fcsrView_of_no_ctc hctc], move htest hexec⟩
  have hfalse : (!fccOf s.fcsrView cc) = (fccOf s.fcsrView cc == false) := by simp
  have htrue : fccOf s.fcsrView cc = (fccOf s.fcsrView cc == true) := by simp
  have hnonzero : (s.getGpr rt != 0) = decide (s.getGpr rt ≠ 0) := decide_not.symm
  exact ⟨plain rfl, code hfalse rfl, code htrue rfl, move rfl rfl, move hnonzero rfl, plain rfl, code hfalse rfl,
    code htrue rfl, move rfl rfl, move hnonzero rfl, State.readFpr_settled, State.readFprs_settled⟩

end Sys2Proof.Machine
end

section
/-! PROOFS. Taking an exception, an interrupt in a delay slot, and the return from an exception (60_exceptions.md R711, R720
to R725, notes/assumptions/19.md, notes/assumptions/20.md). -/

namespace Sys2Proof.Machine

/-! ### The record -/

theorem State.inDelaySlot_iff (s : State) :
    s.inDelaySlot = true ↔ s.afterBranch = true ∨ ∃ x, s.delay = .target x := by
  unfold State.inDelaySlot
  cases s.delay with
  | target x => exact ⟨fun _ => .inr ⟨x, rfl⟩, fun _ => rfl⟩
  | none => simp
  | nullify => simp

theorem badVAddrOf_of_address {c : Cause} {k : AccessKind} {a : Dword}
    (h : c = .addressError k a ∨ c = .tlbRefill k a ∨ c = .tlbInvalid k a ∨ c = .busError k a) :
    badVAddrOf c = some a := by
  rcases h with rfl | rfl | rfl | rfl <;> rfl

/-! ### Taking an exception -/

section
variable {s : State} (c : Cause)

theorem State.raise_halt (h : s.env.trapEntry = .halt) :
    (s.raise c).ended = true ∧ (s.raise c).mode = s.mode ∧ (s.raise c).cu = s.cu := by simp [h]

theorem State.raise_handler {p : Dword} {m : Mode} {u : BitVec 4} (h : s.env.trapEntry = .handler p m u) :
    (s.raise c).pc = s.norm p ∧ (s.raise c).mode = m ∧ (s.raise c).cu = u ∧ (s.raise c).ended = s.ended ∧
      (s.raise c).trapped = s.trapped := by simp [h]

theorem State.raise_specific (h : s.env.trapEntry = .specific) :
    (s.raise c).trapped = true ∧ (s.raise c).pc = s.pc ∧ (s.raise c).mode = s.mode ∧ (s.raise c).cu = s.cu ∧
      (s.raise c).ended = s.ended := by simp [h]

end

/-- Settles O12: the record is `State.record`, the registers are those of before, and where control goes is a case of
`TrapEntry`. -/
theorem takingAnExceptionWritesTheRecord : Obligations.TakingAnExceptionWritesTheRecord := by
  unfold Obligations.TakingAnExceptionWritesTheRecord
  intro s c t
  refine ⟨⟨s.record c, s.raise_exc c, rfl, rfl, s.inDelaySlot_iff, rfl, fun _ _ h => badVAddrOf_of_address h, ?modified⟩,
    s.raise_llbit c, s.raise_delay c, s.raise_gpr c, s.raise_hi c, s.raise_lo c, s.raise_fgrLo c, s.raise_fgrHi c,
    s.raise_fprTag c, s.raise_fcr0 c, s.raise_fcsr c, s.raise_cop2Gen c, s.raise_llRecord c, fun a => ?bytes,
    s.raise_saved c, State.raise_halt c, fun _ _ _ => State.raise_handler c, State.raise_specific c⟩
  case modified => rintro a rfl; rfl
  case bytes => exact congrArg (memRead · a) (s.raise_mem c)

/-! ### Interrupts and returns -/

/-- In the slot of a taken branch the record names the branch, one word before, as the restart address. -/
theorem State.record_of_target {s : State} {x : Dword} (h : s.delay = .target x) (c : Cause) :
    (s.record c).inDelaySlot = true ∧ (s.record c).restart = s.norm (s.pc - 4) := by
  have hslot : s.inDelaySlot = true := s.inDelaySlot_iff.mpr (.inr ⟨x, h⟩)
  exact ⟨hslot, if_pos hslot⟩

theorem State.excReturn_of_record {s : State} {e : ExcRecord} (h : s.exc = some e) : s.excReturn = s.returnTo e.restart := by
  rw [State.excReturn, h]

/-- Settles O13: an interrupt is an exception at the boundary, and the return restores what the entry saved. -/
theorem interruptsAndReturnsKeepTheStream : Obligations.InterruptsAndReturnsKeepTheStream := by
  unfold Obligations.InterruptsAndReturnsKeepTheStream
  refine ⟨fun s x l hended htrapped hagenda hdelay => ?interrupt,
    fun s e m ms l hended htrapped hdelay hagenda hexc hsaved => ?returns⟩
  case interrupt =>
    have hstep := step_of_event hended htrapped (by simp [hdelay]) hagenda (by simp)
    obtain ⟨hslot, hrestart⟩ := State.record_of_target (s := { s with agenda := l }) hdelay .interrupt
    exact ⟨_, _, hstep, State.raise_exc _ _, rfl, rfl, hslot, hrestart, State.raise_delay _ _, State.raise_llbit _ _,
      State.raise_agenda _ _⟩
  case returns =>
    have hstep := step_of_event hended htrapped hdelay hagenda (by simp)
    have hreturn : State.deliver { s with agenda := l } .excReturn = State.returnTo { s with agenda := l } e.restart :=
      State.excReturn_of_record (s := { s with agenda := l }) hexc
    rw [hreturn, State.returnTo_cons (s := { s with agenda := l }) hsaved] at hstep
    exact ⟨_, hstep, rfl, rfl, rfl, rfl, rfl, rfl, rfl, rfl, rfl, rfl, rfl, rfl, rfl, fun _ => rfl⟩

end Sys2Proof.Machine
end
